-- ==== Sys2Proof/Word.lean ====
section
/-! DEFINITION. The word types of the CX-80's host line and profile store: bytes of the line (R178) and sixteen-bit
store words (R173). -/

namespace Sys2Proof

/-- A byte of the host line (R163, R178). -/
abbrev Byte := BitVec 8

/-- A sixteen-bit quantity: a store word (R173), a flag set (R178), a two-byte field (R178). -/
abbrev Half := BitVec 16

end Sys2Proof
end

