-- ==== Sys2Proof/Config.lean ====
section
/-! DEFINITION. The one value of the CX-80 that its manual leaves open, as a constant without a body. -/

namespace Sys2Proof

/-- The part time that follows 4,294,967,295 (R152 gives the count its range and says it goes up by one each second, not
what follows the top). A FREE VALUE: applied to the state's `freeCount`; nothing is known of it. Log entry 5. -/
opaque Config.partTimeAfterTop : Nat → BitVec 32

end Sys2Proof
end

