-- ==== Sys2Proof/Syntax.lean ====
section
/-! DEFINITION. The commands of the CX-80: one constructor of `Instr` for each row of spec/opcode_table.json, with the
names their operands use. -/

namespace Sys2Proof

/-- The six saloon zones, in zone order (00_scope.md). -/
inductive Zone where
  | e | l1 | l2 | u1 | u2 | u3
deriving DecidableEq, Repr

/-- The two decks (R7, R136). -/
inductive Deck where
  | lower | upper
deriving DecidableEq, Repr

/-- The two compressors, or their refrigerant circuits (R93). -/
inductive Comp where
  | a | b
deriving DecidableEq, Repr

/-- The eight grant-table entries, in grant-table order (R40). -/
inductive EntryId where
  | scc | sch
  | zone (z : Zone)
deriving DecidableEq, Repr

/-- The nineteen analog channels (00_scope.md, R4). -/
inductive Channel where
  | zoneTemp (z : Zone)
  | outdoor | coolant | glass | humidity
  | co2 (d : Deck)
  | pressureHigh (c : Comp)
  | pressureLow (c : Comp)
  | coil (c : Comp)
  | solar
deriving DecidableEq, Repr

/-- The two door inputs (R27). -/
inductive Door where
  | front | middle
deriving DecidableEq, Repr

/-- The levels of the input pins other than RESETN and RXD (00_scope.md): `true` is on, present or high. -/
structure Pins where
  ignition : Bool
  frontDoor : Bool
  middleDoor : Bool
  flame : Bool
  rate1 : Bool
  rate0 : Bool
deriving DecidableEq, Repr

/-- The commands: the forty host commands of R179, whose operands are their payload fields as sent, and the part's
events. A host command stands for the completion of its whole frame (log entry 1). -/
inductive Instr where
  /-- ZONE SET (R20): zone id, host mode, stored setpoint (signed tenths). -/
  | zoneSet (zone mode : Byte) (setpoint : Half)
  /-- TUNE (R21): Kp, Ki, DB, setback offset. -/
  | tune (kp ki db offset : Byte)
  /-- PERIOD (R10): period code. -/
  | period (code : Byte)
  /-- QUERY ZONE (R22): zone id. -/
  | queryZone (zone : Byte)
  /-- SEATS (R24): six counts in zone order. -/
  | seats (e l1 l2 u1 u2 u3 : Byte)
  /-- NUDGE (R34): zone id, direction. -/
  | nudge (zone direction : Byte)
  /-- TOUCH (R35): zone set. -/
  | touch (zones : Byte)
  /-- ZONE TIMERS (R36): zone id, setback minutes, standby minutes, reload mask. -/
  | zoneTimers (zone setback standby mask : Byte)
  /-- SHIFT (R37): direction. -/
  | shift (direction : Byte)
  /-- HOME (R38). -/
  | home
  /-- ARB MODE (R61): three priority modes, nesting mode, hold time. -/
  | arbMode (saloon lower upper nesting hold : Byte)
  /-- ARB ORDER (R62): arbiter, line codes highest first. -/
  | arbOrder (arbiter : Byte) (lines : List Byte)
  /-- ROTATE (R63): arbiter, line. -/
  | rotate (arbiter line : Byte)
  /-- MASK (R59): zone set. -/
  | mask (zones : Byte)
  /-- RELEASE (R64): zone id. -/
  | release (zone : Byte)
  /-- QUERY ARBITER (R65). -/
  | queryArbiter
  /-- ALLOWANCE (R77): watts. -/
  | allowance (watts : Half)
  /-- QUERY LOAD (R90). -/
  | queryLoad
  /-- COMP ENABLE (R107): compressor set. -/
  | compEnable (enables : Byte)
  /-- CLEAR LOCKOUT (R108, R123): target. -/
  | clearLockout (target : Byte)
  /-- QUERY PLANT (R110). -/
  | queryPlant
  /-- FUEL PERMIT (R124): permit. -/
  | fuelPermit (permit : Byte)
  /-- CURVE POINTER (R129): address, direction, scope. -/
  | curvePointer (address direction scope : Byte)
  /-- CURVE WRITE (R130): 1 to 9 values. -/
  | curveWrite (values : List Byte)
  /-- CURVE READ (R131): count. -/
  | curveRead (count : Byte)
  /-- ZONE CURVE (R132): zone id, curve code. -/
  | zoneCurve (zone code : Byte)
  /-- VENT LIMITS (R140): vent minimum, fresh minimum. -/
  | ventLimits (vent fresh : Byte)
  /-- SCREEN (R149): value. -/
  | screen (value : Byte)
  /-- PARK (R156). -/
  | park
  /-- DEPART (R161): minutes. -/
  | depart (minutes : Half)
  /-- EVENT ENABLE (R169): flag set. -/
  | eventEnable (flags : Half)
  /-- EVENT CLEAR (R169): flag set. -/
  | eventClear (flags : Half)
  /-- QUERY EVENTS (R169). -/
  | queryEvents
  /-- SNAPSHOT RATE (R170): rate. -/
  | snapshotRate (rate : Byte)
  /-- IDENTIFY (R171). -/
  | identify
  /-- RESET (R172). -/
  | reset
  /-- PROFILE WRITE (R174): row, column, value. -/
  | profileWrite (row column : Byte) (value : Half)
  /-- PROFILE READ (R175): row, column. -/
  | profileRead (row column : Byte)
  /-- PROFILE LOAD (R176). -/
  | profileLoad
  /-- QUERY LOGS (R111). -/
  | queryLogs
  /-- A received frame with a correct CRC completes (R165): its TYPE and payload. -/
  | frameComplete (type : Byte) (payload : List Byte)
  /-- More than 20 ms pass between two received bytes (R164). -/
  | gap
  /-- The waiting reply starts on the free transmitter (R167). -/
  | replyStart
  /-- A waiting EVENT report starts on the free transmitter (R168). -/
  | eventReport
  /-- A waiting SNAPSHOT report starts on the free transmitter (R170). -/
  | snapshotReport
  /-- The last byte of the frame being sent leaves the line (R165, R167). -/
  | frameSent
  /-- The soft reset that follows the RESET reply (R172). -/
  | softReset
  /-- Power-on reset (R152, R153), with the levels of the input pins as the part comes out of it (log entry 30). -/
  | powerOnReset (pins : Pins)
  /-- Part time goes up by one second (R152, R26). -/
  | partTimeTick
  /-- The IGNITION input takes a level (R154). -/
  | ignition (on : Bool)
  /-- A door input changes level, in either direction (R27, R158, R159). -/
  | doorEdge (door : Door)
  /-- The FLAME input becomes present (R119). -/
  | flamePresent
  /-- The FLAME input goes absent (R120). -/
  | flameLoss
  /-- One channel's sample, converted to the channel's unit (R4, R5). -/
  | sample (channel : Channel) (value : Int)
  /-- The zone period timer expires (R9). -/
  | periodExpiry
  /-- A zone's inactivity timer has reached 0 (R29, R30). -/
  | inactivityTimerExpiry (zone : Zone)
  /-- An entry's hold end is reached (R42). -/
  | holdEnd (entry : EntryId)
  /-- The staleness expiry (R76). -/
  | staleness
  /-- The fallback expiry (R76). -/
  | fallback
  /-- The per-second check of the Cooling Sequencer (R99 to R101). -/
  | stagingCheck
  /-- 5 s of Starting have passed (R95). -/
  | startingExpiry (comp : Comp)
  /-- 10 s of Unloading have passed (R96). -/
  | unloadingExpiry (comp : Comp)
  /-- The per-second check of the Heating Sequencer (R114). -/
  | heatingCheck
  /-- 90 s of Ignition have passed (R119). -/
  | ignitionExpiry
  /-- An After-run or Retry-purge has run its full time (R121). -/
  | purgeExpiry
  /-- A damper step (R136). -/
  | damperStep
  /-- The per-second check of the Screen Clear Monitor (R146). -/
  | screenCheck
  /-- 60 s of IGNITION off in Run have passed (R154). -/
  | ignitionOffExpiry
  /-- The depart lead point is reached (R162). -/
  | leadExpiry
  /-- The depart time is reached (R162). -/
  | departTime
  /-- The 20 ms erase of the store word ends (R174). -/
  | eraseEnd
  /-- The 20 ms write of the store word ends (R174). -/
  | storeWriteComplete
  /-- A byte arrives on RXD (R164), its stop bit low when `framingError` (R163). -/
  | byteReceived (byte : Byte) (framingError : Bool)
deriving DecidableEq, Repr

end Sys2Proof
end

