-- ==== Sys2Proof/Machine/State.lean ====
section
/-! DEFINITION. The state of the CX-80 as plain data: every block's state as the chapters give it, the part time, the input
pins, and the queue of waiting commands. `State.reset` is the part right after power-on reset from the factory store. -/

namespace Sys2Proof

/-- The six zones in zone order (00_scope.md). -/
def Zone.all : List Zone := [.e, .l1, .l2, .u1, .u2, .u3]

end Sys2Proof

namespace Sys2Proof.Machine

/-! ## Why a step can stop -/

/-- Why the machine stops with a fault. The CX-80 has no such event: sensor and plant faults are state and event flags
(R5, R105, R119, R120), wrong commands are answered with a status (R166). No meaning raises one. -/
inductive Fault where
deriving DecidableEq, Repr

/-- Why a command has no meaning. -/
inductive Refusal where
  /-- A command without a meaning yet, raised by `exec`'s arm for it and by nothing else. Safe: the machine stops where the
  hardware goes on. No arm raises it now. -/
  | notModelled (mnemonic : String)
deriving DecidableEq, Repr

/-! ## Collections of a fixed size -/

/-- One value for each zone, in zone order. -/
structure PerZone (α : Type) where
  e : α
  l1 : α
  l2 : α
  u1 : α
  u2 : α
  u3 : α
deriving DecidableEq, Repr

def PerZone.get {α : Type} (p : PerZone α) : Zone → α
  | .e => p.e
  | .l1 => p.l1
  | .l2 => p.l2
  | .u1 => p.u1
  | .u2 => p.u2
  | .u3 => p.u3

def PerZone.set {α : Type} (p : PerZone α) (z : Zone) (v : α) : PerZone α :=
  match z with
  | .e => { p with e := v }
  | .l1 => { p with l1 := v }
  | .l2 => { p with l2 := v }
  | .u1 => { p with u1 := v }
  | .u2 => { p with u2 := v }
  | .u3 => { p with u3 := v }

def PerZone.map {α β : Type} (f : Zone → α → β) (p : PerZone α) : PerZone β :=
  ⟨f .e p.e, f .l1 p.l1, f .l2 p.l2, f .u1 p.u1, f .u2 p.u2, f .u3 p.u3⟩

/-- The same value for every zone. -/
def PerZone.const {α : Type} (v : α) : PerZone α := ⟨v, v, v, v, v, v⟩

/-- One value for each of compressors A and B. -/
structure PerComp (α : Type) where
  a : α
  b : α
deriving DecidableEq, Repr

def PerComp.get {α : Type} (p : PerComp α) : Comp → α
  | .a => p.a
  | .b => p.b

def PerComp.set {α : Type} (p : PerComp α) (c : Comp) (v : α) : PerComp α :=
  match c with
  | .a => { p with a := v }
  | .b => { p with b := v }

def PerComp.map {α β : Type} (f : α → β) (p : PerComp α) : PerComp β := ⟨f p.a, f p.b⟩

/-! ## Sensor Scan Unit (R4, R5) -/

inductive ChannelStatus where
  | good | held | failed
deriving DecidableEq, Repr

/-- One analog channel. `sampledAt` is the model's own: the part time of its last sample, or of leaving Parked
(R4: once per second; log entry 3). -/
structure ChannelRec where
  status : ChannelStatus
  lastGood : Option Int
  heldSince : Option Nat
  sampledAt : Option Nat
deriving DecidableEq, Repr

/-- The nineteen channels (00_scope.md). -/
structure Channels where
  zoneTemp : PerZone ChannelRec
  outdoor : ChannelRec
  coolant : ChannelRec
  glass : ChannelRec
  humidity : ChannelRec
  co2Lower : ChannelRec
  co2Upper : ChannelRec
  pressureHigh : PerComp ChannelRec
  pressureLow : PerComp ChannelRec
  coil : PerComp ChannelRec
  solar : ChannelRec
deriving DecidableEq, Repr

/-! ## Zone Controller (R1, R2, R24 to R28) -/

inductive HostMode where
  | off | auto | vent
deriving DecidableEq, Repr

inductive OpMode where
  | off | auto | vent | setback | standby
deriving DecidableEq, Repr

inductive SensorState where
  | good | held | borrowed | lost
deriving DecidableEq, Repr

/-- The kind of a request (R1, R40). -/
inductive ReqKind where
  | none | cool | heat
deriving DecidableEq, Repr

/-- The four reload events, as members of a reload mask (R27). -/
structure ReloadMask where
  seat : Bool
  nudge : Bool
  door : Bool
  touch : Bool
deriving DecidableEq, Repr

/-- A curve code: 0 to 5 for a user curve, 8 to 11 for a built-in curve (R127). -/
inductive CurveCode where
  | user (c : Fin 6)
  | linear | quiet | fastRise | constant
deriving DecidableEq, Repr

/-- The zone record (R1). The held token count stands in the grant table. -/
structure ZoneRec where
  hostMode : HostMode
  opMode : OpMode
  setpoint : Int
  trim : Int
  seats : Nat
  timer : Nat
  setbackMin : Nat
  standbyMin : Nat
  mask : ReloadMask
  sensor : SensorState
  tempUsed : Option Int
  sEff : Int
  integ : Int
  demand : Int
  reqKind : ReqKind
  wanted : Nat
  curve : CurveCode
deriving DecidableEq, Repr

/-- The Zone Controller: the zone table and the saloon-wide settings (R1, R2). `periodTimer` is the length in
milliseconds of the period running, absent while the timer is stopped (R9; log entry 21). -/
structure ZoneCtl where
  zones : PerZone ZoneRec
  shift : Int
  kp : Int
  ki : Int
  db : Int
  setbackOffset : Int
  period : Nat
  pendingPeriod : Nat
  periodTimer : Option Nat
deriving DecidableEq, Repr

/-! ## Capacity Arbiter (R40 to R46) -/

/-- One grant-table entry (R40). `holdPending` is the model's own: the entry's hold end is still to come as an event
(R42, R61; log entry 15). -/
structure GrantEntry where
  kind : ReqKind
  wanted : Nat
  held : Nat
  since : Option Nat
  masked : Bool
  holdPending : Bool
deriving DecidableEq, Repr

structure GrantTable where
  scc : GrantEntry
  sch : GrantEntry
  zones : PerZone GrantEntry
deriving DecidableEq, Repr

def GrantTable.get (t : GrantTable) : EntryId → GrantEntry
  | .scc => t.scc
  | .sch => t.sch
  | .zone z => t.zones.get z

def GrantTable.set (t : GrantTable) (i : EntryId) (v : GrantEntry) : GrantTable :=
  match i with
  | .scc => { t with scc := v }
  | .sch => { t with sch := v }
  | .zone z => { t with zones := t.zones.set z v }

/-- The lines of the three arbiters, in code order (R44, R178). -/
inductive Line where
  | e | lower | upper | l1 | l2 | u1 | u2 | u3
deriving DecidableEq, Repr

inductive PriorityMode where
  | fixed | rotating
deriving DecidableEq, Repr

/-- The nesting modes Strict, Level and Open (R46). -/
inductive Nesting where
  | strict | level | openNest
deriving DecidableEq, Repr

/-- The three priority orders, highest first (R44). -/
structure Orders where
  saloon : List Line
  lower : List Line
  upper : List Line
deriving DecidableEq, Repr

/-- The five mode settings (R46). -/
structure ArbModes where
  saloon : PriorityMode
  lower : PriorityMode
  upper : PriorityMode
  nesting : Nesting
  hold : Nat
deriving DecidableEq, Repr

/-- The Capacity Arbiter (R40 to R46). -/
structure Arbiter where
  table : GrantTable
  queue : List EntryId
  orders : Orders
  modes : ArbModes
  coolCap : Nat
  heatCap : Nat
deriving DecidableEq, Repr

/-! ## Load Account (R75, R87) -/

inductive AllowanceStatus where
  | fresh | stale | fallback
deriving DecidableEq, Repr

/-- The ten load items that may stand on the shed stack (R87). -/
inductive LoadItem where
  | comp (c : Comp)
  | pump | heater
  | blower (z : Zone)
deriving DecidableEq, Repr

structure ShedEntry where
  item : LoadItem
  time : Nat
deriving DecidableEq, Repr

/-- The Load Account. The counted loads are functions of the owners' states and the stack (R72, R73). -/
structure LoadAccount where
  hostValue : Option Nat
  lastRefresh : Option Nat
  status : AllowanceStatus
  fallback : Nat
  stack : List ShedEntry
deriving DecidableEq, Repr

/-! ## Cooling Sequencer (R93, R98, R100, R101) -/

inductive CompState where
  | off | starting | running | unloading | tripped | lockout
deriving DecidableEq, Repr

/-- The conditions of R98, in the order of its table. -/
inductive StartCondition where
  | powerState | state | otherCompressor | offTime | enable | shedStack | pressureChannels | lowAmbient | startLog
deriving DecidableEq, Repr

/-- The compressor record (R93), with the reason of the last staging check (R98, R110). -/
structure CompRec where
  state : CompState
  stateSince : Nat
  onSince : Option Nat
  stoppedSince : Nat
  throttle : Bool
  chargeStart : Option Nat
  enable : Bool
  startLog : List Nat
  tripLog : List Nat
  episodeOpen : Bool
  deferred : Bool
  reason : Option StartCondition
deriving DecidableEq, Repr

/-- The Cooling Sequencer: records, stretches, and what the CA last handed (R58). `checkedAt` is the model's own: the part
time of the last staging check (R100: once per second; log entry 3). -/
structure Cooling where
  comps : PerComp CompRec
  excess : Option Nat
  surplus : Option Nat
  idle : Option Nat
  wantedTotal : Nat
  sccShort : Bool
  checkedAt : Option Nat
deriving DecidableEq, Repr

/-! ## Heating Sequencer (R113) -/

inductive HeaterState where
  | off | ignition | burning | afterRun | retryPurge | lockout
deriving DecidableEq, Repr

/-- Why the present After-run was entered (R113). -/
inductive AfterRunCause where
  | flameLoss | stop
deriving DecidableEq, Repr

/-- The Heating Sequencer. `checkedAt` is the model's own: the part time of the last heating check (log entry 3). -/
structure Heating where
  pump : Bool
  pumpDeferred : Bool
  band : Nat
  heater : HeaterState
  heaterSince : Nat
  attempt : Nat
  relight : Nat
  cause : Option AfterRunCause
  latched : Bool
  heaterDeferred : Bool
  permit : Bool
  startStretch : Option Nat
  idleStretch : Option Nat
  wantedTotal : Nat
  checkedAt : Option Nat
deriving DecidableEq, Repr

/-! ## Air Path Controller (R127, R128, R133, R136, R140) -/

inductive PointerDir where
  | increment | decrement
deriving DecidableEq, Repr

inductive PointerScope where
  | curve | table
deriving DecidableEq, Repr

structure CurvePtr where
  address : Nat
  direction : PointerDir
  scope : PointerScope
deriving DecidableEq, Repr

/-- A zone's blower record (R133). The mode is absent until the ZC has handed one. -/
structure BlowerRec where
  mode : Option OpMode
  demand : Nat
  held : Nat
  speed : Nat
deriving DecidableEq, Repr

/-- The Air Path Controller. `damperAt` is the model's own: the part time of the last damper step, of the reset, or of
leaving Winding-down or Parked (R138, R142; log entry 3). -/
structure AirPath where
  curveTable : List Nat
  pointer : CurvePtr
  blowers : PerZone BlowerRec
  ventMin : Nat
  freshMin : Nat
  damperLower : Nat
  damperUpper : Nat
  damperAt : Nat
deriving DecidableEq, Repr

/-! ## Screen Clear Monitor (R143) -/

/-- The Screen Clear Monitor. `checkedAt` is the model's own: the part time of the last screen check or of leaving
Winding-down or Parked (R146, R151; log entry 3). -/
structure ScreenMonitor where
  active : Bool
  activeSince : Option Nat
  hostRequest : Bool
  fog : Nat
  margin : Option Int
  detection : Bool
  checkedAt : Option Nat
deriving DecidableEq, Repr

/-! ## Power State Controller (R153) -/

inductive PowerState where
  | run | layover | windingDown | parked
deriving DecidableEq, Repr

/-- The blocks that have reported stopped (R153). -/
structure StoppedSet where
  cs : Bool
  hs : Bool
  apc : Bool
deriving DecidableEq, Repr

/-- The Power State Controller. `leadArmed` is the model's own: the lead expiry is still to come (R161, R162; log
entry 16). The lead point may lie before part time 0, so it is an integer. -/
structure PowerCtl where
  power : PowerState
  ignitionOffSince : Option Nat
  stopped : StoppedSet
  departTime : Option Nat
  leadPoint : Option Int
  departLead : Nat
  precondition : Bool
  leadArmed : Bool
deriving DecidableEq, Repr

/-! ## Host Link Unit (R163 to R172) -/

/-- The framer's states with what each keeps (R164): in Body the LEN and the bytes kept, in Check the bytes of the frame from
TYPE on and the first CRC byte once it has come. -/
inductive Framer where
  | hunt
  | length
  | body (len : Nat) (got : List Byte)
  | check (len : Nat) (got : List Byte) (crcHigh : Option Byte)
deriving DecidableEq, Repr

/-- The command in hand (R165): its formed reply, and whether that reply is being sent. `resets` marks a RESET taken
(R172). -/
structure InHand where
  type : Byte
  payload : List Byte
  sending : Bool
  resets : Bool
deriving DecidableEq, Repr

inductive FrameKind where
  | reply | event | snapshot
deriving DecidableEq, Repr

/-- The frame on the transmitter, with its bytes on the line (R167, R178). -/
structure OutFrame where
  kind : FrameKind
  bytes : List Byte
deriving DecidableEq, Repr

/-- The Host Link Unit. A reply waits while `inHand` is present and not being sent. An EVENT report waits while the
unreported set is not empty (R168). `resetDue` is set from the end of the RESET reply to the soft reset (R172; log entry 20). The
flag sets are words of the line (R178), bit 15 unused. -/
structure HostLink where
  lineRate : Nat
  framer : Framer
  inHand : Option InHand
  resetDue : Bool
  sending : Option OutFrame
  latched : Half
  enabled : Half
  unreported : Half
  snapshotRate : Nat
  snapshotCount : Nat
  snapshotWaiting : Bool
deriving DecidableEq, Repr

/-! ## Profile Store (R173, R174) -/

/-- The store's words that differ from their factory contents, by address row × 8 + column, addresses rising. -/
abbrev Memory := List (Nat × Half)

/-- The store's state with its word in progress (R174). -/
inductive StoreState where
  | idle
  | erasing (row column : Nat) (value : Half)
  | writing (row column : Nat) (value : Half)
deriving DecidableEq, Repr

structure ProfileStore where
  cells : Memory
  state : StoreState
deriving DecidableEq, Repr

/-! ## The whole part -/

/-- The state of the CX-80. `freeCount` (log entry 5) and `pending` are the model's own. -/
structure State where
  partTime : Nat
  freeCount : Nat
  pins : Pins
  ssu : Channels
  zc : ZoneCtl
  ca : Arbiter
  la : LoadAccount
  cs : Cooling
  hs : Heating
  apc : AirPath
  scm : ScreenMonitor
  psc : PowerCtl
  hlu : HostLink
  ps : ProfileStore
  pending : List Instr
deriving DecidableEq, Repr

def State.setPartTime (s : State) (v : Nat) : State := { s with partTime := v }
def State.setFreeCount (s : State) (v : Nat) : State := { s with freeCount := v }
def State.setPins (s : State) (v : Pins) : State := { s with pins := v }
def State.setSsu (s : State) (v : Channels) : State := { s with ssu := v }
def State.setZc (s : State) (v : ZoneCtl) : State := { s with zc := v }
def State.setCa (s : State) (v : Arbiter) : State := { s with ca := v }
def State.setLa (s : State) (v : LoadAccount) : State := { s with la := v }
def State.setCs (s : State) (v : Cooling) : State := { s with cs := v }
def State.setHs (s : State) (v : Heating) : State := { s with hs := v }
def State.setApc (s : State) (v : AirPath) : State := { s with apc := v }
def State.setScm (s : State) (v : ScreenMonitor) : State := { s with scm := v }
def State.setPsc (s : State) (v : PowerCtl) : State := { s with psc := v }
def State.setHlu (s : State) (v : HostLink) : State := { s with hlu := v }
def State.setPs (s : State) (v : ProfileStore) : State := { s with ps := v }
def State.setPending (s : State) (v : List Instr) : State := { s with pending := v }

/-- A channel after power-on reset (R5). -/
def ChannelRec.atReset : ChannelRec := ⟨.held, none, some 0, none⟩

/-- A zone record after power-on reset with the factory settings, its zone taken to Standby by the entry to Layover
(R3, R39, R153, R155, R173). -/
def ZoneRec.atReset (door : Bool) : ZoneRec where
  hostMode := .auto
  opMode := .standby
  setpoint := 220
  trim := 0
  seats := 0
  timer := 0
  setbackMin := 10
  standbyMin := 30
  mask := ⟨true, true, door, true⟩
  sensor := .lost
  tempUsed := none
  sEff := 220
  integ := 0
  demand := 0
  reqKind := .none
  wanted := 0
  curve := .linear

/-- A compressor record after power-on reset (R112). -/
def CompRec.atReset : CompRec where
  state := .off
  stateSince := 0
  onSince := none
  stoppedSince := 0
  throttle := false
  chargeStart := none
  enable := true
  startLog := []
  tripLog := []
  episodeOpen := false
  deferred := false
  reason := none

/-- The part right after power-on reset, from the factory store (R173), with every input pin off or low (log entry 7): the power
state is Layover, so every zone stands in Standby (R153). Register values the manual does not give are those of log entry
6. -/
def State.reset : State where
  partTime := 0
  freeCount := 0
  pins := ⟨false, false, false, false, false, false⟩
  ssu :=
    { zoneTemp := .const .atReset
      outdoor := .atReset
      coolant := .atReset
      glass := .atReset
      humidity := .atReset
      co2Lower := .atReset
      co2Upper := .atReset
      pressureHigh := ⟨.atReset, .atReset⟩
      pressureLow := ⟨.atReset, .atReset⟩
      coil := ⟨.atReset, .atReset⟩
      solar := .atReset }
  zc :=
    { zones := ⟨.atReset true, .atReset true, .atReset false, .atReset false, .atReset false, .atReset false⟩
      shift := 0
      kp := 12
      ki := 4
      db := 3
      setbackOffset := 30
      period := 6
      pendingPeriod := 6
      periodTimer := some 2000 }
  ca :=
    { table :=
        { scc := ⟨.cool, 0, 0, none, false, false⟩
          sch := ⟨.heat, 0, 0, none, false, false⟩
          zones := .const ⟨.none, 0, 0, none, false, false⟩ }
      queue := []
      orders := ⟨[.e, .lower, .upper], [.l1, .l2], [.u1, .u2, .u3]⟩
      modes := ⟨.fixed, .fixed, .fixed, .strict, 30⟩
      coolCap := 0
      heatCap := 0 }
  la := ⟨none, none, .fallback, 2000, []⟩
  cs := ⟨⟨.atReset, .atReset⟩, none, none, none, 0, false, none⟩
  hs :=
    { pump := false
      pumpDeferred := false
      band := 0
      heater := .off
      heaterSince := 0
      attempt := 1
      relight := 0
      cause := none
      latched := false
      heaterDeferred := false
      permit := true
      startStretch := none
      idleStretch := none
      wantedTotal := 0
      checkedAt := none }
  apc :=
    { curveTable :=
        [0, 13, 25, 38, 50, 63, 75, 88, 100] ++ [0, 13, 25, 38, 50, 63, 75, 88, 100]
          ++ [0, 13, 25, 38, 50, 63, 75, 88, 100] ++ [0, 13, 25, 38, 50, 63, 75, 88, 100]
          ++ [0, 13, 25, 38, 50, 63, 75, 88, 100] ++ [0, 13, 25, 38, 50, 63, 75, 88, 100]
      pointer := ⟨0, .increment, .curve⟩
      blowers := .const ⟨some .standby, 0, 0, 0⟩
      ventMin := 25
      freshMin := 15
      damperLower := 15
      damperUpper := 15
      damperAt := 0 }
  scm := ⟨false, none, false, 0, none, false, none⟩
  psc := ⟨.layover, none, ⟨false, false, false⟩, none, none, 30, false, false⟩
  hlu :=
    { lineRate := 19200
      framer := .hunt
      inHand := none
      resetDue := false
      sending := none
      latched := 0x1000
      enabled := 0x7FFF
      unreported := 0x1000
      snapshotRate := 0
      snapshotCount := 0
      snapshotWaiting := false }
  ps := ⟨[], .idle⟩
  pending := []

end Sys2Proof.Machine
end

