-- ==== Sys2Proof/Machine/Flags.lean ====
section
/-! DEFINITION. The fifteen event flags and their three sets (R168, R169, R178). -/

namespace Sys2Proof.Machine

/-- The event flags, in bit order (R168, R178). -/
inductive Flag where
  | setback | sensor | preempt | reclaim | shed | allowance | compTrip | compLock | startLimit | auxFault
  | auxLock | screen | power | store | depart
deriving DecidableEq, Repr

/-- A flag's bit in a flag set (R178). -/
def flagBit : Flag → Nat
  | .setback => 0
  | .sensor => 1
  | .preempt => 2
  | .reclaim => 3
  | .shed => 4
  | .allowance => 5
  | .compTrip => 6
  | .compLock => 7
  | .startLimit => 8
  | .auxFault => 9
  | .auxLock => 10
  | .screen => 11
  | .power => 12
  | .store => 13
  | .depart => 14

def flagMask (f : Flag) : Half := 1#16 <<< flagBit f

def hasFlag (set : Half) (f : Flag) : Bool := set.getLsbD (flagBit f)

/-- Setting a flag: no effect while it is latched; otherwise it is latched, and unreported too when it is enabled (R168). -/
def setFlag (f : Flag) (h : HostLink) : HostLink :=
  if hasFlag h.latched f then h
  else
    { h with
      latched := h.latched ||| flagMask f
      unreported := if hasFlag h.enabled f then h.unreported ||| flagMask f else h.unreported }

/-- A block sets a flag in the HLU (R168). -/
def raise (f : Flag) (s : State) : State := s.setHlu (setFlag f s.hlu)

/-- EVENT ENABLE's effect: the enable set replaced, removed flags leave the unreported set (R169). -/
def enableFlags (set : Half) (h : HostLink) : HostLink :=
  { h with enabled := set, unreported := h.unreported &&& set }

/-- EVENT CLEAR's effect: the named flags leave the latched and the unreported set (R169). -/
def clearFlags (set : Half) (h : HostLink) : HostLink :=
  { h with latched := h.latched &&& ~~~set, unreported := h.unreported &&& ~~~set }

end Sys2Proof.Machine
end

