-- ==== Sys2Proof/Decode.lean ====
section
/-! DEFINITION. What bits spell which command. spec/opcode_table.json gives no row any bits, so no word spells a command. A
received frame's TYPE byte and payload do (R178, R179), and `decodeFrame` and `encodeFrame` are that coding, in the two
directions. -/

namespace Sys2Proof

/-- The command that a table word spells: none, since the table gives no row any bits. -/
def decodeTableWord (_nbits _w : Nat) : Option Instr := none

/-- Two bytes of a frame as a sixteen-bit field, high byte first (R178). -/
def joinBytes (hi lo : Byte) : Half := hi ++ lo

/-- The high and the low byte of a sixteen-bit field (R178). -/
def highByte (h : Half) : Byte := (h >>> 8).setWidth 8

/-- The low byte of a sixteen-bit field (R178). -/
def lowByte (h : Half) : Byte := h.setWidth 8

/-- What the HLU makes of a completed frame (R165). -/
inductive FrameDecode where
  /-- A TYPE that is no command type code: answered BAD_TYPE. -/
  | unknownType
  /-- A known TYPE with a payload length it does not allow: answered BAD_LENGTH. -/
  | badLength
  /-- A command for its owning block. -/
  | command (i : Instr)
deriving DecidableEq, Repr

/-- The command type codes are 0x01 to 0x28 (R179). -/
def knownType (type : Byte) : Bool := decide (1 ≤ type.toNat) && decide (type.toNat ≤ 0x28)

/-- The command whose TYPE code and payload these are, where the length is one the TYPE allows (the table of R179). -/
def commandOf (type : Nat) (payload : List Byte) : Option Instr :=
  match type, payload with
  | 0x01, [z, m, hi, lo] => some (.zoneSet z m (joinBytes hi lo))
  | 0x02, [kp, ki, db, off] => some (.tune kp ki db off)
  | 0x03, [c] => some (.period c)
  | 0x04, [z] => some (.queryZone z)
  | 0x05, [e, l1, l2, u1, u2, u3] => some (.seats e l1 l2 u1 u2 u3)
  | 0x06, [z, d] => some (.nudge z d)
  | 0x07, [zs] => some (.touch zs)
  | 0x08, [z, sb, st, m] => some (.zoneTimers z sb st m)
  | 0x09, [d] => some (.shift d)
  | 0x0A, [] => some .home
  | 0x0B, [s, l, u, n, h] => some (.arbMode s l u n h)
  | 0x0C, [a, x, y] => some (.arbOrder a [x, y])
  | 0x0C, [a, x, y, w] => some (.arbOrder a [x, y, w])
  | 0x0D, [a, l] => some (.rotate a l)
  | 0x0E, [zs] => some (.mask zs)
  | 0x0F, [z] => some (.release z)
  | 0x10, [] => some .queryArbiter
  | 0x11, [hi, lo] => some (.allowance (joinBytes hi lo))
  | 0x12, [] => some .queryLoad
  | 0x13, [cs] => some (.compEnable cs)
  | 0x14, [t] => some (.clearLockout t)
  | 0x15, [] => some .queryPlant
  | 0x16, [p] => some (.fuelPermit p)
  | 0x17, [a, d, s] => some (.curvePointer a d s)
  | 0x18, p => if 1 ≤ p.length ∧ p.length ≤ 9 then some (.curveWrite p) else none
  | 0x19, [n] => some (.curveRead n)
  | 0x1A, [z, c] => some (.zoneCurve z c)
  | 0x1B, [v, f] => some (.ventLimits v f)
  | 0x1C, [v] => some (.screen v)
  | 0x1D, [] => some .park
  | 0x1E, [hi, lo] => some (.depart (joinBytes hi lo))
  | 0x1F, [hi, lo] => some (.eventEnable (joinBytes hi lo))
  | 0x20, [hi, lo] => some (.eventClear (joinBytes hi lo))
  | 0x21, [] => some .queryEvents
  | 0x22, [r] => some (.snapshotRate r)
  | 0x23, [] => some .identify
  | 0x24, [] => some .reset
  | 0x25, [r, c, hi, lo] => some (.profileWrite r c (joinBytes hi lo))
  | 0x26, [r, c] => some (.profileRead r c)
  | 0x27, [] => some .profileLoad
  | 0x28, [] => some .queryLogs
  | _, _ => none

/-- The HLU's check of TYPE and then of the length (R165). -/
def decodeFrame (type : Byte) (payload : List Byte) : FrameDecode :=
  if knownType type then
    match commandOf type.toNat payload with
    | some i => .command i
    | none => .badLength
  else .unknownType

/-- The TYPE byte and payload that carry a host command (R179); none for an event of the part. -/
def encodeFrame : Instr → Option (Byte × List Byte)
  | .zoneSet z m sp => some (0x01, [z, m, highByte sp, lowByte sp])
  | .tune kp ki db off => some (0x02, [kp, ki, db, off])
  | .period c => some (0x03, [c])
  | .queryZone z => some (0x04, [z])
  | .seats e l1 l2 u1 u2 u3 => some (0x05, [e, l1, l2, u1, u2, u3])
  | .nudge z d => some (0x06, [z, d])
  | .touch zs => some (0x07, [zs])
  | .zoneTimers z sb st m => some (0x08, [z, sb, st, m])
  | .shift d => some (0x09, [d])
  | .home => some (0x0A, [])
  | .arbMode s l u n h => some (0x0B, [s, l, u, n, h])
  | .arbOrder a ls => some (0x0C, a :: ls)
  | .rotate a l => some (0x0D, [a, l])
  | .mask zs => some (0x0E, [zs])
  | .release z => some (0x0F, [z])
  | .queryArbiter => some (0x10, [])
  | .allowance w => some (0x11, [highByte w, lowByte w])
  | .queryLoad => some (0x12, [])
  | .compEnable cs => some (0x13, [cs])
  | .clearLockout t => some (0x14, [t])
  | .queryPlant => some (0x15, [])
  | .fuelPermit p => some (0x16, [p])
  | .curvePointer a d s => some (0x17, [a, d, s])
  | .curveWrite vs => some (0x18, vs)
  | .curveRead n => some (0x19, [n])
  | .zoneCurve z c => some (0x1A, [z, c])
  | .ventLimits v f => some (0x1B, [v, f])
  | .screen v => some (0x1C, [v])
  | .park => some (0x1D, [])
  | .depart m => some (0x1E, [highByte m, lowByte m])
  | .eventEnable f => some (0x1F, [highByte f, lowByte f])
  | .eventClear f => some (0x20, [highByte f, lowByte f])
  | .queryEvents => some (0x21, [])
  | .snapshotRate r => some (0x22, [r])
  | .identify => some (0x23, [])
  | .reset => some (0x24, [])
  | .profileWrite r c v => some (0x25, [r, c, highByte v, lowByte v])
  | .profileRead r c => some (0x26, [r, c])
  | .profileLoad => some (0x27, [])
  | .queryLogs => some (0x28, [])
  | .frameComplete _ _ | .gap | .replyStart | .eventReport | .snapshotReport | .frameSent | .softReset
  | .powerOnReset _ | .partTimeTick | .ignition _ | .doorEdge _ | .flamePresent | .flameLoss | .sample _ _
  | .periodExpiry | .inactivityTimerExpiry _ | .holdEnd _ | .staleness | .fallback | .stagingCheck
  | .startingExpiry _ | .unloadingExpiry _ | .heatingCheck | .ignitionExpiry | .purgeExpiry | .damperStep
  | .screenCheck | .ignitionOffExpiry | .leadExpiry | .departTime | .eraseEnd | .storeWriteComplete
  | .byteReceived _ _ => none

end Sys2Proof
end

