-- ==== Sys2Proof/Machine/Operands.lean ====
section
/-! DEFINITION. The operand forms of R178 and R181: enumeration codes and sets in both directions, quantities brought into
their ranges (R166), and the byte coding of fields. -/

namespace Sys2Proof.Machine

/-! ## Quantities (R166) -/

/-- "Clamp x to a to b" (00_scope.md, Arithmetic). -/
def clampInt (lo hi x : Int) : Int := if x < lo then lo else if hi < x then hi else x

/-- "Clamp x to a to b" for a count. -/
def clampNat (lo hi x : Nat) : Nat := if x < lo then lo else if hi < x then hi else x

/-- The greatest multiple of 5 not above a clamped setpoint (R20, R176). -/
def stepSetpoint (x : Int) : Int := clampInt 170 280 x / 5 * 5

/-- An allowance brought to its range and down onto its 50 W step (R77, R78). -/
def stepAllowance (x : Nat) : Nat := min x 15000 / 50 * 50

/-! ## Enumeration codes (R178) -/

def zoneOfCode (b : Byte) : Option Zone :=
  match b.toNat with
  | 0 => some .e
  | 1 => some .l1
  | 2 => some .l2
  | 3 => some .u1
  | 4 => some .u2
  | 5 => some .u3
  | _ => none

def codeOfZone : Zone → Nat
  | .e => 0
  | .l1 => 1
  | .l2 => 2
  | .u1 => 3
  | .u2 => 4
  | .u3 => 5

def codeOfEntry : EntryId → Nat
  | .zone z => codeOfZone z
  | .scc => 6
  | .sch => 7

def hostModeOfCode : Nat → Option HostMode
  | 0 => some .off
  | 1 => some .auto
  | 2 => some .vent
  | _ => none

def codeOfHostMode : HostMode → Nat
  | .off => 0
  | .auto => 1
  | .vent => 2

def codeOfOpMode : OpMode → Nat
  | .off => 0
  | .auto => 1
  | .vent => 2
  | .setback => 3
  | .standby => 4

def codeOfSensor : SensorState → Nat
  | .good => 0
  | .held => 1
  | .borrowed => 2
  | .lost => 3

def codeOfReqKind : ReqKind → Nat
  | .none => 0
  | .cool => 1
  | .heat => 2

/-- Direction of NUDGE and SHIFT: `some true` is up. -/
def upOfCode (b : Byte) : Option Bool :=
  match b.toNat with
  | 0 => some false
  | 1 => some true
  | _ => none

/-- The three arbiters (R44). -/
inductive ArbiterId where
  | saloon | lower | upper
deriving DecidableEq, Repr

def arbiterOfCode (b : Byte) : Option ArbiterId :=
  match b.toNat with
  | 0 => some .saloon
  | 1 => some .lower
  | 2 => some .upper
  | _ => none

def lineOfCode : Nat → Option Line
  | 0 => some .e
  | 1 => some .lower
  | 2 => some .upper
  | 3 => some .l1
  | 4 => some .l2
  | 5 => some .u1
  | 6 => some .u2
  | 7 => some .u3
  | _ => none

def codeOfLine : Line → Nat
  | .e => 0
  | .lower => 1
  | .upper => 2
  | .l1 => 3
  | .l2 => 4
  | .u1 => 5
  | .u2 => 6
  | .u3 => 7

def priorityOfCode : Nat → Option PriorityMode
  | 0 => some .fixed
  | 1 => some .rotating
  | _ => none

def codeOfPriority : PriorityMode → Nat
  | .fixed => 0
  | .rotating => 1

def nestingOfCode : Nat → Option Nesting
  | 0 => some .strict
  | 1 => some .level
  | 2 => some .openNest
  | _ => none

def codeOfNesting : Nesting → Nat
  | .strict => 0
  | .level => 1
  | .openNest => 2

def pointerDirOfCode (b : Byte) : Option PointerDir :=
  match b.toNat with
  | 0 => some .increment
  | 1 => some .decrement
  | _ => none

def codeOfPointerDir : PointerDir → Nat
  | .increment => 0
  | .decrement => 1

def pointerScopeOfCode (b : Byte) : Option PointerScope :=
  match b.toNat with
  | 0 => some .curve
  | 1 => some .table
  | _ => none

def codeOfPointerScope : PointerScope → Nat
  | .curve => 0
  | .table => 1

/-- The targets of CLEAR LOCKOUT (R108, R123). -/
inductive LockoutTarget where
  | comp (c : Comp)
  | heater
deriving DecidableEq, Repr

def lockoutTargetOfCode (b : Byte) : Option LockoutTarget :=
  match b.toNat with
  | 0 => some (.comp .a)
  | 1 => some (.comp .b)
  | 2 => some .heater
  | _ => none

def codeOfCompState : CompState → Nat
  | .off => 0
  | .starting => 1
  | .running => 2
  | .unloading => 3
  | .tripped => 4
  | .lockout => 5

def codeOfHeaterState : HeaterState → Nat
  | .off => 0
  | .ignition => 1
  | .burning => 2
  | .afterRun => 3
  | .retryPurge => 4
  | .lockout => 5

/-- The fuel permit: `some true` is on. -/
def permitOfCode : Nat → Option Bool
  | 0 => some false
  | 1 => some true
  | _ => none

/-- The values of SCREEN (R149). -/
inductive ScreenValue where
  | unchanged | on | off
deriving DecidableEq, Repr

def screenValueOfCode (b : Byte) : Option ScreenValue :=
  match b.toNat with
  | 0 => some .unchanged
  | 1 => some .on
  | 2 => some .off
  | _ => none

def codeOfPower : PowerState → Nat
  | .run => 0
  | .layover => 1
  | .windingDown => 2
  | .parked => 3

def codeOfAllowanceStatus : AllowanceStatus → Nat
  | .fresh => 0
  | .stale => 1
  | .fallback => 2

/-- Curve codes 0 to 5 and 8 to 11 (R127). -/
def curveOfCode : Nat → Option CurveCode
  | 0 => some (.user 0)
  | 1 => some (.user 1)
  | 2 => some (.user 2)
  | 3 => some (.user 3)
  | 4 => some (.user 4)
  | 5 => some (.user 5)
  | 8 => some .linear
  | 9 => some .quiet
  | 10 => some .fastRise
  | 11 => some .constant
  | _ => none

def codeOfCurve : CurveCode → Nat
  | .user c => c.val
  | .linear => 8
  | .quiet => 9
  | .fastRise => 10
  | .constant => 11

/-- Item codes of the shed entries (R180, QUERY LOAD reply). -/
def codeOfItem : LoadItem → Nat
  | .comp .a => 0
  | .comp .b => 1
  | .pump => 2
  | .heater => 3
  | .blower z => 4 + codeOfZone z

def codeOfChannelStatus : ChannelStatus → Nat
  | .good => 0
  | .held => 1
  | .failed => 2

/-- The conditions of R98 numbered from 1, 0 for none (R180, compressor record). -/
def codeOfCondition : Option StartCondition → Nat
  | none => 0
  | some .powerState => 1
  | some .state => 2
  | some .otherCompressor => 3
  | some .offTime => 4
  | some .enable => 5
  | some .shedStack => 6
  | some .pressureChannels => 7
  | some .lowAmbient => 8
  | some .startLog => 9

/-! ## Sets as bits (R178) -/

/-- 1 for a set bit, weighted. -/
def bitNat (b : Bool) (weight : Nat) : Nat := if b then weight else 0

/-- Whether a zone set has its unused bits 6 and 7 clear. -/
def zoneSetValid (b : Byte) : Bool := b &&& 0xC0 == 0

def zoneSetHas (b : Byte) (z : Zone) : Bool := b.getLsbD (codeOfZone z)

/-- A zone set as its byte. -/
def zoneSetByte (p : PerZone Bool) : Nat :=
  bitNat p.e 1 + bitNat p.l1 2 + bitNat p.l2 4 + bitNat p.u1 8 + bitNat p.u2 16 + bitNat p.u3 32

/-- A reload mask from a number below 16; none where an unused bit is set. -/
def reloadMaskOfCode (n : Nat) : Option ReloadMask :=
  if n < 16 then some ⟨n.testBit 0, n.testBit 1, n.testBit 2, n.testBit 3⟩ else none

def codeOfReloadMask (m : ReloadMask) : Nat :=
  bitNat m.seat 1 + bitNat m.nudge 2 + bitNat m.door 4 + bitNat m.touch 8

/-- A compressor set (A, B) from a number below 4; none where an unused bit is set. -/
def compSetOfCode (n : Nat) : Option (PerComp Bool) :=
  if n < 4 then some ⟨n.testBit 0, n.testBit 1⟩ else none

def codeOfCompSet (p : PerComp Bool) : Nat := bitNat p.a 1 + bitNat p.b 2

/-- Whether a flag set has its unused bit 15 clear. -/
def flagSetValid (h : Half) : Bool := !h.getLsbD 15

/-! ## Orders (R44, R181) -/

/-- The lines of an arbiter, in its default order (R44). -/
def arbiterLines : ArbiterId → List Line
  | .saloon => [.e, .lower, .upper]
  | .lower => [.l1, .l2]
  | .upper => [.u1, .u2, .u3]

/-- Whether a list is a permutation of the arbiter's lines (R62). -/
def isOrderOf (a : ArbiterId) (ls : List Line) : Bool :=
  ls.length == (arbiterLines a).length && (arbiterLines a).all (fun l => ls.contains l)

/-- A list of line codes as an order of the arbiter; none where a code names nothing or the list is no permutation (R62). -/
def orderOfCodes (a : ArbiterId) (codes : List Nat) : Option (List Line) :=
  match codes.mapM lineOfCode with
  | some ls => if isOrderOf a ls then some ls else none
  | none => none

/-! ## Fields of replies and reports (R178) -/

def byteField (n : Nat) : List Byte := [BitVec.ofNat 8 n]

def intByteField (x : Int) : List Byte := [BitVec.ofInt 8 x]

def halfField (h : Half) : List Byte := [highByte h, lowByte h]

def natField (n : Nat) : List Byte := halfField (BitVec.ofNat 16 n)

def intField (x : Int) : List Byte := halfField (BitVec.ofInt 16 x)

/-- A signed field in tenths, 0x8000 while absent. -/
def tenthsField : Option Int → List Byte
  | some x => intField x
  | none => halfField 0x8000

/-- Four bytes, high byte first, of a 32-bit word. -/
def wordField (w : BitVec 32) : List Byte :=
  [(w >>> 24).setWidth 8, (w >>> 16).setWidth 8, (w >>> 8).setWidth 8, w.setWidth 8]

/-- A part time. -/
def timeField (n : Nat) : List Byte := wordField (BitVec.ofNat 32 n)

def optTimeField (t : Option Nat) : List Byte := timeField (t.getD 0)

/-- A field in seconds "held at 65,535 when longer" (R180). -/
def heldSeconds (n : Nat) : List Byte := natField (min n 65535)

/-- A list of fields cut or filled with zeros to a number of bytes (R178: beyond a list's length, 0). -/
def padTo (n : Nat) (bs : List Byte) : List Byte := bs.take n ++ List.replicate (n - bs.length) 0

end Sys2Proof.Machine
end

