-- ==== Sys2Proof/Machine/Ops.lean ====
section
/-! DEFINITION. Named operations over the state that several chapters share: the profile store's memory, a channel's value
used, and access to one zone's, compressor's or blower's record. -/

namespace Sys2Proof.Machine

/-! ## The profile store's memory (R173) -/

/-- A store address (R173): row × 8 + column. -/
def storeAddress (row column : Nat) : Nat := row * 8 + column

/-- The points of built-in curve 8, Linear (R127). -/
def linearPoints : List Nat := [0, 13, 25, 38, 50, 63, 75, 88, 100]

/-- Columns 0 to 7 of rows 0 to 5 as they leave the factory (R173, R181); `door` is whether the default mask holds DOOR (R27). -/
def factoryZoneWord (door : Bool) : Nat → Nat
  | 0 => 220
  | 1 => 1
  | 2 => 8
  | 3 => 10
  | 4 => 30
  | 5 => if door then 0x0F else 0x0B
  | _ => 0

/-- Row 6 as it leaves the factory (R173; the defaults of R2, R46, R140). -/
def factoryRowSix : Nat → Nat
  | 0 => 12
  | 1 => 4
  | 2 => 3
  | 3 => 6
  | 4 => 30
  | 5 => 30
  | 6 => 25
  | 7 => 15
  | _ => 0

/-- Row 7 as it leaves the factory (R181). -/
def factoryRowSeven : Nat → Nat
  | 4 => 0x0012
  | 5 => 0x0034
  | 6 => 0x0567
  | 7 => 0x7FFF
  | _ => 0

/-- Row 8 as it leaves the factory (R173, R181; the defaults of R75 and R153). -/
def factoryRowEight : Nat → Nat
  | 0 => 2000
  | 1 => 30
  | 2 => 3
  | 3 => 1
  | _ => 0

/-- What the word at an address holds as the part leaves the factory (R173), and so what an unlisted address reads as. -/
def factoryWord (address : Nat) : Half :=
  let row := address / 8
  let column := address % 8
  BitVec.ofNat 16 <|
    if row ≤ 1 then factoryZoneWord true column
    else if row ≤ 5 then factoryZoneWord false column
    else if row = 6 then factoryRowSix column
    else if row = 7 then factoryRowSeven column
    else if row = 8 then factoryRowEight column
    else if address < 126 then linearPoints.getD ((address - 72) % 9) 0
    else 0

/-- The word at an address. -/
def Memory.read (m : Memory) (address : Nat) : Half :=
  match m with
  | [] => factoryWord address
  | c :: rest => if c.1 = address then c.2 else Memory.read rest address

/-- The list without the cell of an address. -/
def Memory.erase (m : Memory) (address : Nat) : Memory := m.filter (fun c => c.1 != address)

/-- A cell put at its place among rising addresses. -/
def Memory.insert (m : Memory) (cell : Nat × Half) : Memory :=
  match m with
  | [] => [cell]
  | c :: rest => if cell.1 < c.1 then cell :: c :: rest else c :: Memory.insert rest cell

/-- The word at an address takes a value; the canonical form is kept, so a factory value leaves no cell. -/
def Memory.write (m : Memory) (address : Nat) (v : Half) : Memory :=
  if v = factoryWord address then Memory.erase m address
  else Memory.insert (Memory.erase m address) (address, v)

/-- The canonical form: addresses below 128 and strictly rising, no cell equal to its factory word. -/
def Memory.wf (m : Memory) : Bool :=
  decide ((m.map Prod.fst).Pairwise (· < ·)) && m.all (fun c => decide (c.1 < 128) && c.2 != factoryWord c.1)

/-! ## Records -/

def State.zone (s : State) (z : Zone) : ZoneRec := s.zc.zones.get z

def State.setZone (s : State) (z : Zone) (r : ZoneRec) : State := s.setZc { s.zc with zones := s.zc.zones.set z r }

def State.comp (s : State) (c : Comp) : CompRec := s.cs.comps.get c

def State.setComp (s : State) (c : Comp) (r : CompRec) : State := s.setCs { s.cs with comps := s.cs.comps.set c r }

def State.blower (s : State) (z : Zone) : BlowerRec := s.apc.blowers.get z

def State.setBlower (s : State) (z : Zone) (r : BlowerRec) : State :=
  s.setApc { s.apc with blowers := s.apc.blowers.set z r }

/-! ## Zones, decks and lines (00_scope.md, R7, R44) -/

def deckOf : Zone → Deck
  | .e | .l1 | .l2 => .lower
  | .u1 | .u2 | .u3 => .upper

/-- The other zones of a zone's deck, in zone order (R7). -/
def deckMates (z : Zone) : List Zone := Zone.all.filter (fun y => deckOf y = deckOf z && y != z)

/-- Seat capacity (R24). -/
def capacityOf : Zone → Nat
  | .e => 4
  | .l1 => 16
  | .l2 => 14
  | .u1 => 16
  | .u2 => 20
  | .u3 => 18

/-- A zone in Auto, Vent or Setback is in service (R74). -/
def inService : OpMode → Bool
  | .auto | .vent | .setback => true
  | .off | .standby => false

def opOfHost : HostMode → OpMode
  | .off => .off
  | .auto => .auto
  | .vent => .vent

/-- The power states in which plant may start and zones are not held (R98, R115, R118, R136, R146). -/
def inUse : PowerState → Bool
  | .run | .layover => true
  | .windingDown | .parked => false

def otherComp : Comp → Comp
  | .a => .b
  | .b => .a

/-! ## Time -/

/-- Whether `n` seconds have passed since a part time. -/
def passed (now since n : Nat) : Bool := decide (since + n ≤ now)

/-- Whether a stretch is unbroken and has lasted at least `n` seconds. -/
def lasted (now : Nat) (stretch : Option Nat) (n : Nat) : Bool :=
  match stretch with
  | some t => passed now t n
  | none => false

/-- A stretch after a check: kept or begun while its condition holds, broken otherwise (R100, R101, R114). -/
def keepStretch (now : Nat) (holds : Bool) (stretch : Option Nat) : Option Nat :=
  if holds then some (stretch.getD now) else none

/-- Seconds of a stretch, 0 for a broken one. -/
def stretchSeconds (now : Nat) : Option Nat → Nat
  | some t => now - t
  | none => 0

/-- Whether a once-per-second event has not been taken in the present second (log entry 3). -/
def notYet (now : Nat) (last : Option Nat) : Bool := last != some now

/-! ## Channels (R4 to R6) -/

def Channels.get (ch : Channels) : Channel → ChannelRec
  | .zoneTemp z => ch.zoneTemp.get z
  | .outdoor => ch.outdoor
  | .coolant => ch.coolant
  | .glass => ch.glass
  | .humidity => ch.humidity
  | .co2 .lower => ch.co2Lower
  | .co2 .upper => ch.co2Upper
  | .pressureHigh c => ch.pressureHigh.get c
  | .pressureLow c => ch.pressureLow.get c
  | .coil c => ch.coil.get c
  | .solar => ch.solar

def Channels.set (ch : Channels) (i : Channel) (r : ChannelRec) : Channels :=
  match i with
  | .zoneTemp z => { ch with zoneTemp := ch.zoneTemp.set z r }
  | .outdoor => { ch with outdoor := r }
  | .coolant => { ch with coolant := r }
  | .glass => { ch with glass := r }
  | .humidity => { ch with humidity := r }
  | .co2 .lower => { ch with co2Lower := r }
  | .co2 .upper => { ch with co2Upper := r }
  | .pressureHigh c => { ch with pressureHigh := ch.pressureHigh.set c r }
  | .pressureLow c => { ch with pressureLow := ch.pressureLow.set c r }
  | .coil c => { ch with coil := ch.coil.set c r }
  | .solar => { ch with solar := r }

/-- Every channel changed in the same way. -/
def Channels.map (f : ChannelRec → ChannelRec) (ch : Channels) : Channels :=
  { zoneTemp := ch.zoneTemp.map (fun _ r => f r)
    outdoor := f ch.outdoor
    coolant := f ch.coolant
    glass := f ch.glass
    humidity := f ch.humidity
    co2Lower := f ch.co2Lower
    co2Upper := f ch.co2Upper
    pressureHigh := ch.pressureHigh.map f
    pressureLow := ch.pressureLow.map f
    coil := ch.coil.map f
    solar := f ch.solar }

/-- The valid range of a channel in its unit (00_scope.md, Sensing channels). -/
def channelRange : Channel → Int × Int
  | .zoneTemp _ => (-400, 850)
  | .outdoor => (-400, 600)
  | .coolant => (-400, 1200)
  | .glass => (-400, 850)
  | .humidity => (0, 100)
  | .co2 _ => (0, 5000)
  | .pressureHigh _ => (0, 350)
  | .pressureLow _ => (0, 100)
  | .coil _ => (-400, 600)
  | .solar => (0, 1400)

def sampleValid (c : Channel) (v : Int) : Bool :=
  decide ((channelRange c).1 ≤ v) && decide (v ≤ (channelRange c).2)

/-- The value used by a channel's users: the sample while Good, the last good value while Held with one, none otherwise
(R5, R7, R70, R102, R136, R144). -/
def valueUsed (r : ChannelRec) : Option Int :=
  match r.status with
  | .good | .held => r.lastGood
  | .failed => none

/-- The outdoor value used, with the substitute 200 (R6, R102, R136). -/
def outdoorUsed (s : State) : Int := (valueUsed s.ssu.outdoor).getD 200

/-- The solar irradiance used, with the substitute 0 (R6). -/
def solarUsed (s : State) : Int := (valueUsed s.ssu.solar).getD 0

end Sys2Proof.Machine
end

