-- ==== Sys2Proof/Machine/Arbitration.lean ====
section
/-! DEFINITION. The Capacity Arbiter's own work on its table, queue, orders and pools (R40 to R59): serve pass, reclaim, the
request hand-off, and what each command or report does to the arbiter. Everything here is a function of the arbiter and the part
time; what it hands on stands in Air.lean. -/

namespace Sys2Proof.Machine

/-- The two kinds of token (R41). -/
inductive TokenKind where
  | cool | heat
deriving DecidableEq, Repr

def kindOf : TokenKind → ReqKind
  | .cool => .cool
  | .heat => .heat

/-- The screen-clear entry of a kind (R40). -/
def screenEntry : TokenKind → EntryId
  | .cool => .scc
  | .heat => .sch

/-- The eight entries in grant-table order (R40). -/
def allEntries : List EntryId := [.scc, .sch, .zone .e, .zone .l1, .zone .l2, .zone .u1, .zone .u2, .zone .u3]

def Arbiter.entry (a : Arbiter) (i : EntryId) : GrantEntry := a.table.get i

def Arbiter.setEntry (a : Arbiter) (i : EntryId) (e : GrantEntry) : Arbiter := { a with table := a.table.set i e }

def isZoneEntry : EntryId → Bool
  | .zone _ => true
  | .scc | .sch => false

/-! ## Pools (R41) -/

def Arbiter.capacity (a : Arbiter) : TokenKind → Nat
  | .cool => a.coolCap
  | .heat => a.heatCap

def Arbiter.setCapacity (a : Arbiter) (k : TokenKind) (n : Nat) : Arbiter :=
  match k with
  | .cool => { a with coolCap := n }
  | .heat => { a with heatCap := n }

/-- Tokens of a kind that an entry holds. -/
def heldOfKind (k : TokenKind) (e : GrantEntry) : Nat := if e.kind = kindOf k then e.held else 0

/-- Tokens of a kind held by all entries together. -/
def Arbiter.heldTotal (a : Arbiter) (k : TokenKind) : Nat := (allEntries.map (fun i => heldOfKind k (a.entry i))).sum

/-- Free tokens: the capacity less the tokens held. -/
def Arbiter.free (a : Arbiter) (k : TokenKind) : Nat := a.capacity k - a.heldTotal k

/-! ## Orders and the saloon ranking (R44, R45) -/

/-- The zone of a deck line. -/
def zoneOfLine : Line → Option Zone
  | .e => some .e
  | .l1 => some .l1
  | .l2 => some .l2
  | .u1 => some .u1
  | .u2 => some .u2
  | .u3 => some .u3
  | .lower | .upper => none

/-- A zone's line in its deck order. -/
def deckLineOf : Zone → Line
  | .e => .e
  | .l1 => .l1
  | .l2 => .l2
  | .u1 => .u1
  | .u2 => .u2
  | .u3 => .u3

/-- A zone's saloon line (R45). -/
def saloonLineOf : Zone → Line
  | .e => .e
  | .l1 | .l2 => .lower
  | .u1 | .u2 | .u3 => .upper

/-- The zones that a saloon line stands for, highest first (R45). -/
def zonesOfLine (o : Orders) : Line → List Zone
  | .e => [.e]
  | .lower => o.lower.filterMap zoneOfLine
  | .upper => o.upper.filterMap zoneOfLine
  | .l1 | .l2 | .u1 | .u2 | .u3 => []

/-- The six zones by the saloon ranking, highest first. -/
def zoneRanking (o : Orders) : List Zone := o.saloon.flatMap (zonesOfLine o)

/-- The saloon ranking of the eight entries, highest first (R45). -/
def ranking (o : Orders) : List EntryId := .scc :: .sch :: (zoneRanking o).map EntryId.zone

/-- Whether a line stands strictly below another in an order. -/
def belowIn (order : List Line) (v r : Line) : Bool := decide (order.idxOf r < order.idxOf v)

/-- A line moved to the bottom of its order (R54). -/
def moveToBottom (l : Line) (order : List Line) : List Line := order.filter (· != l) ++ [l]

/-- The order rotated circularly so that the named line is last (R63). -/
def rotateOrder (l : Line) (order : List Line) : List Line :=
  let n := order.idxOf l + 1
  order.drop n ++ order.take n

def Orders.get (o : Orders) : ArbiterId → List Line
  | .saloon => o.saloon
  | .lower => o.lower
  | .upper => o.upper

def Orders.set (o : Orders) (a : ArbiterId) (ls : List Line) : Orders :=
  match a with
  | .saloon => { o with saloon := ls }
  | .lower => { o with lower := ls }
  | .upper => { o with upper := ls }

/-- Rotation when a zone is served full (R54): its deck order, where it has a deck arbiter and that is Rotating, and the saloon
order, where the saloon arbiter is Rotating. -/
def rotateServed (m : ArbModes) (z : Zone) (o : Orders) : Orders :=
  let o1 :=
    match z with
    | .e => o
    | .l1 | .l2 => if m.lower = .rotating then { o with lower := moveToBottom (deckLineOf z) o.lower } else o
    | .u1 | .u2 | .u3 => if m.upper = .rotating then { o with upper := moveToBottom (deckLineOf z) o.upper } else o
  if m.saloon = .rotating then { o1 with saloon := moveToBottom (saloonLineOf z) o1.saloon } else o1

/-! ## Entries: short, protected, gaining and losing (R40, R42, R43) -/

def isShort (e : GrantEntry) : Bool := decide (e.held < e.wanted)

/-- An entry's tokens are protected while the part time is less than since + hold time (R42). -/
def isProtected (now hold : Nat) (e : GrantEntry) : Bool :=
  match e.since with
  | some t => decide (now < t + hold)
  | none => false

/-- The seconds of protection remaining (R65). -/
def protectionLeft (now hold : Nat) (e : GrantEntry) : Nat :=
  match e.since with
  | some t => t + hold - now
  | none => 0

def joinQueue (i : EntryId) (q : List EntryId) : List EntryId := if q.contains i then q else q ++ [i]

def leaveQueue (i : EntryId) (q : List EntryId) : List EntryId := q.filter (· != i)

/-- An entry gains a token (R42): since is set and a new hold end is to come. An entry that has gained its last wanted token
leaves the queue (R43), and a zone so served full rotates its orders at once (R54). -/
def gainToken (now : Nat) (i : EntryId) (a : Arbiter) : Arbiter :=
  let e := a.entry i
  let a1 := a.setEntry i { e with held := e.held + 1, since := some now, holdPending := true }
  if e.held + 1 < e.wanted then a1
  else
    let a2 := { a1 with queue := leaveQueue i a1.queue }
    match i with
    | .zone z => { a2 with orders := rotateServed a2.modes z a2.orders }
    | .scc | .sch => a2

/-- An entry loses a token: since is kept while it still holds one (R42), and it joins the queue's tail unless it is there
(R43, R52, R56). -/
def loseToken (i : EntryId) (a : Arbiter) : Arbiter :=
  let e := a.entry i
  let h := e.held - 1
  let a1 :=
    a.setEntry i
      { e with
        held := h
        since := if h = 0 then none else e.since
        holdPending := if h = 0 then false else e.holdPending }
  { a1 with queue := joinQueue i a1.queue }

/-! ## The serve pass (R50 to R54) -/

/-- Short, of the kind being worked, and not masked. -/
def servable (k : TokenKind) (a : Arbiter) (i : EntryId) : Bool :=
  let e := a.entry i
  decide (e.kind = kindOf k) && isShort e && !e.masked

/-- Who takes the next free token: under Strict and Level the highest-ranked servable entry (R50), under Open the
screen-clear entry if short and otherwise the servable entry longest in the queue (R51). -/
def nextServed (k : TokenKind) (a : Arbiter) : Option EntryId :=
  match a.modes.nesting with
  | .strict | .level => (ranking a.orders).find? (servable k a)
  | .openNest =>
    if servable k a (screenEntry k) then some (screenEntry k) else a.queue.find? (servable k a)

/-- Distribution of at most `n` free tokens, one at a time (R50). -/
def distribute (now : Nat) (k : TokenKind) : Nat → Arbiter → Arbiter
  | 0, a => a
  | n + 1, a =>
    match nextServed k a with
    | some i => distribute now k n (gainToken now i a)
    | none => a

/-- Whether nesting lets a zone requester take from a zone victim (R53). -/
def nestingAllows (a : Arbiter) (r v : Zone) : Bool :=
  match a.modes.nesting with
  | .strict => belowIn a.orders.saloon (saloonLineOf v) (saloonLineOf r)
  | .level =>
    belowIn a.orders.saloon (saloonLineOf v) (saloonLineOf r)
      || (saloonLineOf v == saloonLineOf r
        && match saloonLineOf r with
          | .lower => belowIn a.orders.lower (deckLineOf v) (deckLineOf r)
          | .upper => belowIn a.orders.upper (deckLineOf v) (deckLineOf r)
          | _ => false)
  | .openNest => false

/-- Eligibility of a victim for a requester (R52, R53): a zone holding a token of the kind; against a zone requester also
unprotected and within what nesting allows. -/
def eligible (now : Nat) (k : TokenKind) (a : Arbiter) (r v : EntryId) : Bool :=
  match v with
  | .scc | .sch => false
  | .zone vz =>
    let e := a.entry v
    r != v && decide (0 < heldOfKind k e)
      && match r with
        | .scc | .sch => true
        | .zone rz => !isProtected now a.modes.hold e && nestingAllows a rz vz

/-- The lowest-ranked eligible victim of a requester (R52). -/
def victimOf (now : Nat) (k : TokenKind) (a : Arbiter) (r : EntryId) : Option EntryId :=
  (ranking a.orders).reverse.find? (eligible now k a r)

/-- The highest-ranked servable entry that has an eligible victim (R52). -/
def requesterOf (now : Nat) (k : TokenKind) (a : Arbiter) : Option EntryId :=
  (ranking a.orders).find? (fun r => servable k a r && (victimOf now k a r).isSome)

/-- At most `n` preemption steps, only while no free token of the pool remains (R52). The flag says whether a step was taken. -/
def preempt (now : Nat) (k : TokenKind) : Nat → Arbiter → Arbiter × Bool
  | 0, a => (a, false)
  | n + 1, a =>
    if a.free k = 0 then
      match requesterOf now k a with
      | some r =>
        match victimOf now k a r with
        | some v => ((preempt now k n (gainToken now r (loseToken v a))).1, true)
        | none => (a, false)
      | none => (a, false)
    else (a, false)

/-- What an event did at the arbiter, with the flags PREEMPT (R52) and RECLAIM (R56) that it calls for. -/
structure ArbResult where
  arb : Arbiter
  preempted : Bool
  reclaimed : Bool
deriving DecidableEq, Repr

/-- An event that serves nobody. -/
def settledResult (a : Arbiter) : ArbResult := ⟨a, false, false⟩

/-- Distribution and then preemption for one pool (R50); R52 bounds the steps by the tokens held. -/
def servePool (now : Nat) (k : TokenKind) (a : Arbiter) : Arbiter × Bool :=
  let a1 := distribute now k (a.free k) a
  preempt now k (a1.heldTotal k) a1

/-- A serve pass: the cool pool, then the heat pool (R50). -/
def servePass (now : Nat) (a : Arbiter) : ArbResult :=
  let c := servePool now .cool a
  let h := servePool now .heat c.1
  ⟨h.1, c.2 || h.2, false⟩

/-! ## Requests (R47 to R49) -/

/-- A zone's request hand-off (R47, R48). A change between Cool and Heat arrives as two hand-offs (R17). -/
def handRequest (now : Nat) (z : Zone) (kind : ReqKind) (wanted : Nat) (a : Arbiter) : ArbResult :=
  let i := EntryId.zone z
  let e := a.entry i
  if kind = .none then
    if e.kind = .none then settledResult a
    else
      let a1 := a.setEntry i { e with kind := .none, wanted := 0, held := 0, since := none, holdPending := false }
      let a2 := { a1 with queue := leaveQueue i a1.queue }
      if 0 < e.held then servePass now a2 else settledResult a2
  else if e.kind = kind ∧ e.wanted = wanted then settledResult a
  else if e.kind ≠ kind then
    let a1 := a.setEntry i { e with kind := kind, wanted := wanted, held := 0, since := none, holdPending := false }
    servePass now { a1 with queue := joinQueue i a1.queue }
  else if e.wanted < wanted then
    let a1 := a.setEntry i { e with wanted := wanted }
    servePass now { a1 with queue := joinQueue i a1.queue }
  else if wanted < e.held then
    let a1 := a.setEntry i { e with wanted := wanted, held := wanted }
    servePass now { a1 with queue := leaveQueue i a1.queue }
  else
    let a1 := a.setEntry i { e with wanted := wanted }
    settledResult (if e.held = wanted then { a1 with queue := leaveQueue i a1.queue } else a1)

/-- Screen clear becomes active: both entries take wanted 2 and join the queue, SCc first (R49). -/
def assertScreenEntries (now : Nat) (a : Arbiter) : ArbResult :=
  let a1 := a.setEntry .scc { a.entry .scc with wanted := 2 }
  let a2 := a1.setEntry .sch { a1.entry .sch with wanted := 2 }
  servePass now { a2 with queue := joinQueue .sch (joinQueue .scc a2.queue) }

/-- Screen clear is released: both entries return their tokens and leave the queue (R49). -/
def releaseScreenEntries (now : Nat) (a : Arbiter) : ArbResult :=
  let clear (e : GrantEntry) : GrantEntry := { e with wanted := 0, held := 0, since := none, holdPending := false }
  let a1 := a.setEntry .scc (clear (a.entry .scc))
  let a2 := a1.setEntry .sch (clear (a1.entry .sch))
  servePass now { a2 with queue := leaveQueue .sch (leaveQueue .scc a2.queue) }

/-! ## Capacity reports and reclaim (R56, R57) -/

/-- Zone entries holding tokens of a kind, lowest-ranked first. -/
def holdersLowestFirst (k : TokenKind) (a : Arbiter) : List EntryId :=
  (ranking a.orders).reverse.filter (fun i => isZoneEntry i && decide (0 < heldOfKind k (a.entry i)))

/-- The holder whose since is the most recent; of equal ones the first of the list (R57). -/
def mostRecent (a : Arbiter) : List EntryId → Option EntryId
  | [] => none
  | i :: rest =>
    match mostRecent a rest with
    | none => some i
    | some j =>
      if (a.entry i).since.getD 0 < (a.entry j).since.getD 0 then some j else some i

/-- Who loses the next token in a reclaim: under Strict and Level the lowest-ranked zone holder (R56), under Open the newest
(R57), and the screen-clear entry only when no zone holds any. -/
def reclaimVictim (k : TokenKind) (a : Arbiter) : EntryId :=
  let holders := holdersLowestFirst k a
  let zone :=
    match a.modes.nesting with
    | .strict | .level => holders.head?
    | .openNest => mostRecent a holders
  zone.getD (screenEntry k)

/-- `n` tokens of a kind taken back, one at a time. -/
def reclaim (k : TokenKind) : Nat → Arbiter → Arbiter
  | 0, a => a
  | n + 1, a => reclaim k n (loseToken (reclaimVictim k a) a)

/-- A pool's capacity report (R41, R50, R56): a rise is served; a fall that leaves the held tokens within it is only
recorded; a fall below them reclaims the excess and is then served. -/
def reportCapacity (now : Nat) (k : TokenKind) (n : Nat) (a : Arbiter) : ArbResult :=
  let a1 := a.setCapacity k n
  if a.capacity k < n then servePass now a1
  else if n < a.heldTotal k then
    { servePass now (reclaim k (a.heldTotal k - n) a1) with reclaimed := true }
  else settledResult a1

/-! ## Settings (R59, R61 to R63, R66) -/

/-- The hold ends as ARB MODE and PROFILE LOAD put a hold time in force (R61, R66): one that falls later than now is to come as an event, and
one that falls at or before now has passed. R61 says so of a new hold time; that a hold end reached and not yet taken passes in the same
way where the hold time stays as it was is the model's choice (log entry 15). -/
def moveHoldEnds (now hold : Nat) (t : GrantTable) : GrantTable :=
  let move (e : GrantEntry) : GrantEntry := { e with holdPending := isProtected now hold e }
  { scc := move t.scc, sch := move t.sch, zones := t.zones.map (fun _ e => move e) }

/-- New mode settings, and the serve pass that follows (R61). -/
def setModes (now : Nat) (m : ArbModes) (a : Arbiter) : ArbResult :=
  servePass now { a with modes := m, table := moveHoldEnds now m.hold a.table }

/-- A new order, and the serve pass that follows (R62, R63). -/
def setOrder (now : Nat) (id : ArbiterId) (ls : List Line) (a : Arbiter) : ArbResult :=
  servePass now { a with orders := a.orders.set id ls }

/-- The CA acts on orders and modes that the profile has put in force (R66, R176): hold ends move, and one serve pass follows. -/
def actOnSettings (now : Nat) (a : Arbiter) : ArbResult :=
  servePass now { a with table := moveHoldEnds now a.modes.hold a.table }

/-- A new mask set; a serve pass follows where a mask is cleared (R59). -/
def setMasks (now : Nat) (masks : PerZone Bool) (a : Arbiter) : ArbResult :=
  let zones := a.table.zones.map (fun z e => { e with masked := masks.get z })
  let cleared := Zone.all.any (fun z => (a.entry (.zone z)).masked && !masks.get z)
  let a1 := { a with table := { a.table with zones := zones } }
  if cleared then servePass now a1 else settledResult a1

/-- A hold end is taken: it is no longer to come, and a serve pass runs (R42). -/
def takeHoldEnd (now : Nat) (i : EntryId) (a : Arbiter) : ArbResult :=
  servePass now (a.setEntry i { a.entry i with holdPending := false })

/-! ## What the sequencers are handed (R58) -/

/-- What an entry counts for in its kind's total: wanted, or held while masked. -/
def wantedShare (k : TokenKind) (e : GrantEntry) : Nat :=
  if e.kind = kindOf k then if e.masked then e.held else e.wanted else 0

/-- The total wanted of a kind. -/
def Arbiter.wantedTotal (a : Arbiter) (k : TokenKind) : Nat := (allEntries.map (fun i => wantedShare k (a.entry i))).sum

end Sys2Proof.Machine
end

