-- ==== Sys2Proof/Machine/Load.lean ====
section
/-! DEFINITION. The Load Account's figures, its admission answers, and restore (R69, R71 to R75, R79 to R83, R88, R89). The counted
loads are functions of the owners' states and the shed stack, so a load is counted in the event that changes it. -/

namespace Sys2Proof.Machine

/-! ## Pool capacities (R69, R71) -/

/-- A compressor's contribution to the cool pool (R69, R94). -/
def contribution (r : CompRec) : Nat :=
  match r.state with
  | .running => if r.throttle then 2 else 4
  | .off | .starting | .unloading | .tripped | .lockout => 0

/-- The cool pool capacity that the CS derives (R69). -/
def coolCapacityOf (c : Cooling) : Nat := contribution c.comps.a + contribution c.comps.b

/-- The heat pool capacity that the HS derives (R71). -/
def heatCapacityOf (h : Heating) : Nat := if h.pump then 4 * h.band else 0

/-! ## Counted loads (R72, R73) -/

def onStack (la : LoadAccount) (i : LoadItem) : Bool := la.stack.any (fun e => e.item == i)

/-- A compressor stage is counted in Starting, Running and Unloading (R72). -/
def compCounted : CompState → Bool
  | .starting | .running | .unloading => true
  | .off | .tripped | .lockout => false

/-- The heater is counted in Ignition, Burning, After-run and Retry-purge (R72). -/
def heaterCounted : HeaterState → Bool
  | .ignition | .burning | .afterRun | .retryPurge => true
  | .off | .lockout => false

/-- The counted load of one of the ten items, in watts: by R72, or at the shed level while it is on the stack (R73). -/
def countedLoad (s : State) : LoadItem → Nat
  | .comp c => if compCounted (s.comp c).state && !onStack s.la (.comp c) then 4200 else 0
  | .pump => if s.hs.pump && !onStack s.la .pump then 180 else 0
  | .heater => if heaterCounted s.hs.heater && !onStack s.la .heater then 140 else 0
  | .blower z => 5 * (s.blower z).speed

/-- The screen blower's counted load (R72, R139). -/
def screenLoad (s : State) : Nat := if s.scm.active then 300 else 0

/-- The ten items of R87. -/
def allItems : List LoadItem :=
  [.comp .a, .comp .b, .pump, .heater, .blower .e, .blower .l1, .blower .l2, .blower .u1, .blower .u2, .blower .u3]

/-- The committed load: the sum of the eleven (R72). -/
def committedLoad (s : State) : Nat := (allItems.map (countedLoad s)).sum + screenLoad s

/-- The floor load (R74). -/
def floorLoad (s : State) : Nat :=
  (Zone.all.map (fun z => if inService (s.zone z).opMode then 5 * s.apc.ventMin else 0)).sum + screenLoad s

/-- The allowance in force (R75). -/
def allowanceInForce (la : LoadAccount) : Nat :=
  match la.status with
  | .fresh | .stale => la.hostValue.getD la.fallback
  | .fallback => la.fallback

/-- The larger of the allowance in force and the floor load, which the committed load never exceeds (R84). -/
def loadBound (s : State) : Nat := max (allowanceInForce s.la) (floorLoad s)

/-! ## Admission (R80 to R82) -/

/-- A start of `watts` is admitted when it fits under the allowance in force (R80, R81). -/
def admitted (s : State) (watts : Nat) : Bool := decide (committedLoad s + watts ≤ allowanceInForce s.la)

/-- The speed granted to a blower at `present` asking for `wanted` (R82). -/
def grantedSpeed (s : State) (z : Zone) (present wanted : Nat) : Nat :=
  if onStack s.la (.blower z) then min wanted (max present s.apc.ventMin)
  else
    let other : Int := (committedLoad s : Int) - 5 * present
    let fits : Int := ((allowanceInForce s.la : Int) - other).tdiv 5
    if (wanted : Int) ≤ fits then wanted else max fits.toNat (max present s.apc.ventMin)

/-! ## Restore (R88, R89) -/

/-- The full load that a pop must find room for (R88). -/
def fullLoad (s : State) : LoadItem → Nat
  | .comp _ => 4200
  | .pump => 180
  | .heater => 140
  | .blower _ => 5 * (100 - s.apc.ventMin)

/-- The entries of a stack popped from the top while each fits the headroom as it then stands (R88). -/
def popWhileFits : List ShedEntry → State → State
  | [], s => s
  | e :: rest, s =>
    if committedLoad s + fullLoad s e.item ≤ allowanceInForce s.la then
      popWhileFits rest (s.setLa { s.la with stack := rest })
    else s

/-- A restore attempt (R88). -/
def restoreAttempt (s : State) : State := popWhileFits s.la.stack s

/-- A restore attempt after a change that lowered the committed load from `before` (R73, R88). -/
def restoreIfFell (before : Nat) (s : State) : State := if committedLoad s < before then restoreAttempt s else s

end Sys2Proof.Machine
end

