-- ==== Sys2Proof/Machine/Air.lean ====
section
/-! DEFINITION. The Air Path Controller's blower computation and damper positions (R127, R128, R133 to R138), and what the
Capacity Arbiter hands on at the end of its events (R55, R58). -/

namespace Sys2Proof.Machine

/-! ## Curves (R127, R134) -/

/-- A point of a built-in or user curve (R127). -/
def curvePoint (curveTable : List Nat) (c : CurveCode) (k : Nat) : Nat :=
  match c with
  | .user u => curveTable.getD (u.val * 9 + k) 0
  | .linear => linearPoints.getD k 0
  | .quiet => [0, 10, 20, 30, 40, 50, 55, 60, 65].getD k 0
  | .fastRise => [0, 25, 45, 60, 72, 82, 90, 96, 100].getD k 0
  | .constant => 60

/-- The curve speed for a demand magnitude and a held count (R134). -/
def curveSpeed (curveTable : List Nat) (c : CurveCode) (demand held : Nat) : Nat :=
  let x := min demand (250 * held)
  let k := x / 125
  if 8 ≤ k then curvePoint curveTable c 8
  else
    let p : Int := curvePoint curveTable c k
    let q : Int := curvePoint curveTable c (k + 1)
    (p + ((q - p) * ((x : Int) - 125 * k)).tdiv 125).toNat

/-- The target speed of R134 for a mode that has been handed. -/
def targetSpeed (ventMin : Nat) (curveTable : List Nat) (c : CurveCode) (mode : OpMode) (demand held : Nat) : Nat :=
  match mode with
  | .off | .standby => 0
  | .vent => ventMin
  | .auto | .setback => if held = 0 then ventMin else max (curveSpeed curveTable c demand held) ventMin

/-- A blower computation: the target of R134 applied as R135 gives. Before the ZC has handed a mode there is nothing to compute (R133). -/
def computeBlower (z : Zone) (s : State) : State :=
  let b := s.blower z
  match b.mode with
  | none => s
  | some m =>
    let t0 := targetSpeed s.apc.ventMin s.apc.curveTable (s.zone z).curve m b.demand b.held
    let t := if onStack s.la (.blower z) then min t0 s.apc.ventMin else t0
    if t < b.speed then restoreIfFell (committedLoad s) (s.setBlower z { b with speed := t })
    else if b.speed < t then s.setBlower z { b with speed := grantedSpeed s z b.speed t }
    else s

/-- Every zone's blower computed again (R140). R140 gives no order, which decides who gets freed headroom: zone order is the model's choice
(log entry 8). -/
def computeAllBlowers (s : State) : State := Zone.all.foldl (fun s z => computeBlower z s) s

/-- The ZC hands the APC a zone's operating mode and demand magnitude (R18). -/
def handMode (z : Zone) (s : State) : State :=
  let r := s.zone z
  computeBlower z (s.setBlower z { s.blower z with mode := some r.opMode, demand := r.demand.natAbs })

/-! ## What the CA hands on (R55, R58) -/

/-- The totals and the state of SCc, handed to the sequencers (R58). -/
def handTotals (s : State) : State :=
  (s.setCs { s.cs with wantedTotal := s.ca.wantedTotal .cool, sccShort := isShort (s.ca.entry .scc) }).setHs
    { s.hs with wantedTotal := s.ca.wantedTotal .heat }

/-- A zone's held count handed to the APC where it changed, with the computation that follows (R55, R133). -/
def handHeld (before : Arbiter) (s : State) (z : Zone) : State :=
  let held := (s.ca.entry (.zone z)).held
  if held = (before.entry (.zone z)).held then s
  else computeBlower z (s.setBlower z { s.blower z with held := held })

/-- An event at the CA: the arbiter's own work, its flags, and the hand-offs at its end (R55). -/
def arbEvent (f : Arbiter → ArbResult) (s : State) : State :=
  let r := f s.ca
  let s1 := s.setCa r.arb
  let s2 := if r.preempted then raise .preempt s1 else s1
  let s3 := if r.reclaimed then raise .reclaim s2 else s2
  Zone.all.foldl (handHeld s.ca) (handTotals s3)

/-- A pool's capacity reported to the CA, where it changed (R69, R71). -/
def reportPool (k : TokenKind) (n : Nat) (s : State) : State :=
  if s.ca.capacity k = n then s else arbEvent (reportCapacity s.partTime k n) s

/-- The CS reports its cool pool capacity (R69). -/
def reportCool (s : State) : State := reportPool .cool (coolCapacityOf s.cs) s

/-- The HS reports its heat pool capacity (R71). -/
def reportHeat (s : State) : State := reportPool .heat (heatCapacityOf s.hs) s

/-! ## The curve pointer (R128) -/

def movePointer (p : CurvePtr) : CurvePtr :=
  let a := p.address
  let c := a / 9
  let k := a - 9 * c
  { p with
    address :=
      match p.scope, p.direction with
      | .curve, .increment => if k < 8 then a + 1 else 9 * c
      | .curve, .decrement => if 0 < k then a - 1 else 9 * c + 8
      | .table, .increment => if a < 53 then a + 1 else 0
      | .table, .decrement => if 0 < a then a - 1 else 53 }

/-- Values written one after another at the pointer, each brought to 100 (R130). -/
def writePoints : List Nat → AirPath → AirPath
  | [], a => a
  | v :: rest, a =>
    writePoints rest { a with curveTable := a.curveTable.set a.pointer.address (min v 100), pointer := movePointer a.pointer }

/-- `n` points read one after another at the pointer (R131). -/
def readPoints : Nat → AirPath → List Nat × AirPath
  | 0, a => ([], a)
  | n + 1, a =>
    let r := readPoints n { a with pointer := movePointer a.pointer }
    (a.curveTable.getD a.pointer.address 0 :: r.1, r.2)

/-! ## Dampers (R136 to R138, R140) -/

def co2Channel (s : State) : Deck → ChannelRec
  | .lower => s.ssu.co2Lower
  | .upper => s.ssu.co2Upper

/-- A damper's position by the steps of R136; `moves` is whether step 2 is taken (R140: not for a changed fresh minimum). -/
def damperPosition (moves : Bool) (s : State) (d : Deck) (position : Nat) : Nat :=
  let clamped :=
    match valueUsed (co2Channel s d) with
    | none => max 30 s.apc.freshMin
    | some ppm =>
      let moved :=
        if moves && decide (1000 < ppm) then position + 5
        else if moves && decide (ppm < 800) then position - 5
        else position
      let t := outdoorUsed s
      let freshMax := if (t < -100 ∨ 380 < t) ∧ ppm ≤ 1500 then 40 else 100
      min (max moved s.apc.freshMin) (max freshMax s.apc.freshMin)
  match d with
  | .lower => clamped
  | .upper => if s.scm.active then max clamped 50 else clamped

/-- Both dampers worked out (R136). -/
def workDampers (moves : Bool) (s : State) : State :=
  s.setApc
    { s.apc with
      damperLower := damperPosition moves s .lower s.apc.damperLower
      damperUpper := damperPosition moves s .upper s.apc.damperUpper }

/-- Both dampers at the fresh minimum (R142). -/
def dampersToFreshMin (s : State) : State :=
  s.setApc { s.apc with damperLower := s.apc.freshMin, damperUpper := s.apc.freshMin }

/-- What a changed fresh minimum does to the dampers (R140, R142). -/
def applyFreshMin (s : State) : State := if inUse s.psc.power then workDampers false s else dampersToFreshMin s

end Sys2Proof.Machine
end

