-- ==== Sys2Proof/Machine/Plant.lean ====
section
/-! DEFINITION. What a stop order does to a compressor record and to the heating record (R96, R122), and shedding (R84 to R87). -/

namespace Sys2Proof.Machine

/-! ## Stop orders on the records -/

/-- Entry to Unloading, from Starting or Running; any other state goes on as it is (R96). -/
def unloadRec (now : Nat) (r : CompRec) : CompRec :=
  match r.state with
  | .starting | .running => { r with state := .unloading, stateSince := now, chargeStart := none }
  | .off | .unloading | .tripped | .lockout => r

/-- A stop request to the heater (R122). -/
def stopHeater (now : Nat) (h : Heating) : Heating :=
  match h.heater with
  | .ignition | .burning => { h with heater := .afterRun, heaterSince := now, cause := some .stop, latched := false }
  | .afterRun => { h with cause := some .stop, latched := false }
  | .retryPurge => { h with latched := false }
  | .off | .lockout => h

/-- The pump leaves Running, which is a stop request to the heater (R116, R122). -/
def stopPump (now : Nat) (h : Heating) : Heating := stopHeater now { h with pump := false }

/-! ## Shedding (R84 to R86) -/

/-- The zone blowers as the shed order takes them: lowest-ranked zone first (R85). -/
def blowerShedOrder (s : State) : List LoadItem := (zoneRanking s.ca.orders).reverse.map LoadItem.blower

/-- The shed order, by whether screen clear is active (R85). -/
def shedOrder (s : State) : List LoadItem :=
  if s.scm.active then
    .comp .b :: blowerShedOrder s ++ [.heater, .pump, .comp .a]
  else
    .comp .b :: blowerShedOrder s ++ [.comp .a, .heater, .pump]

/-- An item is sheddable when it is not on the stack and its counted load is above its shed level (R85). -/
def sheddable (s : State) (i : LoadItem) : Bool :=
  !onStack s.la i
    && match i with
      | .comp _ | .pump | .heater => decide (0 < countedLoad s i)
      | .blower z => inService (s.zone z).opMode && decide (s.apc.ventMin < (s.blower z).speed)

/-- One shed: the entry pushed with its time, SHED set, and the owner's own action (R86). The load falls to the shed level by
the push or by the action. -/
def shedItem (i : LoadItem) (s : State) : State :=
  let s1 := raise .shed (s.setLa { s.la with stack := ⟨i, s.partTime⟩ :: s.la.stack })
  match i with
  | .comp c => s1.setComp c (unloadRec s.partTime (s1.comp c))
  | .pump => s1.setHs (stopPump s.partTime s1.hs)
  | .heater => s1.setHs (stopHeater s.partTime s1.hs)
  | .blower z => s1.setBlower z { s1.blower z with speed := s1.apc.ventMin }

/-- The pool capacity reports that a shed makes due (R86). -/
def shedReports (i : LoadItem) (after : State) : List (TokenKind × Nat) :=
  match i with
  | .comp _ => [(.cool, coolCapacityOf after.cs)]
  | .pump => [(.heat, heatCapacityOf after.hs)]
  | .heater | .blower _ => []

/-- Sheds taken one at a time until the test of R84 passes or nothing is sheddable, with the pool reports they make due, in order.
`n` bounds the sheds: the stack holds each of the ten items at most once (R87). -/
def shedLoop : Nat → State → State × List (TokenKind × Nat)
  | 0, s => (s, [])
  | n + 1, s =>
    if committedLoad s ≤ loadBound s then (s, [])
    else
      match (shedOrder s).find? (sheddable s) with
      | none => (s, [])
      | some i =>
        let s1 := shedItem i s
        let r := shedLoop n s1
        (r.1, shedReports i s1 ++ r.2)

/-- The test of shedding (R84): where the committed load exceeds its bound, items are shed; then the sequencers' reports reach the
CA, which reclaims (R86; log entry 9). -/
def shedTest (s : State) : State :=
  let r := shedLoop 10 s
  r.2.foldl (fun s c => reportPool c.1 c.2 s) r.1

end Sys2Proof.Machine
end

