-- ==== Sys2Proof/Machine/Zones.lean ====
section
/-! DEFINITION. The Zone Controller's work (R6 to R19, R24 to R36): sensor states, one zone evaluation, changes of operating
mode, reload events and the inactivity timer. -/

namespace Sys2Proof.Machine

/-! ## Sensor state and temperature (R7) -/

def channelGood (r : ChannelRec) : Bool := r.status == .good

/-- The deck-mates whose channels are Good (R7). -/
def goodMates (ch : Channels) (z : Zone) : List Zone := (deckMates z).filter (fun y => channelGood (ch.zoneTemp.get y))

/-- A zone's sensor state from the channel statuses (R7). -/
def sensorOf (ch : Channels) (z : Zone) : SensorState :=
  let own := ch.zoneTemp.get z
  if channelGood own then .good
  else if own.status = .held ∧ own.lastGood.isSome then .held
  else if goodMates ch z = [] then .lost
  else .borrowed

/-- The mean of the samples of the Good deck-mates, rounded toward zero; none without one (R7). -/
def borrowedMean (ch : Channels) (z : Zone) : Option Int :=
  match (goodMates ch z).filterMap (fun y => (ch.zoneTemp.get y).lastGood) with
  | [] => none
  | ts => some (ts.sum.tdiv ts.length)

/-- The temperature a zone uses at evaluation, by its sensor state (R7). -/
def temperatureFor (ch : Channels) (z : Zone) : SensorState → Option Int
  | .good | .held => (ch.zoneTemp.get z).lastGood
  | .borrowed => borrowedMean ch z
  | .lost => none

/-! ## The setpoint chain and the PI stage (R12 to R17) -/

/-- The effective setpoint (R12). -/
def effectiveSetpoint (zc : ZoneCtl) (z : Zone) (r : ZoneRec) (tOut g : Int) : Int :=
  let s1 := r.setpoint + zc.shift + r.trim
  let s2 := if deckOf z = .upper then s1 - g / 100 else s1
  let s3 :=
    if r.opMode = .setback then if tOut < s2 then s2 - zc.setbackOffset else s2 + zc.setbackOffset else s2
  let s4 := max s3 (tOut - 70)
  clampInt 160 300 s4

/-- The error after its clamp and the deadband (R13). -/
def deadbandError (db sEff t : Int) : Int :=
  let e := clampInt (-200) 200 (sEff - t)
  if db < e then e - db else if e < -db then e + db else 0

/-- Whether an error has the sign of a request (R14). -/
def sameSign (k : ReqKind) (e : Int) : Bool :=
  match k with
  | .cool => decide (e < 0)
  | .heat => decide (0 < e)
  | .none => false

/-- The integrator's new value (R14). -/
def integrate (ki integ e : Int) (starved : Bool) (kind : ReqKind) : Int :=
  if starved && sameSign kind e then integ else clampInt (-64000) 64000 (integ + ki * e)

/-- The demand (R15). -/
def demandOf (kp e integ : Int) : Int := clampInt (-1000) 1000 (kp * e + integ.tdiv 64)

/-- The new request kind, with its hysteresis (R16). -/
def nextKind (k : ReqKind) (d : Int) : ReqKind :=
  match k with
  | .none => if d ≤ -150 then .cool else if 150 ≤ d then .heat else .none
  | .cool => if d ≤ -60 then .cool else if 150 ≤ d then .heat else .none
  | .heat => if 60 ≤ d then .heat else if d ≤ -150 then .cool else .none

/-- The number wanted (R17). -/
def wantedFor (k : ReqKind) (d : Int) : Nat :=
  match k with
  | .none => 0
  | .cool | .heat => max 1 ((d.natAbs + 249) / 250)

/-- A zone is starved when its request is Cool or Heat and its entry holds fewer than it wants (R14). -/
def isStarved (r : ZoneRec) (e : GrantEntry) : Bool := decide (r.reqKind ≠ .none) && isShort e

/-! ## Hand-offs -/

/-- A request handed to the CA (R47, R48). -/
def requestTokens (z : Zone) (k : ReqKind) (wanted : Nat) (s : State) : State :=
  arbEvent (handRequest s.partTime z k wanted) s

/-- A request handed on after an evaluation: a change between Cool and Heat goes through None (R17). -/
def handOnRequest (z : Zone) (before k : ReqKind) (wanted : Nat) (s : State) : State :=
  let s1 := if before ≠ .none ∧ k ≠ .none ∧ before ≠ k then requestTokens z .none 0 s else s
  requestTokens z k wanted s1

/-- I and D to 0 and the request withdrawn, handed to the CA at once (R19). -/
def withdraw (z : Zone) (s : State) : State :=
  requestTokens z .none 0 (s.setZone z { s.zone z with integ := 0, demand := 0, reqKind := .none, wanted := 0 })

/-! ## One zone evaluation (R9, R11) -/

/-- The record after an evaluation (R11 to R17). -/
def evaluateRec (s : State) (z : Zone) : ZoneRec :=
  let r := s.zone z
  let t := temperatureFor s.ssu z r.sensor
  let sEff := effectiveSetpoint s.zc z r (outdoorUsed s) (solarUsed s)
  let r1 := { r with tempUsed := t, sEff := sEff }
  match r.opMode, t with
  | .auto, some temp | .setback, some temp =>
    let e := deadbandError s.zc.db sEff temp
    let integ := integrate s.zc.ki r.integ e (isStarved r (s.ca.entry (.zone z))) r.reqKind
    let d := demandOf s.zc.kp e integ
    let k := nextKind r.reqKind d
    { r1 with integ := integ, demand := d, reqKind := k, wanted := wantedFor k d }
  | _, _ => { r1 with integ := 0, demand := 0, reqKind := .none, wanted := 0 }

/-- One zone evaluation: the record, the request to the CA, mode and demand to the APC, and the test of shedding (R9, R17, R18). -/
def evaluateZone (z : Zone) (s : State) : State :=
  let r := evaluateRec s z
  let s1 := handOnRequest z (s.zone z).reqKind r.reqKind r.wanted (s.setZone z r)
  shedTest (handMode z s1)

/-- The length of a control period in milliseconds (R2). -/
def periodLength (code : Nat) : Nat := (code + 2) * 250

/-! ## The inactivity timer (R25, R26, R33) -/

/-- The reload length in Auto, Off and Vent (R26). -/
def autoLength (r : ZoneRec) : Nat := r.setbackMin * 60

/-- The reload length in Setback (R26). -/
def setbackLength (r : ZoneRec) : Nat := r.standbyMin * 60

/-- Whether a zone's timer runs (R25, R26, R33). -/
def timerRuns (power : PowerState) (precondition : Bool) (r : ZoneRec) : Bool :=
  power != .parked
    && match r.opMode with
      | .auto => r.seats == 0 && !precondition
      | .setback => r.seats == 0
      | .standby | .off | .vent => false

/-- One second of a zone's timer (R26). -/
def tickTimer (power : PowerState) (precondition : Bool) (r : ZoneRec) : ZoneRec :=
  if timerRuns power precondition r then { r with timer := r.timer - 1 } else r

/-- What new lengths do to a zone's timer at once (R36). -/
def adaptTimer (power : PowerState) (precondition : Bool) (r : ZoneRec) : ZoneRec :=
  match r.opMode with
  | .standby => r
  | .off | .vent => { r with timer := autoLength r }
  | .auto => { r with timer := if timerRuns power precondition r then min r.timer (autoLength r) else autoLength r }
  | .setback => { r with timer := if timerRuns power precondition r then min r.timer (setbackLength r) else setbackLength r }

/-! ## Changes of operating mode (R20, R28, R31, R160, R162) -/

/-- A zone takes an operating mode with the timer of its Auto, Off or Vent row, and hands it to the APC (R18, R26). -/
def takeMode (z : Zone) (m : OpMode) (s : State) : State :=
  let r := s.zone z
  handMode z (s.setZone z { r with opMode := m, timer := autoLength r })

/-- Entry to Standby (R31). A zone already there has none (log entry 19). -/
def enterStandby (z : Zone) (s : State) : State :=
  let r := s.zone z
  if r.opMode = .standby then s
  else handMode z (withdraw z (s.setZone z { r with opMode := .standby, trim := 0, timer := 0 }))

/-- The host mode already recorded is brought into the operating mode, as ZONE SET and PROFILE LOAD do (R20, R23); while
Winding-down the zone stays in Standby. -/
def applyHostMode (z : Zone) (s : State) : State :=
  let r := s.zone z
  if !inUse s.psc.power then s
  else
    match r.hostMode with
    | .auto =>
      let s1 := s.setZone z { r with opMode := .auto, timer := autoLength r }
      let s2 := if r.opMode = .off ∨ r.opMode = .vent then withdraw z s1 else s1
      if r.opMode = .auto then s2 else handMode z s2
    | .off | .vent =>
      let s1 := s.setZone z { r with opMode := opOfHost r.hostMode, timer := autoLength r }
      if r.opMode = opOfHost r.hostMode then s1 else handMode z (withdraw z s1)

/-- The reload events (R27). -/
inductive ReloadEvent where
  | seat | nudge | door | touch
deriving DecidableEq, Repr

def maskHas (m : ReloadMask) : ReloadEvent → Bool
  | .seat => m.seat
  | .nudge => m.nudge
  | .door => m.door
  | .touch => m.touch

/-- The effect of an effective reload event (R28). -/
def reloadEffect (z : Zone) (s : State) : State :=
  let r := s.zone z
  match r.opMode with
  | .auto => s.setZone z { r with timer := autoLength r }
  | .setback => takeMode z .auto s
  | .standby => if inUse s.psc.power then takeMode z (opOfHost r.hostMode) s else s
  | .off | .vent => s

/-- A reload event at a zone, effective where the zone's mask contains it (R27). -/
def reloadEvent (e : ReloadEvent) (z : Zone) (s : State) : State :=
  if maskHas (s.zone z).mask e then shedTest (reloadEffect z s) else s

/-- The timer when a seat count rises from 0: the reload value of the mode (R25). -/
def holdTimer (r : ZoneRec) : ZoneRec :=
  match r.opMode with
  | .auto => { r with timer := autoLength r }
  | .setback => { r with timer := setbackLength r }
  | .standby | .off | .vent => r

/-- A zone's applied seat count, with the SEAT event of a change (R24, R25). -/
def seatCount (z : Zone) (n : Nat) (s : State) : State :=
  let r := s.zone z
  if n = r.seats then s
  else
    let r1 := { r with seats := n }
    reloadEvent .seat z (s.setZone z (if r.seats = 0 then holdTimer r1 else r1))

/-- Entry to Setback by expiry (R29). -/
def enterSetback (z : Zone) (s : State) : State :=
  let r := s.zone z
  handMode z (raise .setback (s.setZone z { r with opMode := .setback, timer := setbackLength r }))

/-! ## Lost sensors (R7, R8) -/

/-- What a zone does as its sensor state becomes Lost (R8). -/
def loseSensor (z : Zone) (s : State) : State :=
  let s1 := s.setZone z { s.zone z with tempUsed := none }
  shedTest (handMode z (withdraw z s1))

/-- One zone's sensor state derived again (R7, R8). -/
def deriveSensor (s : State) (z : Zone) : State :=
  let r := s.zone z
  let st := sensorOf s.ssu z
  let s1 := s.setZone z { r with sensor := st }
  if st = .lost ∧ r.sensor ≠ .lost then loseSensor z s1 else s1

/-- The six sensor states derived again (R7). Zones that become Lost together withdraw in zone order, each before the next is derived
(log entry 36). -/
def deriveSensors (s : State) : State := Zone.all.foldl deriveSensor s

end Sys2Proof.Machine
end

