-- ==== Sys2Proof/Machine/Cooling.lean ====
section
/-! DEFINITION. The Cooling Sequencer's work (R94 to R109): entries to its states, protection, and the staging check. -/

namespace Sys2Proof.Machine

/-! ## Outputs (R94) -/

/-- The contactor is closed in Starting, Running and Unloading (R94). -/
def contactorClosed (r : CompRec) : Bool := compCounted r.state

inductive FanSpeed where
  | stopped | half | full
deriving DecidableEq, Repr

/-- The condenser fan set: half speed, or full with the throttle set, while the contactor is closed (R94, R103). -/
def fanSpeed (r : CompRec) : FanSpeed := if contactorClosed r then if r.throttle then .full else .half else .stopped

/-- The half output of a fan set, driven at half speed and at full speed (R94). -/
def fanHalfOutput : FanSpeed → Bool
  | .stopped => false
  | .half | .full => true

/-- The full output, driven at full speed beside the half output (R94). -/
def fanFullOutput : FanSpeed → Bool
  | .stopped | .half => false
  | .full => true

def codeOfFan : FanSpeed → Nat
  | .stopped => 0
  | .half => 1
  | .full => 2

/-! ## Entries to states -/

/-- Entry to Starting, admitted (R95). -/
def startRec (now : Nat) (r : CompRec) : CompRec :=
  { r with
    state := .starting
    stateSince := now
    onSince := some now
    startLog := r.startLog ++ [now]
    episodeOpen := false
    deferred := false }

/-- Entry to Running (R95); the charge stretch begins at once where the low-side value is already below 10 (R104). -/
def runRec (now : Nat) (lowUsed : Option Int) (r : CompRec) : CompRec :=
  { r with
    state := .running
    stateSince := now
    chargeStart :=
      match lowUsed with
      | some v => if v < 10 then some now else none
      | none => none }

/-- Entry to Off at the end of Unloading (R96, R97, R103). -/
def stopRec (now : Nat) (r : CompRec) : CompRec :=
  { r with state := .off, stateSince := now, stoppedSince := now, onSince := none, throttle := false, chargeStart := none }

/-- A log without the entries that are 3,600 s old or more (R99, R105). -/
def ageLog (now : Nat) (log : List Nat) : List Nat := log.filter (fun t => !passed now t 3600)

/-- A compressor's trip (R105). -/
def tripRec (now : Nat) (r : CompRec) : CompRec :=
  let log := ageLog now r.tripLog ++ [now]
  { r with
    state := if 3 ≤ log.length then .lockout else .tripped
    stateSince := now
    stoppedSince := now
    onSince := none
    throttle := false
    chargeStart := none
    tripLog := log }

/-- A stop that sends a compressor to Unloading, with the report to the CA (R96). -/
def unloadComp (c : Comp) (s : State) : State := reportCool (s.setComp c (unloadRec s.partTime (s.comp c)))

/-- A trip, with its flags and reports (R105): the load decrease to the LA, then the pool fall to the CA. -/
def tripComp (c : Comp) (s : State) : State :=
  let r := tripRec s.partTime (s.comp c)
  let s1 := raise .compTrip (s.setComp c r)
  let s2 := if r.state = .lockout then raise .compLock s1 else s1
  reportCool (restoreIfFell (committedLoad s) s2)

/-! ## Protection (R103, R104) -/

def highUsed (s : State) (c : Comp) : Option Int := valueUsed (s.ssu.pressureHigh.get c)

def lowUsed (s : State) (c : Comp) : Option Int := valueUsed (s.ssu.pressureLow.get c)

def coilUsed (s : State) (c : Comp) : Option Int := valueUsed (s.ssu.coil.get c)

/-- The high-pressure trip's condition (R104). -/
def highTrip (s : State) (c : Comp) : Bool :=
  compCounted (s.comp c).state
    && match highUsed s c with
      | some v => decide (280 ≤ v)
      | none => false

/-- The sensor trip's condition, when a pressure channel has entered Failed (R104). -/
def sensorTrip (s : State) (c : Comp) : Bool := (s.comp c).state == .starting || (s.comp c).state == .running

/-- The charge trip's condition (R104). -/
def chargeTrip (s : State) (c : Comp) : Bool :=
  (s.comp c).state == .running && lasted s.partTime (s.comp c).chargeStart 30

/-- The charge stretch at a low-side sample (R104). -/
def chargeRec (now : Nat) (lowUsed : Option Int) (r : CompRec) : CompRec :=
  if r.state = .running then
    match lowUsed with
    | some v => { r with chargeStart := if v < 10 then some (r.chargeStart.getD now) else none }
    | none => { r with chargeStart := none }
  else r

/-- The throttle after a high-side or coil sample (R103). -/
def throttleAfter (r : CompRec) (high coil : Option Int) : Bool :=
  let highSets :=
    match high with
    | some v => decide (240 ≤ v)
    | none => false
  let coilSets :=
    match coil with
    | some v => decide (v < 10)
    | none => true
  let highClears :=
    match high with
    | some v => decide (v < 220)
    | none => false
  let coilClears :=
    match coil with
    | some v => decide (30 ≤ v)
    | none => false
  if r.throttle then !(highClears && coilClears) else highSets || coilSets

/-- Setting or clearing the throttle while the compressor is in Starting, Running or Unloading, with the report to the CA in
Running (R103). -/
def throttleComp (c : Comp) (s : State) : State :=
  let r := s.comp c
  if compCounted r.state then
    reportCool (s.setComp c { r with throttle := throttleAfter r (highUsed s c) (coilUsed s c) })
  else s

/-- The protection of a compressor at a sample of its circuit (R103, R104): `low` is whether the sample is the low-side one,
`throttles` whether it is a high-side or coil one, `failed` whether its pressure channel has just entered Failed. A trip is taken
before the throttle (log entry 13). -/
def protectComp (c : Comp) (low throttles failed : Bool) (s : State) : State :=
  let s1 := if low then s.setComp c (chargeRec s.partTime (lowUsed s c) (s.comp c)) else s
  if highTrip s1 c || (failed && sensorTrip s1 c) || chargeTrip s1 c then tripComp c s1
  else if throttles then throttleComp c s1
  else s1

/-! ## When a compressor may start (R98) -/

/-- Whether a condition of R98 holds for a compressor. -/
def conditionHolds (s : State) (c : Comp) : StartCondition → Bool
  | .powerState => inUse s.psc.power
  | .state => (s.comp c).state == .off
  | .otherCompressor => (s.comp (otherComp c)).state != .starting
  | .offTime => passed s.partTime (s.comp c).stoppedSince 300
  | .enable => (s.comp c).enable
  | .shedStack => !onStack s.la (.comp c)
  | .pressureChannels => (highUsed s c).isSome && (lowUsed s c).isSome
  | .lowAmbient => decide (50 ≤ outdoorUsed s) || s.cs.sccShort
  | .startLog => decide ((s.comp c).startLog.length < 6)

/-- The conditions in the order of R98's table. -/
def startConditions : List StartCondition :=
  [.powerState, .state, .otherCompressor, .offTime, .enable, .shedStack, .pressureChannels, .lowAmbient, .startLog]

/-- The first failing condition of R98, or none for a startable compressor. -/
def firstFailing (s : State) (c : Comp) : Option StartCondition := startConditions.find? (fun k => !conditionHolds s c k)

/-- A refusal recorded, and START_LIMIT when a limit episode opens (R99). -/
def refuseStart (c : Comp) (k : StartCondition) (s : State) : State :=
  let r := s.comp c
  if k = .startLog then
    let s1 := s.setComp c { r with reason := some k, episodeOpen := true }
    if r.episodeOpen then s1 else raise .startLimit s1
  else s.setComp c { r with reason := some k }

/-- A startable compressor put to the LA (R80, R100). -/
def askStart (c : Comp) (s : State) : State :=
  if admitted s 4200 then s.setComp c (startRec s.partTime (s.comp c))
  else s.setComp c { s.comp c with deferred := true }

/-- Compressor A tested and then B; the first startable one is put to the LA (R100). Where that is A, B is not tested (log entry 38). -/
def tryStarts (s : State) : State :=
  match firstFailing s .a with
  | none => askStart .a s
  | some k =>
    let s1 := refuseStart .a k s
    match firstFailing s1 .b with
    | none => askStart .b s1
    | some k2 => refuseStart .b k2 s1

/-! ## The staging check (R99 to R101, R104, R106, R107) -/

/-- A record brought up to the check: logs aged, a limit episode closed where the start log has recovered, and no reason yet
(R98, R99). -/
def ageRec (now : Nat) (r : CompRec) : CompRec :=
  let log := ageLog now r.startLog
  { r with
    startLog := log
    tripLog := ageLog now r.tripLog
    episodeOpen := r.episodeOpen && decide (6 ≤ log.length)
    reason := none }

/-- Whether a Tripped compressor may leave for Off (R106). -/
def tripOver (s : State) (c : Comp) : Bool :=
  (s.comp c).state == .tripped && passed s.partTime (s.comp c).stateSince 600
    && match highUsed s c with
      | some v => decide (v < 200)
      | none => false

def releaseTripped (c : Comp) (s : State) : State :=
  if tripOver s c then s.setComp c { s.comp c with state := .off, stateSince := s.partTime } else s

/-- Running, with its minimum on-time of 180 s elapsed (R93). -/
def mayStop (now : Nat) (r : CompRec) : Bool := r.state == .running && lasted now r.onSince 180

/-- The stop of a disabled compressor (R107). -/
def stopDisabled (c : Comp) (s : State) : State :=
  if !(s.comp c).enable && mayStop s.partTime (s.comp c) then unloadComp c s else s

/-- The compressor that the surplus rule stops: B if it is in Running, otherwise A if that is (R101). -/
def surplusTarget (s : State) : Option Comp :=
  if (s.comp .b).state = .running then some .b
  else if (s.comp .a).state = .running then some .a
  else none

def breakSurplus (s : State) : State := s.setCs { s.cs with surplus := none }

/-- A staging stop, which breaks the surplus stretch (R101). -/
def stagingStop (c : Comp) (s : State) : State :=
  if mayStop s.partTime (s.comp c) then breakSurplus (unloadComp c s) else s

/-- The surplus rule (R101). -/
def stopForSurplus (s : State) : State :=
  if lasted s.partTime s.cs.surplus 300 then
    match surplusTarget s with
    | some c => stagingStop c s
    | none => s
  else s

/-- The idle rule (R101), A before B (log entry 37). -/
def stopForIdle (s : State) : State :=
  if lasted s.partTime s.cs.idle 120 then stagingStop .b (stagingStop .a s) else s

/-- The stage delay (R100). -/
def stageDelay (s : State) : Nat :=
  if s.cs.sccShort then 0
  else if (s.comp .a).state = .running ∨ (s.comp .b).state = .running then 60
  else 10

/-- The part of the check that brings records up to date and takes what has fallen due: ageing, charge trips, and moves from
Tripped to Off (R99, R104, R106), A before B (log entry 37). -/
def stagingUpdate (s : State) : State :=
  let s1 := s.setCs { s.cs with comps := s.cs.comps.map (ageRec s.partTime), checkedAt := some s.partTime }
  let s2 := if chargeTrip s1 .a then tripComp .a s1 else s1
  let s3 := if chargeTrip s2 .b then tripComp .b s2 else s2
  releaseTripped .b (releaseTripped .a s3)

/-- The three stretches and the deferred flags, from W_c and C (R100, R101). -/
def stagingStretches (s : State) : State :=
  let w := s.cs.wantedTotal
  let c := s.ca.coolCap
  let clear (r : CompRec) : CompRec := if w ≤ c then { r with deferred := false } else r
  s.setCs
    { s.cs with
      comps := s.cs.comps.map clear
      excess := keepStretch s.partTime (decide (c < w)) s.cs.excess
      surplus := keepStretch s.partTime (decide (w + 4 ≤ c)) s.cs.surplus
      idle := keepStretch s.partTime (w == 0) s.cs.idle }

/-- A staging check, in the order of log entry 11, A before B (log entry 37). Starts are decided on the W_c, C and stage delay read
before the stops. -/
def stagingWork (s : State) : State :=
  let s1 := stagingStretches (stagingUpdate s)
  let starts := decide (s1.ca.coolCap < s1.cs.wantedTotal) && lasted s1.partTime s1.cs.excess (stageDelay s1)
  let s2 := stopForIdle (stopForSurplus (stopDisabled .b (stopDisabled .a s1)))
  if starts then tryStarts s2 else s2

end Sys2Proof.Machine
end

