-- ==== Sys2Proof/Machine/Heating.lean ====
section
/-! DEFINITION. The Heating Sequencer's work (R70, R71, R113 to R126): the heat band, the pump, the heater, and the heating
check. -/

namespace Sys2Proof.Machine

/-! ## The heat band (R70) -/

/-- The highest band whose rising threshold a value reaches. -/
def risingBand (v : Int) : Nat := if 700 ≤ v then 3 else if 550 ≤ v then 2 else if 400 ≤ v then 1 else 0

/-- The highest band whose falling threshold a value reaches. -/
def fallingBand (v : Int) : Nat := if 680 ≤ v then 3 else if 530 ≤ v then 2 else if 380 ≤ v then 1 else 0

/-- The band after a coolant sample event (R70): a rise to the highest rising threshold reached, otherwise a fall where the value
is below the band's falling threshold; band 0 without a value used. -/
def bandAfter (band : Nat) (value : Option Int) : Nat :=
  match value with
  | none => 0
  | some v => if band < risingBand v then risingBand v else min band (fallingBand v)

def coolantUsed (s : State) : Option Int := valueUsed s.ssu.coolant

/-! ## Outputs (R117) -/

/-- The run request of the auxiliary heater (R117). -/
def runRequest (h : Heating) : Bool := h.heater == .ignition || h.heater == .burning

/-- The heater is in Off or Lockout (R116, R125). -/
def heaterStopped (h : Heating) : Bool := !heaterCounted h.heater

/-! ## Heater entries (R118 to R121) -/

/-- Entry to Ignition, and at once to Burning where FLAME is present (R119). The latched start has been acted on (log entry
23). -/
def enterIgnition (now attempt relight : Nat) (flame : Bool) (h : Heating) : Heating :=
  { h with
    heater := if flame then .burning else .ignition
    heaterSince := now
    attempt := attempt
    relight := relight
    cause := none
    latched := false }

def enterRetryPurge (now : Nat) (h : Heating) : Heating :=
  { h with heater := .retryPurge, heaterSince := now, cause := none, latched := true }

def enterLockout (now : Nat) (h : Heating) : Heating :=
  { h with heater := .lockout, heaterSince := now, cause := none, latched := false }

def enterOff (now : Nat) (h : Heating) : Heating :=
  { h with heater := .off, heaterSince := now, cause := none, latched := false }

/-- The heater's start condition (R118). -/
def startCondition (s : State) : Bool :=
  inUse s.psc.power
    && decide (0 < s.hs.wantedTotal)
    && (s.psc.power == .layover || lasted s.partTime s.hs.startStretch 120)
    && s.hs.pump
    && s.hs.permit
    && !onStack s.la .heater
    && match coolantUsed s with
      | some v => decide (v < 700)
      | none => false

/-- The Ignition that follows a purge (R121). -/
def igniteAfterPurge (now : Nat) (flame : Bool) (h : Heating) : Heating :=
  match h.heater, h.cause with
  | .retryPurge, _ => enterIgnition now 2 h.relight flame h
  | _, some .flameLoss => enterIgnition now 1 1 flame h
  | _, _ => enterIgnition now 1 h.relight flame h

/-! ## The pump (R115, R116) -/

/-- A stop of the pump other than a shed: the decrease to the LA, then the heat pool to the CA (R116). -/
def stopPumpNow (s : State) : State :=
  if s.hs.pump then reportHeat (restoreIfFell (committedLoad s) (s.setHs (stopPump s.partTime s.hs))) else s

/-- The pump's decision at a heating check, while it is Off (R115). -/
def pumpStart (s : State) : State :=
  if inUse s.psc.power && decide (0 < s.hs.wantedTotal) && !onStack s.la .pump then
    if admitted s 180 then reportHeat (s.setHs { s.hs with pump := true, pumpDeferred := false })
    else s.setHs { s.hs with pumpDeferred := true }
  else s

/-- The pump's decisions at a heating check (R115, R116). -/
def pumpDecision (s : State) : State :=
  if s.hs.pump then
    if lasted s.partTime s.hs.idleStretch 120 && heaterStopped s.hs then stopPumpNow s else s
  else pumpStart s

/-! ## The heater at a heating check (R118, R121, R122) -/

/-- A purging heater in which a start is wanted has its latched start set (R121), one that was shed in the same purge and has been popped
since too. R86 has a heater shed in a purge go to Off; that this ends with the pop is the model's choice (log entry 42). -/
def latchStart (s : State) : State :=
  match s.hs.heater with
  | .afterRun | .retryPurge => s.setHs { s.hs with latched := s.hs.latched || startCondition s }
  | .off | .ignition | .burning | .lockout => s

/-- The heater put to the LA where it is Off and its start condition holds (R118). -/
def heaterStart (s : State) : State :=
  if startCondition s then
    if s.hs.heater = .off then
      if admitted s 140 then
        s.setHs { enterIgnition s.partTime 1 0 s.pins.flame s.hs with heaterDeferred := false }
      else s.setHs { s.hs with heaterDeferred := true }
    else s
  else s.setHs { s.hs with heaterDeferred := false }

/-- The heater's decisions: the idle stop request, the latched start, the start (R118, R121, R122). -/
def heaterDecision (s : State) : State :=
  let s1 := if lasted s.partTime s.hs.idleStretch 300 then s.setHs (stopHeater s.partTime s.hs) else s
  heaterStart (latchStart s1)

/-- The stretches brought up to date (R114), and the pump's deferred flag at a check that finds H = 0 (R115). -/
def heatingStretches (s : State) : State :=
  let w := s.hs.wantedTotal
  s.setHs
    { s.hs with
      startStretch := keepStretch s.partTime (decide (0 < w) && s.hs.band == 0) s.hs.startStretch
      idleStretch := keepStretch s.partTime (w == 0) s.hs.idleStretch
      pumpDeferred := s.hs.pumpDeferred && decide (0 < w)
      checkedAt := some s.partTime }

/-- A heating check: stretches, pump, heater (R114). -/
def heatingWork (s : State) : State := heaterDecision (pumpDecision (heatingStretches s))

/-! ## Coolant samples (R70, R71, R122) -/

/-- What the HS does at a coolant sample event: the band and its report, and the stop requests of overheat and of a channel that
has entered Failed (R70, R71, R122). -/
def coolantSampled (failed : Bool) (s : State) : State :=
  let v := coolantUsed s
  let s1 := reportHeat (s.setHs { s.hs with band := bandAfter s.hs.band v })
  let overheat :=
    match v with
    | some t => decide (750 ≤ t)
    | none => false
  if overheat || failed then s1.setHs (stopHeater s1.partTime s1.hs) else s1

/-! ## Expiries (R119, R121, R125) -/

/-- While Winding-down, the pump stops as the heater comes to Off or Lockout (R125). -/
def windDownPump (s : State) : State := if s.psc.power = .windingDown ∧ heaterStopped s.hs then stopPumpNow s else s

/-- The end of a purge (R121). -/
def endPurge (s : State) : State :=
  if s.hs.latched && startCondition s then s.setHs (igniteAfterPurge s.partTime s.pins.flame s.hs)
  else windDownPump (restoreIfFell (committedLoad s) (s.setHs (enterOff s.partTime s.hs)))

/-- The end of 90 s of Ignition without a flame (R119). -/
def endIgnition (s : State) : State :=
  if s.hs.attempt = 1 then s.setHs (enterRetryPurge s.partTime s.hs)
  else
    raise .auxLock (raise .auxFault (restoreIfFell (committedLoad s) (s.setHs (enterLockout s.partTime s.hs))))

/-- FLAME becomes present (R119). -/
def flameAppears (h : Heating) (now : Nat) : Heating :=
  if h.heater = .ignition then { h with heater := .burning, heaterSince := now } else h

/-- FLAME goes absent: a flame loss in Burning (R120). -/
def flameGoes (s : State) : State :=
  if s.hs.heater = .burning then
    let s1 := raise .auxFault s
    if s.hs.relight = 0 then
      s1.setHs
        { s.hs with heater := .afterRun, heaterSince := s.partTime, cause := some .flameLoss, latched := true }
    else raise .auxLock (restoreIfFell (committedLoad s) (s1.setHs (enterLockout s.partTime s.hs)))
  else s

end Sys2Proof.Machine
end

