-- ==== Sys2Proof/Machine/Power.lean ====
section
/-! DEFINITION. The Screen Clear Monitor and the Power State Controller (R143 to R162): assertion and release, entries to power
states, wind-down and its end, and the depart lead. -/

namespace Sys2Proof.Machine

/-! ## The dew margin (R144, R145) -/

/-- The margin from glass temperature, humidity and U1's temperature used (R145). -/
def dewMargin (glass humidity temp : Int) : Int := glass - (temp - (100 - max humidity 40) * 2)

/-- The margin of a screen check, absent while detection is unavailable (R144). -/
def marginNow (s : State) : Option Int :=
  match valueUsed s.ssu.glass, valueUsed s.ssu.humidity, (s.zone .u1).tempUsed with
  | some g, some h, some t => some (dewMargin g h t)
  | _, _, _ => none

/-! ## Assertion and release (R147, R148, R151) -/

/-- Screen clear asserted: the monitor's own state and flag (R147), then CA, APC and LA in the order of its table (log entry 8).
The screen blower's load and its floor share follow `active` at once (R83). -/
def assertScreen (s : State) : State :=
  let s1 := raise .screen (s.setScm { s.scm with active := true, activeSince := some s.partTime, fog := 0 })
  let s2 := arbEvent (assertScreenEntries s.partTime) s1
  shedTest (s2.setApc { s2.apc with damperUpper := max s2.apc.damperUpper 50 })

/-- Screen clear released: the monitor's own state, the CA, then the LA's test of shedding and its restore attempt (R148). -/
def releaseScreen (s : State) : State :=
  let s1 := s.setScm { s.scm with active := false, activeSince := none }
  restoreAttempt (shedTest (arbEvent (releaseScreenEntries s.partTime) s1))

/-- The release conditions (R148). -/
def mayRelease (s : State) : Bool :=
  lasted s.partTime s.scm.activeSince 120 && !s.scm.hostRequest
    && match s.scm.margin with
      | some m => decide (40 ≤ m)
      | none => true

/-- The monitor brought up to date at a check: detection, margin, fog timer (R144 to R146). A margin of 20 or more sets the fog timer to
0, as R146's table has it (log entry 39). -/
def screenUpdate (s : State) : ScreenMonitor :=
  let m := marginNow s
  let fogged :=
    match m with
    | some v => decide (v < 20)
    | none => false
  { s.scm with
    margin := m
    detection := m.isSome
    fog := if s.scm.active then 0 else if fogged then s.scm.fog + 1 else 0
    checkedAt := some s.partTime }

/-- A screen check (R146). -/
def screenWork (s : State) : State :=
  let s1 := s.setScm (screenUpdate s)
  if s1.scm.active then if mayRelease s1 then releaseScreen s1 else s1
  else if 30 ≤ s1.scm.fog ∨ s1.scm.hostRequest = true then assertScreen s1
  else s1

/-! ## Entries to power states (R155, R158, R160) -/

/-- The power state and event flag POWER (R155). IGNITION-off since is kept in Run only (R153). -/
def enterPower (p : PowerState) (s : State) : State :=
  raise .power (s.setPsc { s.psc with power := p, ignitionOffSince := none })

/-- A zone whose host mode is Auto brought to Auto, its timer held at the full value (R33, R162). -/
def bringToAuto (z : Zone) (s : State) : State :=
  let r := s.zone z
  if r.hostMode = .auto then
    if r.opMode = .auto then s.setZone z { r with timer := autoLength r } else takeMode z .auto s
  else s

/-- What an entry to Layover does to one zone (R155). -/
def layoverZone (s : State) (z : Zone) : State :=
  let r := s.zone z
  if r.seats = 0 then
    if s.psc.precondition && r.hostMode == .auto then bringToAuto z s else enterStandby z s
  else s

/-- Entry to Layover: the power state, POWER, and the zones (R155) in zone order (log entry 36). -/
def enterLayover (s : State) : State := Zone.all.foldl layoverZone (enterPower .layover s)

/-- Entry to Run (R155). -/
def enterRun (s : State) : State := enterPower .run s

/-- The release of one zone from the Standby that the power state held it in (R160). -/
def releaseZone (s : State) (z : Zone) : State :=
  let r := s.zone z
  if r.seats = 0 then s else takeMode z (opOfHost r.hostMode) s

/-- Leaving Winding-down or Parked: what the ZC, SSU, CS, HS, APC and SCM do (R4, R9, R109, R125, R142, R151, R159). -/
def leaveRest (s : State) : State :=
  let now := s.partTime
  let s1 :=
    if s.psc.power = .parked then
      (s.setZc
          { s.zc with
            period := s.zc.pendingPeriod
            periodTimer := some (periodLength s.zc.pendingPeriod) }).setSsu
        (s.ssu.map (fun r => { r with sampledAt := some now }))
    else s
  let s2 := s1.setCs { s1.cs with excess := none, surplus := none, idle := none }
  let s3 := s2.setHs { s2.hs with startStretch := none, idleStretch := none }
  let s4 := s3.setApc { s3.apc with damperAt := now }
  let s5 := s4.setScm { s4.scm with fog := 0, checkedAt := some now }
  s5.setPsc { s5.psc with stopped := ⟨false, false, false⟩ }

/-- With the precondition flag set, every zone whose host mode is Auto goes to Auto, whatever its seats (R160, R162). -/
def preconditionZones (s : State) : State :=
  if s.psc.precondition then Zone.all.foldl (fun s z => bringToAuto z s) s else s

/-- The part leaves Winding-down or Parked for Run (R158, R159): the zones are released (R160). -/
def leaveForRun (s : State) : State := preconditionZones (Zone.all.foldl releaseZone (enterRun (leaveRest s)))

/-- The part leaves Winding-down or Parked for Layover: POWER is set and the zones are released (R160), and then the Layover row
of R155 applies. With the precondition flag set, that row brings the zones still in Standby to Auto where their host mode is Auto, and
the release has brought the occupied ones. -/
def leaveForLayover (s : State) : State :=
  Zone.all.foldl layoverZone (Zone.all.foldl releaseZone (enterPower .layover (leaveRest s)))

/-! ## The end of wind-down (R157, R158) -/

/-- The CS's plant is stopped (R109). -/
def csStopped (s : State) : Bool := !compCounted (s.comp .a).state && !compCounted (s.comp .b).state

/-- The HS's plant is stopped (R125). -/
def hsStopped (s : State) : Bool := !s.hs.pump && heaterStopped s.hs

/-- The APC's plant is stopped (R142). -/
def apcStopped (s : State) : Bool := Zone.all.all (fun z => (s.blower z).speed == 0) && !s.scm.active

/-- The stopped set with the reports that have come due (R157). -/
def reportStopped (s : State) : StoppedSet :=
  { cs := s.psc.stopped.cs || csStopped s
    hs := s.psc.stopped.hs || hsStopped s
    apc := s.psc.stopped.apc || apcStopped s }

/-- Entry to Parked (R158): the period timer stops (R9). -/
def enterParked (s : State) : State := enterPower .parked (s.setZc { s.zc with periodTimer := none })

/-- The stopped reports of a wind-down and its completion, in the event that brings them about (R157, R158): into Parked, or,
with a wake condition standing, into Run or Layover. -/
def windDownReports (s : State) : State :=
  if s.psc.power = .windingDown then
    let r := reportStopped s
    let s1 := s.setPsc { s.psc with stopped := r }
    if r.cs && r.hs && r.apc then
      if s.pins.ignition then shedTest (leaveForRun s1)
      else if s.psc.precondition then shedTest (leaveForLayover s1)
      else enterParked s1
    else s1
  else s

/-- The end of an event that may have changed loads or stopped plant: the LA's test of shedding (R84) and the PSC's stopped
reports (R157, R158). -/
def endEvent (s : State) : State := windDownReports (shedTest s)

/-! ## The wind-down order (R151, R157) -/

/-- The SCM at the wind-down order (R151). -/
def windDownScreen (s : State) : State :=
  let s1 := if s.scm.active then releaseScreen s else s
  s1.setScm { s1.scm with fog := 0 }

/-- The HS at the wind-down order (R125). -/
def windDownHeating (s : State) : State := windDownPump (s.setHs (stopHeater s.partTime s.hs))

/-- The start of wind-down: ZC, SCM, CS, HS and APC in the order of R157's table (log entry 8), the zones in zone order (log entry 36),
compressor A before B (log entry 37), then the reports. -/
def windDown (s : State) : State :=
  let s1 := enterPower .windingDown (s.setPsc { s.psc with stopped := ⟨false, false, false⟩ })
  let s2 := windDownScreen (Zone.all.foldl (fun s z => enterStandby z s) s1)
  let s3 := windDownHeating (unloadComp .b (unloadComp .a s2))
  endEvent (dampersToFreshMin s3)

/-! ## Wake and the depart lead (R158, R159, R161, R162) -/

/-- A wake to Layover: from Parked by waking, from Winding-down by abandonment (R158, R159). -/
def wakeToLayover (s : State) : State := if inUse s.psc.power then s else leaveForLayover s

/-- The lead is reached (R162): the flag and DEPART, the wake or abandonment, and the Auto zones to Auto in zone order (log entry 36). -/
def reachLead (s : State) : State :=
  let s1 := raise .depart (s.setPsc { s.psc with precondition := true, leadArmed := false })
  Zone.all.foldl (fun s z => bringToAuto z s) (wakeToLayover s1)

/-- The lead point of a depart time (R153). -/
def leadPointOf (depart lead : Nat) : Int := (depart : Int) - 60 * lead

/-- The precondition flag clears (R161, R162). The Auto zones' timers then run from their held value (R33). -/
def clearPrecondition (s : State) : State := s.setPsc { s.psc with precondition := false }

/-- A new depart time (R161): its lead reached at once, or the lead expiry still to come and the flag cleared. The sum is kept as it
is, beyond the top of part time too (log entry 26). -/
def setDepart (minutes : Nat) (s : State) : State :=
  let d := s.partTime + minutes * 60
  let lead := leadPointOf d s.psc.departLead
  let s1 := s.setPsc { s.psc with departTime := some d, leadPoint := some lead, leadArmed := true }
  if lead ≤ s.partTime then reachLead s1 else clearPrecondition s1

/-- A DEPART cancel, and the depart time's own end (R161, R162). -/
def endDepart (s : State) : State :=
  s.setPsc { s.psc with departTime := none, leadPoint := none, leadArmed := false, precondition := false }

/-- A loaded depart lead moves the lead point of a standing depart time: reached at once, or its expiry still to come. A flag already
set stays set (R161). -/
def loadLead (lead : Nat) (s : State) : State :=
  let s1 := s.setPsc { s.psc with departLead := lead }
  match s.psc.departTime with
  | some d =>
    let p := leadPointOf d lead
    let s2 := s1.setPsc { s1.psc with leadPoint := some p, leadArmed := true }
    if p ≤ s.partTime then reachLead s2 else s2
  | none => s1

/-- A level change of IGNITION (R154). -/
def ignitionChanged (on : Bool) (s : State) : State :=
  let s1 := s.setPins { s.pins with ignition := on }
  if on then
    match s.psc.power with
    | .run => s1.setPsc { s1.psc with ignitionOffSince := none }
    | .layover => enterRun s1
    | .windingDown | .parked => leaveForRun s1
  else if s.psc.power = .run then s1.setPsc { s1.psc with ignitionOffSince := some s.partTime }
  else s1

/-- The zones that a door's edges reach (R27), in the order in which they take the edge: E before L1, the model's choice (log entry
36). -/
def doorZones : Door → List Zone
  | .front => [.e, .l1]
  | .middle => [.l2]

/-- A door edge (R27, R158, R159). The front door's edge is taken by E, its blower's raise and the test of shedding with it, before L1
(log entry 36). -/
def doorChanged (d : Door) (s : State) : State :=
  let pins :=
    match d with
    | .front => { s.pins with frontDoor := !s.pins.frontDoor }
    | .middle => { s.pins with middleDoor := !s.pins.middleDoor }
  let s1 := s.setPins pins
  if inUse s.psc.power then (doorZones d).foldl (fun s z => reloadEvent .door z s) s1 else wakeToLayover s1

end Sys2Proof.Machine
end

