-- ==== Sys2Proof/Machine/Sensors.lean ====
section
/-! DEFINITION. The Sensor Scan Unit and what a sample event brings about at its users (R4, R5, R7, R70, R103, R104). -/

namespace Sys2Proof.Machine

/-- A channel record after a sample (R4, R5). -/
def sampleRec (now : Nat) (valid : Bool) (v : Int) (r : ChannelRec) : ChannelRec :=
  if valid then ⟨.good, some v, none, some now⟩
  else
    match r.status with
    | .good => ⟨.held, r.lastGood, some now, some now⟩
    | .held =>
      if lasted now r.heldSince 60 then ⟨.failed, r.lastGood, none, some now⟩
      else { r with sampledAt := some now }
    | .failed => { r with sampledAt := some now }

/-- The SSU's own part of a sample event: the channel, and flag SENSOR when it enters Failed (R5). -/
def takeSample (c : Channel) (v : Int) (s : State) : State :=
  let r := s.ssu.get c
  let r1 := sampleRec s.partTime (sampleValid c v) v r
  let s1 := s.setSsu (s.ssu.set c r1)
  if r.status ≠ .failed ∧ r1.status = .failed then raise .sensor s1 else s1

/-- What the users of the channel do at the sample event; `failed` is whether the channel has just entered Failed. -/
def sampleUsers (c : Channel) (failed : Bool) (s : State) : State :=
  match c with
  | .zoneTemp _ => deriveSensors s
  | .coolant => coolantSampled failed s
  | .pressureHigh k => protectComp k false true failed s
  | .pressureLow k => protectComp k true false failed s
  | .coil k => protectComp k false true false s
  | .outdoor | .glass | .humidity | .co2 _ | .solar => s

/-- A sample event (R4): none in Parked, and one for each channel in a second (log entry 3). -/
def sampleWork (c : Channel) (v : Int) (s : State) : State :=
  if s.psc.power = .parked ∨ notYet s.partTime (s.ssu.get c).sampledAt = false then s
  else
    let s1 := takeSample c v s
    let failed := (s.ssu.get c).status != .failed && (s1.ssu.get c).status == .failed
    endEvent (sampleUsers c failed s1)

end Sys2Proof.Machine
end

