-- ==== Sys2Proof/Machine/Profile.lean ====
section
/-! DEFINITION. The profile store's settings as a load brings them to valid values (R173, R176, R181), and what PROFILE LOAD does
with them (R23, R36, R66, R78, R107, R124, R141, R161, R170, R176). -/

namespace Sys2Proof.Machine

/-- A setting as loaded, and whether the load had to clamp or default it (R176). -/
structure Loaded (α : Type) where
  value : α
  adjusted : Bool
deriving DecidableEq, Repr

/-- The number of settings adjusted: 1 or 0. -/
def adjustedCount {α : Type} (l : Loaded α) : Nat := if l.adjusted then 1 else 0

/-- A quantity clamped to its range. -/
def loadQuantity (lo hi : Nat) (w : Half) : Loaded Nat := ⟨clampNat lo hi w.toNat, clampNat lo hi w.toNat != w.toNat⟩

def loadInt (lo hi : Nat) (w : Half) : Loaded Int := ⟨(clampNat lo hi w.toNat : Nat), clampNat lo hi w.toNat != w.toNat⟩

/-- A setting that names something, with its default. -/
def loadNamed {α : Type} (default : α) (o : Option α) : Loaded α :=
  match o with
  | some v => ⟨v, false⟩
  | none => ⟨default, true⟩

/-- A setpoint clamped and rounded down. One that is only rounded counts as adjusted too (log entry 43). -/
def loadSetpoint (w : Half) : Loaded Int := ⟨stepSetpoint w.toNat, stepSetpoint w.toNat != w.toNat⟩

/-- An allowance clamped and rounded down, counted in the same way (log entry 43). -/
def loadAllowance (w : Half) : Loaded Nat := ⟨stepAllowance w.toNat, stepAllowance w.toNat != w.toNat⟩

/-- The default reload mask of a zone (R27). -/
def defaultMask : Zone → ReloadMask
  | .e | .l1 => ⟨true, true, true, true⟩
  | .l2 | .u1 | .u2 | .u3 => ⟨true, true, false, true⟩

/-- The line codes of an order word, highest first; none where an unused bit is set (R181). -/
def orderCodes (a : ArbiterId) (w : Half) : Option (List Nat) :=
  let n := w.toNat
  match a with
  | .saloon | .upper => if n < 4096 then some [n / 256, n / 16 % 16, n % 16] else none
  | .lower => if n < 256 then some [n / 16, n % 16] else none

def loadOrder (a : ArbiterId) (w : Half) : Loaded (List Line) :=
  loadNamed (arbiterLines a) ((orderCodes a w).bind (orderOfCodes a))

/-- The settings of one zone's row (R173). -/
structure ZoneSettings where
  setpoint : Int
  hostMode : HostMode
  curve : CurveCode
  setbackMin : Nat
  standbyMin : Nat
  mask : ReloadMask
deriving DecidableEq, Repr

/-- All 111 settings of the store (R173, R176). -/
structure Settings where
  zones : PerZone ZoneSettings
  kp : Int
  ki : Int
  db : Int
  period : Nat
  setbackOffset : Int
  ventMin : Nat
  freshMin : Nat
  modes : ArbModes
  orders : Orders
  eventEnable : Half
  fallback : Nat
  departLead : Nat
  compEnable : PerComp Bool
  permit : Bool
  snapshotRate : Nat
  curveTable : List Nat
deriving DecidableEq, Repr

/-- A word of the store by row and column. -/
def wordAt (m : Memory) (row column : Nat) : Half := Memory.read m (storeAddress row column)

def loadZone (m : Memory) (z : Zone) : ZoneSettings × Nat :=
  let w := wordAt m (codeOfZone z)
  let sp := loadSetpoint (w 0)
  let hm := loadNamed .auto (hostModeOfCode (w 1).toNat)
  let cc := loadNamed .linear (curveOfCode (w 2).toNat)
  let sb := loadQuantity 1 60 (w 3)
  let st := loadQuantity 1 240 (w 4)
  let mk := loadNamed (defaultMask z) (reloadMaskOfCode (w 5).toNat)
  (⟨sp.value, hm.value, cc.value, sb.value, st.value, mk.value⟩,
    adjustedCount sp + adjustedCount hm + adjustedCount cc + adjustedCount sb + adjustedCount st + adjustedCount mk)

/-- The curve points of rows 9 to 15 (R173). -/
def loadPoints (m : Memory) : List (Loaded Nat) :=
  (List.range 54).map (fun a => loadQuantity 0 100 (wordAt m (9 + a / 8) (a - 8 * (a / 8))))

/-- A load: every setting brought to a valid value, and how many had to be clamped or defaulted (R176). -/
def loadSettings (m : Memory) : Settings × Nat :=
  let zs : PerZone (ZoneSettings × Nat) :=
    ⟨loadZone m .e, loadZone m .l1, loadZone m .l2, loadZone m .u1, loadZone m .u2, loadZone m .u3⟩
  let six := wordAt m 6
  let kp := loadInt 1 40 (six 0)
  let ki := loadInt 0 32 (six 1)
  let db := loadInt 0 10 (six 2)
  let period := loadQuantity 0 30 (six 3)
  let offset := loadInt 10 50 (six 4)
  let hold := loadQuantity 10 120 (six 5)
  let vent := loadQuantity 10 60 (six 6)
  let fresh := loadQuantity 0 100 (six 7)
  let seven := wordAt m 7
  let pm0 := loadNamed .fixed (priorityOfCode (seven 0).toNat)
  let pm1 := loadNamed .fixed (priorityOfCode (seven 1).toNat)
  let pm2 := loadNamed .fixed (priorityOfCode (seven 2).toNat)
  let nest := loadNamed .strict (nestingOfCode (seven 3).toNat)
  let o0 := loadOrder .saloon (seven 4)
  let o1 := loadOrder .lower (seven 5)
  let o2 := loadOrder .upper (seven 6)
  let en := loadNamed 0x7FFF (if flagSetValid (seven 7) then some (seven 7) else none)
  let eight := wordAt m 8
  let fb := loadAllowance (eight 0)
  let lead := loadQuantity 10 90 (eight 1)
  let ce := loadNamed ⟨true, true⟩ (compSetOfCode (eight 2).toNat)
  let fp := loadNamed true (permitOfCode (eight 3).toNat)
  let rate := loadQuantity 0 60 (eight 4)
  let pts := loadPoints m
  ({ zones := ⟨zs.e.1, zs.l1.1, zs.l2.1, zs.u1.1, zs.u2.1, zs.u3.1⟩
     kp := kp.value
     ki := ki.value
     db := db.value
     period := period.value
     setbackOffset := offset.value
     ventMin := vent.value
     freshMin := fresh.value
     modes := ⟨pm0.value, pm1.value, pm2.value, nest.value, hold.value⟩
     orders := ⟨o0.value, o1.value, o2.value⟩
     eventEnable := en.value
     fallback := fb.value
     departLead := lead.value
     compEnable := ce.value
     permit := fp.value
     snapshotRate := rate.value
     curveTable := pts.map Loaded.value },
    zs.e.2 + zs.l1.2 + zs.l2.2 + zs.u1.2 + zs.u2.2 + zs.u3.2
      + (adjustedCount kp + adjustedCount ki + adjustedCount db + adjustedCount period + adjustedCount offset
        + adjustedCount hold + adjustedCount vent + adjustedCount fresh)
      + (adjustedCount pm0 + adjustedCount pm1 + adjustedCount pm2 + adjustedCount nest + adjustedCount o0
        + adjustedCount o1 + adjustedCount o2 + adjustedCount en)
      + (adjustedCount fb + adjustedCount lead + adjustedCount ce + adjustedCount fp + adjustedCount rate)
      + (pts.map adjustedCount).sum)

/-! ## PROFILE LOAD (R176) -/

/-- A zone record with its loaded settings (R23). -/
def loadedZone (g : ZoneSettings) (r : ZoneRec) : ZoneRec :=
  { r with
    setpoint := g.setpoint
    hostMode := g.hostMode
    curve := g.curve
    setbackMin := g.setbackMin
    standbyMin := g.standbyMin
    mask := g.mask }

/-- Every block takes its new settings before any block acts on them (R176). The depart lead and the snapshot rate, which no other
block's action reads, are taken with the actions that go with them. -/
def takeSettings (g : Settings) (s : State) : State :=
  let s1 :=
    s.setZc
      { s.zc with
        zones := s.zc.zones.map (fun z r => loadedZone (g.zones.get z) r)
        kp := g.kp
        ki := g.ki
        db := g.db
        setbackOffset := g.setbackOffset
        pendingPeriod := g.period }
  let s2 := s1.setLa { s1.la with fallback := g.fallback }
  let s3 :=
    s2.setCs
      { s2.cs with
        comps :=
          ⟨{ s2.cs.comps.a with enable := g.compEnable.a }, { s2.cs.comps.b with enable := g.compEnable.b }⟩ }
  let s4 := s3.setHs { s3.hs with permit := g.permit }
  let s5 :=
    s4.setApc { s4.apc with curveTable := g.curveTable, ventMin := g.ventMin, freshMin := g.freshMin }
  let s6 := s5.setCa { s5.ca with orders := g.orders, modes := g.modes }
  s6.setHlu (enableFlags g.eventEnable s6.hlu)

/-- The ZC's action on loaded settings, zone by zone: timers adapted (R36), and a changed host mode brought into the operating
mode (R23). -/
def loadZoneActions (old : PerZone ZoneRec) (s : State) (z : Zone) : State :=
  let s1 := s.setZone z (adaptTimer s.psc.power s.psc.precondition (s.zone z))
  if (s1.zone z).hostMode = (old.get z).hostMode then s1 else applyHostMode z s1

/-- SNAPSHOT RATE's effect (R170). -/
def setSnapshotRate (rate : Nat) (h : HostLink) : HostLink :=
  { h with
    snapshotRate := rate
    snapshotCount := 0
    snapshotWaiting := if rate = 0 then false else h.snapshotWaiting }

/-- A load taken by PROFILE LOAD: settings first, then the blocks' actions in the order of R176's list, then the LA's test and the
restore attempt that a rise of the allowance in force calls for, once. Zones act in zone order (log entry 36). -/
def applyProfile (g : Settings) (s : State) : State :=
  let s1 := takeSettings g s
  let s2 := Zone.all.foldl (loadZoneActions s.zc.zones) s1
  let s3 := arbEvent (actOnSettings s2.partTime) s2
  let s4 := if s.hs.permit && !g.permit then s3.setHs (stopHeater s3.partTime s3.hs) else s3
  let s5 := if s.apc.ventMin = g.ventMin then s4 else computeAllBlowers s4
  let s6 := if s.apc.freshMin = g.freshMin then s5 else applyFreshMin s5
  let s7 := loadLead g.departLead s6
  let s8 := if s.hlu.snapshotRate = g.snapshotRate then s7 else s7.setHlu (setSnapshotRate g.snapshotRate s7.hlu)
  let s9 := shedTest s8
  let s10 := if allowanceInForce s.la < allowanceInForce s9.la then restoreAttempt s9 else s9
  windDownReports s10

end Sys2Proof.Machine
end

