-- ==== Sys2Proof/Machine/Resets.lean ====
section
/-! DEFINITION. Power-on reset and soft reset: every block's state after each (R3, R5, R39, R67, R91, R112, R126 to R128, R138,
R140, R143, R153, R172, R177). -/

namespace Sys2Proof.Machine

/-- The store after a reset: a word in progress is left at 0, and the PS is Idle (R177). -/
def resetStore (p : ProfileStore) : ProfileStore :=
  match p.state with
  | .idle => p
  | .erasing row column _ | .writing row column _ =>
    ⟨Memory.write p.cells (storeAddress row column) 0, .idle⟩

/-- Every channel Held with no last good value, held-since the part time of the reset (R5). -/
def resetChannel (now : Nat) : ChannelRec := ⟨.held, none, some now, none⟩

/-- A zone record with the loaded settings, its operating mode the host mode (R3, R39). -/
def resetZone (g : ZoneSettings) : ZoneRec where
  hostMode := g.hostMode
  opMode := opOfHost g.hostMode
  setpoint := g.setpoint
  trim := 0
  seats := 0
  timer := g.setbackMin * 60
  setbackMin := g.setbackMin
  standbyMin := g.standbyMin
  mask := g.mask
  sensor := .lost
  tempUsed := none
  sEff := g.setpoint
  integ := 0
  demand := 0
  reqKind := .none
  wanted := 0
  curve := g.curve

def resetZoneCtl (g : Settings) : ZoneCtl where
  zones := g.zones.map (fun _ z => resetZone z)
  shift := 0
  kp := g.kp
  ki := g.ki
  db := g.db
  setbackOffset := g.setbackOffset
  period := g.period
  pendingPeriod := g.period
  periodTimer := some (periodLength g.period)

/-- The arbiter after either reset (R67). -/
def resetArbiter (g : Settings) : Arbiter where
  table :=
    { scc := ⟨.cool, 0, 0, none, false, false⟩
      sch := ⟨.heat, 0, 0, none, false, false⟩
      zones := .const ⟨.none, 0, 0, none, false, false⟩ }
  queue := []
  orders := g.orders
  modes := g.modes
  coolCap := 0
  heatCap := 0

/-- A compressor record after soft reset (R112). -/
def softResetComp (now : Nat) (enable : Bool) (r : CompRec) : CompRec :=
  { r with
    state := if compCounted r.state then .off else r.state
    stateSince := if compCounted r.state then now else r.stateSince
    onSince := none
    stoppedSince := if compCounted r.state then now else r.stoppedSince
    throttle := false
    chargeStart := none
    enable := enable
    episodeOpen := false
    deferred := false
    reason := none }

/-- A compressor record after power-on reset (R112). -/
def powerOnComp (now : Nat) (enable : Bool) : CompRec :=
  { CompRec.atReset with stateSince := now, stoppedSince := now, enable := enable }

/-- The Cooling Sequencer around its two records after either reset: stretches broken, nothing wanted (R67, R112). -/
def resetCooling (comps : PerComp CompRec) : Cooling := ⟨comps, none, none, none, 0, false, none⟩

/-- The Heating Sequencer after soft reset (R126): a heater in Ignition or Burning goes to After-run with cause Stop, a purge
goes on, and the pump is kept for a purging heater. The reset leaves the coolant channel without a value, which is a stop
request (R122; log entry 29). -/
def softResetHeating (now : Nat) (permit : Bool) (h : Heating) : Heating :=
  let h1 := stopHeater now h
  { h1 with
    pump := h.pump && heaterCounted h1.heater
    pumpDeferred := false
    band := 0
    latched := false
    heaterDeferred := false
    permit := permit
    startStretch := none
    idleStretch := none
    wantedTotal := 0
    checkedAt := none }

/-- The Heating Sequencer after power-on reset (R126). -/
def powerOnHeating (now : Nat) (permit : Bool) : Heating where
  pump := false
  pumpDeferred := false
  band := 0
  heater := .off
  heaterSince := now
  attempt := 1
  relight := 0
  cause := none
  latched := false
  heaterDeferred := false
  permit := permit
  startStretch := none
  idleStretch := none
  wantedTotal := 0
  checkedAt := none

/-- The Air Path Controller after either reset (R127, R128, R133, R138, R140). -/
def resetAir (now : Nat) (g : Settings) : AirPath where
  curveTable := g.curveTable
  pointer := ⟨0, .increment, .curve⟩
  blowers := .const ⟨none, 0, 0, 0⟩
  ventMin := g.ventMin
  freshMin := g.freshMin
  damperLower := g.freshMin
  damperUpper := g.freshMin
  damperAt := now

/-- The line rate that the straps choose (R163). -/
def strapRate (p : Pins) : Nat := if p.rate1 then 115200 else if p.rate0 then 57600 else 19200

/-- The Host Link Unit after either reset, before POWER is set (R172). A frame being sent at a power-on reset is dropped, the model's
choice (log entry 41). -/
def resetLink (lineRate : Nat) (g : Settings) : HostLink where
  lineRate := lineRate
  framer := .hunt
  inHand := none
  resetDue := false
  sending := none
  latched := 0
  enabled := g.eventEnable
  unreported := 0
  snapshotRate := g.snapshotRate
  snapshotCount := 0
  snapshotWaiting := false

/-- The Power State Controller at a reset, before its power state entry (R153). -/
def resetPower (g : Settings) : PowerCtl :=
  ⟨.run, none, ⟨false, false, false⟩, none, none, g.departLead, false, false⟩

/-- The entry to Run or Layover that a reset makes, by IGNITION (R153). -/
def resetEntry (s : State) : State := if s.pins.ignition then enterRun s else enterLayover s

/-- What both resets share (R3, R5, R67, R91, R143, R172, R176): every block from its loaded settings, at part time `now`. -/
def resetBlocks (now : Nat) (pins : Pins) (lineRate : Nat) (cs : Settings → Cooling) (hs : Settings → Heating)
    (s : State) : State :=
  let ps := resetStore s.ps
  let g := (loadSettings ps.cells).1
  let ch := resetChannel now
  { partTime := now
    freeCount := s.freeCount
    pins := pins
    ssu :=
      { zoneTemp := .const ch
        outdoor := ch
        coolant := ch
        glass := ch
        humidity := ch
        co2Lower := ch
        co2Upper := ch
        pressureHigh := ⟨ch, ch⟩
        pressureLow := ⟨ch, ch⟩
        coil := ⟨ch, ch⟩
        solar := ch }
    zc := resetZoneCtl g
    ca := resetArbiter g
    la := ⟨none, none, .fallback, g.fallback, []⟩
    cs := cs g
    hs := hs g
    apc := resetAir now g
    scm := ⟨false, none, false, 0, none, false, none⟩
    psc := resetPower g
    hlu := resetLink lineRate g
    ps := ps
    pending := s.pending }

/-- Power-on reset (R152, R153), with the input pins' levels as the part comes out of it. -/
def powerOnWork (pins : Pins) (s : State) : State :=
  resetEntry
    (resetBlocks 0 pins (strapRate pins) (fun g => resetCooling ⟨powerOnComp 0 g.compEnable.a, powerOnComp 0 g.compEnable.b⟩)
      (fun g => powerOnHeating 0 g.permit) s)

/-- The soft reset (R172): part time and the line rate are kept; the load account counts what the reset leaves in counted states,
and shedding is tested in the same event (R91). -/
def softResetWork (s : State) : State :=
  shedTest
    (resetEntry
      (resetBlocks s.partTime s.pins s.hlu.lineRate
        (fun g =>
          resetCooling
            ⟨softResetComp s.partTime g.compEnable.a s.cs.comps.a, softResetComp s.partTime g.compEnable.b s.cs.comps.b⟩)
        (fun g => softResetHeating s.partTime g.permit s.hs) s))

end Sys2Proof.Machine
end

