-- ==== Sys2Proof/Machine/Replies.lean ====
section
/-! DEFINITION. The statuses, reply forms and record layouts of R166, R178 to R180, the CRC and frame of R164 and R178, and the
contents of the two reports (R168, R170). -/

namespace Sys2Proof.Machine

/-- The statuses of R166. -/
inductive Status where
  | ok | clamped | badType | badLength | badValue | busy | notNow
deriving DecidableEq, Repr

def codeOfStatus : Status → Nat
  | .ok => 0
  | .clamped => 1
  | .badType => 2
  | .badLength => 3
  | .badValue => 4
  | .busy => 5
  | .notNow => 6

/-- What an owning block answers: a status and the reply fields that follow it (R165). -/
structure Reply where
  status : Status
  fields : List Byte
deriving DecidableEq, Repr

/-- A refusal carries the status alone (R165). -/
def refusal (st : Status) : Reply := ⟨st, []⟩

/-- OK, or CLAMPED where a quantity was adjusted. -/
def doneReply (adjusted : Bool) (fields : List Byte) : Reply := ⟨if adjusted then .clamped else .ok, fields⟩

/-- The payload of a reply: the status byte, then the fields (R178). -/
def replyPayload (r : Reply) : List Byte := byteField (codeOfStatus r.status) ++ r.fields

/-! ## CRC and frames (R164, R178) -/

/-- One bit of the CRC: the top bit compared, the register shifted, the generator 0x1021 applied (R164). -/
def crcBit (crc : Half) : Half := if crc.getLsbD 15 then (crc <<< 1) ^^^ 0x1021 else crc <<< 1

/-- One byte of the CRC, most significant bit first. -/
def crcByte (crc : Half) (b : Byte) : Half :=
  let x := crc ^^^ (b.setWidth 16 <<< 8)
  crcBit (crcBit (crcBit (crcBit (crcBit (crcBit (crcBit (crcBit x)))))))

/-- The CRC of a list of bytes, started from 0xFFFF. -/
def crcOf (bs : List Byte) : Half := bs.foldl crcByte 0xFFFF

/-- The line bytes of a frame (R178). -/
def frameBytes (type : Byte) (payload : List Byte) : List Byte :=
  let counted := BitVec.ofNat 8 (payload.length + 1) :: type :: payload
  0xA5 :: counted ++ halfField (crcOf counted)

/-! ## Records -/

/-- The entry byte: kind in bits 7 to 6, wanted in bits 5 to 3, held in bits 2 to 0 (R178). -/
def entryByte (kind : ReqKind) (wanted held : Nat) : List Byte := byteField (codeOfReqKind kind * 64 + wanted * 8 + held)

/-- Capacity in bits 7 to 4 and free tokens in bits 3 to 0 (R180). -/
def poolByte (a : Arbiter) (k : TokenKind) : List Byte := byteField (a.capacity k * 16 + a.free k)

/-- The pointer's three fields (R179). -/
def pointerFields (p : CurvePtr) : List Byte :=
  byteField p.address ++ byteField (codeOfPointerDir p.direction) ++ byteField (codeOfPointerScope p.scope)

def orderFields (ls : List Line) : List Byte := ls.flatMap (fun l => byteField (codeOfLine l))

/-- QUERY ZONE's fields (R22, R180). -/
def zoneRecordFields (s : State) (z : Zone) : List Byte :=
  let r := s.zone z
  let e := s.ca.entry (.zone z)
  byteField (codeOfZone z)
    ++ byteField
        (codeOfHostMode r.hostMode + codeOfOpMode r.opMode * 4 + codeOfSensor r.sensor * 32 + bitNat e.masked 128)
    ++ intField r.setpoint ++ intByteField r.trim ++ intByteField s.zc.shift ++ intField r.sEff
    ++ tenthsField r.tempUsed ++ wordField (BitVec.ofInt 32 r.integ) ++ intField r.demand
    ++ entryByte r.reqKind r.wanted e.held ++ byteField r.seats ++ natField r.timer ++ byteField (codeOfCurve r.curve)

/-- One entry record of QUERY ARBITER (R180). -/
def entryRecordFields (now hold : Nat) (e : GrantEntry) : List Byte :=
  entryByte e.kind e.wanted e.held ++ byteField (bitNat e.masked 128 + protectionLeft now hold e) ++ optTimeField e.since

/-- The wait queue as eight 4-bit codes, 0xF past its end (R180). -/
def queueFields (q : List EntryId) : List Byte :=
  let code (n : Nat) : Nat :=
    match q[n]? with
    | some i => codeOfEntry i
    | none => 15
  [0, 2, 4, 6].flatMap (fun n => byteField (code n * 16 + code (n + 1)))

/-- The three orders as eight 3-bit line codes from bit 23 down (R180). -/
def ordersFields (o : Orders) : List Byte :=
  let n := (o.saloon ++ o.lower ++ o.upper).foldl (fun acc l => acc * 8 + codeOfLine l) 0
  byteField (n / 65536) ++ byteField (n / 256) ++ byteField n

/-- QUERY ARBITER's fields (R65, R180). -/
def arbiterFields (s : State) : List Byte :=
  let a := s.ca
  allEntries.flatMap (fun i => entryRecordFields s.partTime a.modes.hold (a.entry i))
    ++ queueFields a.queue ++ ordersFields a.orders
    ++ byteField
        (codeOfPriority a.modes.saloon + codeOfPriority a.modes.lower * 2 + codeOfPriority a.modes.upper * 4
          + codeOfNesting a.modes.nesting * 8)
    ++ byteField a.modes.hold ++ poolByte a .cool ++ poolByte a .heat

/-- One shed entry of QUERY LOAD (R180): the item and the age of its shed. -/
def shedEntryFields (now : Nat) (e : ShedEntry) : List Byte :=
  byteField (codeOfItem e.item) ++ heldSeconds (now - e.time)

/-- QUERY LOAD's fields (R90, R180). -/
def loadFields (s : State) : List Byte :=
  let la := s.la
  let at0 (i : LoadItem) (w : Nat) : Nat := bitNat (decide (0 < countedLoad s i)) w
  natField (allowanceInForce la)
    ++ byteField
        (codeOfAllowanceStatus la.status + bitNat la.hostValue.isSome 4 + bitNat s.scm.active 8 + s.hs.band * 16)
    ++ natField (la.hostValue.getD 0) ++ heldSeconds (stretchSeconds s.partTime la.lastRefresh)
    ++ natField la.fallback ++ natField (committedLoad s) ++ natField (floorLoad s)
    ++ intField ((allowanceInForce la : Int) - committedLoad s)
    ++ byteField (at0 (.comp .a) 1 + at0 (.comp .b) 2 + at0 .pump 4 + at0 .heater 8 + bitNat s.scm.active 16)
    ++ Zone.all.flatMap (fun z => byteField (s.blower z).speed)
    ++ byteField (s.ca.coolCap * 16 + s.ca.heatCap) ++ byteField la.stack.length
    ++ padTo 30 (la.stack.flatMap (shedEntryFields s.partTime)) ++ timeField s.partTime

/-- The seconds until `n` have passed since a part time, or 0. -/
def remaining (now since n : Nat) : Nat := since + n - now

/-- Log entries less than 3,600 s old (R111). -/
def recentLog (now : Nat) (log : List Nat) : List Nat := ageLog now log

/-- The compressor record of QUERY PLANT (R110, R180). -/
def compFields (s : State) (c : Comp) : List Byte :=
  let r := s.comp c
  let now := s.partTime
  let onLeft :=
    match r.onSince with
    | some t => remaining now t 180
    | none => 0
  byteField (codeOfCompState r.state + codeOfFan (fanSpeed r) * 8)
    ++ byteField
        (bitNat r.enable 1 + bitNat r.throttle 2 + bitNat (onStack s.la (.comp c)) 4 + bitNat r.episodeOpen 8
          + bitNat r.deferred 16)
    ++ heldSeconds (now - r.stateSince) ++ byteField onLeft ++ natField (remaining now r.stoppedSince 300)
    ++ natField (if r.state = .tripped then remaining now r.stateSince 600 else 0)
    ++ byteField ((recentLog now r.startLog).length * 16 + (recentLog now r.tripLog).length)
    ++ byteField (codeOfCondition r.reason)

def circuitValues (s : State) (c : Comp) : List Byte :=
  tenthsField (highUsed s c) ++ tenthsField (lowUsed s c) ++ tenthsField (coilUsed s c)

def circuitStatuses (s : State) (c : Comp) : List Byte :=
  byteField
    (codeOfChannelStatus (s.ssu.pressureHigh.get c).status + codeOfChannelStatus (s.ssu.pressureLow.get c).status * 4
      + codeOfChannelStatus (s.ssu.coil.get c).status * 16)

/-- QUERY PLANT's fields (R110, R180). -/
def plantFields (s : State) : List Byte :=
  let h := s.hs
  compFields s .a ++ compFields s .b ++ circuitValues s .a ++ circuitValues s .b ++ circuitStatuses s .a
    ++ circuitStatuses s .b ++ byteField s.cs.wantedTotal
    ++ byteField (s.ca.coolCap + bitNat s.cs.sccShort 16 + codeOfChannelStatus s.ssu.outdoor.status * 32)
    ++ intField (outdoorUsed s) ++ heldSeconds (stretchSeconds s.partTime s.cs.excess)
    ++ heldSeconds (stretchSeconds s.partTime s.cs.surplus) ++ heldSeconds (stretchSeconds s.partTime s.cs.idle)
    ++ byteField (bitNat h.pump 1 + h.band * 2 + codeOfHeaterState h.heater * 8)
    ++ byteField
        (h.relight + bitNat h.latched 2 + bitNat h.permit 4 + bitNat h.pumpDeferred 8 + bitNat h.heaterDeferred 16
          + codeOfChannelStatus s.ssu.coolant.status * 32)
    ++ heldSeconds (s.partTime - h.heaterSince) ++ tenthsField (coolantUsed s)

/-- One compressor's logs as ages, oldest first (R111, R180). -/
def logFields (s : State) (c : Comp) : List Byte :=
  let starts := recentLog s.partTime (s.comp c).startLog
  let trips := recentLog s.partTime (s.comp c).tripLog
  let ages (l : List Nat) : List Byte := l.flatMap (fun t => natField (s.partTime - t))
  byteField (starts.length * 16 + trips.length) ++ padTo 12 (ages starts) ++ padTo 6 (ages trips)

/-- SCREEN's fields (R149, R179). -/
def screenFields (s : State) : List Byte :=
  let m := s.scm
  let left :=
    match m.activeSince with
    | some t => remaining s.partTime t 120
    | none => 0
  byteField (bitNat m.active 1 + bitNat m.hostRequest 2 + bitNat m.detection 4 + bitNat m.margin.isSome 8)
    ++ optTimeField m.activeSince ++ tenthsField m.margin ++ byteField m.fog ++ byteField left

/-! ## Reports (R168, R170, R180) -/

def eventPayload (s : State) : List Byte :=
  halfField s.hlu.latched ++ halfField s.hlu.unreported ++ timeField s.partTime

def snapshotZone (s : State) (z : Zone) : List Byte :=
  let r := s.zone z
  byteField (codeOfOpMode r.opMode + codeOfSensor r.sensor * 8)
    ++ entryByte r.reqKind r.wanted (s.ca.entry (.zone z)).held ++ tenthsField r.tempUsed
    ++ byteField (r.sEff - 160).toNat ++ intField r.demand

def snapshotPayload (s : State) : List Byte :=
  let at0 (i : LoadItem) (w : Nat) : Nat := bitNat (decide (0 < countedLoad s i)) w
  timeField s.partTime ++ Zone.all.flatMap (snapshotZone s) ++ poolByte s.ca .cool ++ poolByte s.ca .heat
    ++ natField (allowanceInForce s.la) ++ natField (committedLoad s)
    ++ byteField
        (codeOfAllowanceStatus s.la.status + at0 (.comp .a) 4 + at0 (.comp .b) 8 + at0 .pump 16 + at0 .heater 32
          + bitNat s.scm.active 64)
    ++ Zone.all.flatMap (fun z => byteField (s.blower z).speed)

/-! ## Output pins (00_scope.md pins; R60, R94, R115, R117, R139) -/

/-- The positions and levels on the output pins, each a function of the state its owning block holds (log entry 28). -/
structure Outputs where
  contactors : PerComp Bool
  fanHalf : PerComp Bool
  fanFull : PerComp Bool
  blowers : PerZone Nat
  coilValves : PerZone Nat
  convectorValves : PerZone Nat
  pump : Bool
  heaterRun : Bool
  damperLower : Nat
  damperUpper : Nat
  screenBlower : Bool
deriving DecidableEq, Repr

/-- A zone valve of one kind (R60): 25% for each token, U1's opened by the screen-clear entry's tokens as well, to at most
100%. -/
def valvePosition (a : Arbiter) (k : TokenKind) (z : Zone) : Nat :=
  let own := 25 * heldOfKind k (a.entry (.zone z))
  match z with
  | .u1 => min 100 (own + 25 * (a.entry (screenEntry k)).held)
  | .e | .l1 | .l2 | .u2 | .u3 => own

def outputsOf (s : State) : Outputs where
  contactors := s.cs.comps.map contactorClosed
  fanHalf := s.cs.comps.map (fun r => fanHalfOutput (fanSpeed r))
  fanFull := s.cs.comps.map (fun r => fanFullOutput (fanSpeed r))
  blowers := s.apc.blowers.map (fun _ b => b.speed)
  coilValves := s.zc.zones.map (fun z _ => valvePosition s.ca .cool z)
  convectorValves := s.zc.zones.map (fun z _ => valvePosition s.ca .heat z)
  pump := s.hs.pump
  heaterRun := runRequest s.hs
  damperLower := s.apc.damperLower
  damperUpper := s.apc.damperUpper
  screenBlower := s.scm.active

end Sys2Proof.Machine
end

