-- ==== Sys2Proof/Machine/Link.lean ====
section
/-! DEFINITION. The Host Link Unit (R163 to R172): the framer, taking a command and forming its reply, and the transmitter. -/

namespace Sys2Proof.Machine

/-! ## Taking a command (R165) -/

/-- In Parked, the completion of a frame is a wake event, taken before the HLU acts on the frame (R159, R164). -/
def wakeByFrame (s : State) : State := if s.psc.power = .parked then endEvent (leaveForLayover s) else s

/-- A command's own effect and the answer of its owning block. -/
abbrev CommandBody := State → State × Reply

/-- The status alone, with no state changed (R165). -/
def refuse (st : Status) : CommandBody := fun s => (s, refusal st)

/-- The reply TYPE of a command TYPE (R165, R179). -/
def replyType (type : Byte) : Byte := type + 0x80

/-- Whether a reply answers a RESET that was taken (R172). -/
def asksReset (rtype : Byte) (r : Reply) : Bool := rtype == 0xA4 && r.status == .ok

/-- A formed reply waits for the transmitter: its command is in hand (R165). -/
def formReply (rtype : Byte) (r : Reply) (h : HostLink) : HostLink :=
  { h with inHand := some ⟨rtype, replyPayload r, false, asksReset rtype r⟩ }

/-- The completion of a frame (R165): the wake, and then, with no command in hand, the command's effect and its reply. -/
def completeFrame (rtype : Byte) (body : CommandBody) (s : State) : State :=
  let s1 := wakeByFrame s
  if s1.hlu.inHand.isSome then s1
  else
    let r := body s1
    r.1.setHlu (formReply rtype r.2 r.1.hlu)

/-! ## The framer (R163, R164) -/

/-- The framer after a byte, with the TYPE and payload of a frame that the byte completes (R164). -/
def framerByte (f : Framer) (b : Byte) : Framer × Option (Byte × List Byte) :=
  match f with
  | .hunt => (if b = 0xA5 then .length else .hunt, none)
  | .length => (if 1 ≤ b.toNat ∧ b.toNat ≤ 61 then .body b.toNat [] else .hunt, none)
  | .body len got =>
    let kept := got ++ [b]
    (if kept.length < len then .body len kept else .check len kept none, none)
  | .check len got none => (.check len got (some b), none)
  | .check len got (some hi) =>
    if joinBytes hi b = crcOf (BitVec.ofNat 8 len :: got) then
      match got with
      | type :: payload => (.hunt, some (type, payload))
      | [] => (.hunt, none)
    else (.hunt, none)

def setFramer (f : Framer) (h : HostLink) : HostLink := { h with framer := f }

/-- A gap of more than 20 ms: a frame in progress is discarded (R164). -/
def gapWork (s : State) : State := s.setHlu (setFramer .hunt s.hlu)

/-! ## The transmitter (R167, R168, R170, R172) -/

/-- A reply waits for the transmitter. -/
def replyWaits (h : HostLink) : Bool :=
  match h.inHand with
  | some c => !c.sending
  | none => false

def transmitterFree (h : HostLink) : Bool := h.sending.isNone

/-- The waiting reply starts on the free transmitter (R167). -/
def startReply (h : HostLink) : HostLink :=
  match h.inHand with
  | some c =>
    if transmitterFree h && !c.sending then
      { h with
        inHand := some { c with sending := true }
        sending := some ⟨.reply, frameBytes c.type c.payload⟩ }
    else h
  | none => h

/-- Whether an EVENT report may start: it waits, the transmitter is free, and no reply goes first (R167, R168). -/
def eventMayStart (h : HostLink) : Bool :=
  transmitterFree h && !replyWaits h && !h.resetDue && h.unreported != 0

/-- An EVENT report starts, and the unreported set becomes empty (R168). -/
def startEvent (s : State) : State :=
  if eventMayStart s.hlu then
    s.setHlu { s.hlu with sending := some ⟨.event, frameBytes 0xC0 (eventPayload s)⟩, unreported := 0 }
  else s

/-- Whether a SNAPSHOT report may start: it waits, the transmitter is free, and neither a reply nor an EVENT report goes first
(R167, R170). -/
def snapshotMayStart (h : HostLink) : Bool :=
  transmitterFree h && !replyWaits h && !h.resetDue && h.unreported == 0 && h.snapshotWaiting

/-- A SNAPSHOT report starts, with the present state (R170). -/
def startSnapshot (s : State) : State :=
  if snapshotMayStart s.hlu then
    s.setHlu
      { s.hlu with sending := some ⟨.snapshot, frameBytes 0xC1 (snapshotPayload s)⟩, snapshotWaiting := false }
  else s

/-- The last byte of the frame being sent has left: the transmitter is free, and a reply's command is no longer in hand (R165,
R167). After the RESET reply the soft reset is due, and the RESET stays in hand until it comes (R172; log entry 20). -/
def endFrame (h : HostLink) : HostLink :=
  match h.sending with
  | none => h
  | some f =>
    match f.kind with
    | .event | .snapshot => { h with sending := none }
    | .reply =>
      match h.inHand with
      | some c => if c.resets then { h with sending := none, resetDue := true } else { h with sending := none, inHand := none }
      | none => { h with sending := none }

/-! ## Snapshots falling due (R170) -/

/-- One expiry of the zone period timer counted toward the SNAPSHOT rate (R170). -/
def countSnapshot (h : HostLink) : HostLink :=
  let n := h.snapshotCount + 1
  if 0 < h.snapshotRate ∧ h.snapshotRate ≤ n then { h with snapshotCount := 0, snapshotWaiting := true }
  else { h with snapshotCount := n }

end Sys2Proof.Machine
end

