-- ==== Sys2Proof/Machine/AirCommands.lean ====
section
/-! DEFINITION. The commands of the Air Path Controller: CURVE POINTER, CURVE WRITE, CURVE READ, ZONE CURVE and VENT LIMITS (R129
to R132, R140). -/

namespace Sys2Proof.Machine

/-! ## The curve table (R129 to R132) -/

def cmdCurvePointer (address direction scope : Byte) : CommandBody := fun s =>
  match pointerDirOfCode direction, pointerScopeOfCode scope with
  | some d, some sc =>
    if address.toNat ≤ 53 then
      let p : CurvePtr := ⟨address.toNat, d, sc⟩
      (s.setApc { s.apc with pointer := p }, doneReply false (pointerFields p))
    else (s, refusal .badValue)
  | _, _ => (s, refusal .badValue)

def execCurvePointer (address direction scope : Byte) (s : State) : Host.Outcome State Fault Refusal :=
  .next (completeFrame (replyType 0x17) (cmdCurvePointer address direction scope) s)

def cmdCurveWrite (values : List Byte) : CommandBody := fun s =>
  let vs := values.map BitVec.toNat
  let a := writePoints vs s.apc
  (s.setApc a, doneReply (vs.any (fun v => decide (100 < v))) (byteField vs.length ++ pointerFields a.pointer))

/-- CURVE WRITE; a list whose length no frame of its TYPE may have is answered BAD_LENGTH (R130, R165). -/
def execCurveWrite (values : List Byte) (s : State) : Host.Outcome State Fault Refusal :=
  .next
    (completeFrame (replyType 0x18)
      (if 1 ≤ values.length ∧ values.length ≤ 9 then cmdCurveWrite values else refuse .badLength) s)

def cmdCurveRead (count : Byte) : CommandBody := fun s =>
  let n := clampNat 1 9 count.toNat
  let r := readPoints n s.apc
  (s.setApc r.2, doneReply (n != count.toNat) (r.1.flatMap byteField ++ pointerFields r.2.pointer))

def execCurveRead (count : Byte) (s : State) : Host.Outcome State Fault Refusal :=
  .next (completeFrame (replyType 0x19) (cmdCurveRead count) s)

def cmdZoneCurve (zone code : Byte) : CommandBody := fun s =>
  match zoneOfCode zone, curveOfCode code.toNat with
  | some z, some c =>
    (s.setZone z { s.zone z with curve := c }, doneReply false (byteField (codeOfZone z) ++ byteField (codeOfCurve c)))
  | _, _ => (s, refusal .badValue)

def execZoneCurve (zone code : Byte) (s : State) : Host.Outcome State Fault Refusal :=
  .next (completeFrame (replyType 0x1A) (cmdZoneCurve zone code) s)

/-! ## VENT LIMITS (R140) -/

/-- New limits: a changed vent minimum computes every blower again, a changed fresh minimum works the dampers out, and shedding
is tested after both. -/
def setLimits (vent fresh : Nat) (s : State) : State :=
  let s1 := s.setApc { s.apc with ventMin := vent, freshMin := fresh }
  let s2 := if s.apc.ventMin = vent then s1 else computeAllBlowers s1
  let s3 := if s.apc.freshMin = fresh then s2 else applyFreshMin s2
  endEvent s3

def cmdVentLimits (vent fresh : Byte) : CommandBody := fun s =>
  let v := clampNat 10 60 vent.toNat
  let f := min fresh.toNat 100
  (setLimits v f s, doneReply (v != vent.toNat || f != fresh.toNat) (byteField v ++ byteField f))

def execVentLimits (vent fresh : Byte) (s : State) : Host.Outcome State Fault Refusal :=
  .next (completeFrame (replyType 0x1B) (cmdVentLimits vent fresh) s)

end Sys2Proof.Machine
end

