-- ==== Sys2Proof/Machine/ArbiterCommands.lean ====
section
/-! DEFINITION. The commands of the Capacity Arbiter: ARB MODE, ARB ORDER, ROTATE, MASK, RELEASE and QUERY ARBITER (R59, R61 to
R65). -/

namespace Sys2Proof.Machine

/-! ## ARB MODE (R61) -/

def modeFields (m : ArbModes) : List Byte :=
  byteField (codeOfPriority m.saloon) ++ byteField (codeOfPriority m.lower) ++ byteField (codeOfPriority m.upper)
    ++ byteField (codeOfNesting m.nesting) ++ byteField m.hold

def cmdArbMode (saloon lower upper nesting hold : Byte) : CommandBody := fun s =>
  match priorityOfCode saloon.toNat, priorityOfCode lower.toNat, priorityOfCode upper.toNat, nestingOfCode nesting.toNat with
  | some ps, some pl, some pu, some n =>
    let h := clampNat 10 120 hold.toNat
    let m : ArbModes := ⟨ps, pl, pu, n, h⟩
    (endEvent (arbEvent (setModes s.partTime m) s), doneReply (h != hold.toNat) (modeFields m))
  | _, _, _, _ => (s, refusal .badValue)

def execArbMode (saloon lower upper nesting hold : Byte) (s : State) : Host.Outcome State Fault Refusal :=
  .next (completeFrame (replyType 0x0B) (cmdArbMode saloon lower upper nesting hold) s)

/-! ## ARB ORDER and ROTATE (R62, R63) -/

def codeOfArbiter : ArbiterId → Nat
  | .saloon => 0
  | .lower => 1
  | .upper => 2

/-- An order put in force, with the serve pass that follows. The reply carries the order as applied, before any rotation of that
pass (log entry 35). -/
def applyOrder (a : ArbiterId) (ls : List Line) (s : State) : State × Reply :=
  (endEvent (arbEvent (setOrder s.partTime a ls) s), doneReply false (byteField (codeOfArbiter a) ++ orderFields ls))

def cmdArbOrder (arbiter : Byte) (lines : List Byte) : CommandBody := fun s =>
  match arbiterOfCode arbiter with
  | some a =>
    match orderOfCodes a (lines.map BitVec.toNat) with
    | some ls => applyOrder a ls s
    | none => (s, refusal .badValue)
  | none => (s, refusal .badValue)

/-- ARB ORDER; a list whose length no frame of its TYPE may have is answered BAD_LENGTH (R165, R179). -/
def execArbOrder (arbiter : Byte) (lines : List Byte) (s : State) : Host.Outcome State Fault Refusal :=
  .next
    (completeFrame (replyType 0x0C)
      (if lines.length = 2 ∨ lines.length = 3 then cmdArbOrder arbiter lines else refuse .badLength) s)

def cmdRotate (arbiter line : Byte) : CommandBody := fun s =>
  match arbiterOfCode arbiter, lineOfCode line.toNat with
  | some a, some l =>
    if (arbiterLines a).contains l then applyOrder a (rotateOrder l (s.ca.orders.get a)) s else (s, refusal .badValue)
  | _, _ => (s, refusal .badValue)

def execRotate (arbiter line : Byte) (s : State) : Host.Outcome State Fault Refusal :=
  .next (completeFrame (replyType 0x0D) (cmdRotate arbiter line) s)

/-! ## MASK (R59) -/

/-- The zones of a zone set. -/
def zonesOfSet (zones : Byte) : PerZone Bool := (PerZone.const ()).map (fun z _ => zoneSetHas zones z)

def cmdMask (zones : Byte) : CommandBody := fun s =>
  if zoneSetValid zones then
    (endEvent (arbEvent (setMasks s.partTime (zonesOfSet zones)) s), doneReply false (byteField zones.toNat))
  else (s, refusal .badValue)

def execMask (zones : Byte) (s : State) : Host.Outcome State Fault Refusal :=
  .next (completeFrame (replyType 0x0E) (cmdMask zones) s)

/-! ## RELEASE (R64) -/

def cmdRelease (zone : Byte) : CommandBody := fun s =>
  match zoneOfCode zone with
  | some z =>
    let e := s.ca.entry (.zone z)
    (endEvent (withdraw z s),
      doneReply false (byteField (codeOfZone z) ++ byteField (codeOfReqKind e.kind) ++ byteField e.held))
  | none => (s, refusal .badValue)

def execRelease (zone : Byte) (s : State) : Host.Outcome State Fault Refusal :=
  .next (completeFrame (replyType 0x0F) (cmdRelease zone) s)

/-! ## QUERY ARBITER (R65) -/

def cmdQueryArbiter : CommandBody := fun s => (s, doneReply false (arbiterFields s))

def execQueryArbiter (s : State) : Host.Outcome State Fault Refusal :=
  .next (completeFrame (replyType 0x10) cmdQueryArbiter s)

end Sys2Proof.Machine
end

