-- ==== Sys2Proof/Machine/LinkCommands.lean ====
section
/-! DEFINITION. The commands of the Host Link Unit and the Profile Store: EVENT ENABLE, EVENT CLEAR, QUERY EVENTS, SNAPSHOT RATE,
IDENTIFY, RESET, PROFILE WRITE, PROFILE READ and PROFILE LOAD (R169 to R172, R174 to R176). -/

namespace Sys2Proof.Machine

/-! ## Event flags (R169) -/

def cmdEventEnable (flags : Half) : CommandBody := fun s =>
  if flagSetValid flags then (s.setHlu (enableFlags flags s.hlu), doneReply false (halfField flags))
  else (s, refusal .badValue)

def execEventEnable (flags : Half) (s : State) : Host.Outcome State Fault Refusal :=
  .next (completeFrame (replyType 0x1F) (cmdEventEnable flags) s)

def cmdEventClear (flags : Half) : CommandBody := fun s =>
  if flagSetValid flags then
    let h := clearFlags flags s.hlu
    (s.setHlu h, doneReply false (halfField h.latched))
  else (s, refusal .badValue)

def execEventClear (flags : Half) (s : State) : Host.Outcome State Fault Refusal :=
  .next (completeFrame (replyType 0x20) (cmdEventClear flags) s)

def cmdQueryEvents : CommandBody := fun s =>
  (s,
    doneReply false
      (halfField s.hlu.latched ++ halfField s.hlu.enabled ++ halfField s.hlu.unreported ++ byteField s.hlu.snapshotRate
        ++ timeField s.partTime))

def execQueryEvents (s : State) : Host.Outcome State Fault Refusal :=
  .next (completeFrame (replyType 0x21) cmdQueryEvents s)

/-! ## Snapshots, identification, soft reset (R170 to R172) -/

def cmdSnapshotRate (rate : Byte) : CommandBody := fun s =>
  let r := min rate.toNat 60
  (s.setHlu (setSnapshotRate r s.hlu), doneReply (r != rate.toNat) (byteField r))

def execSnapshotRate (rate : Byte) (s : State) : Host.Outcome State Fault Refusal :=
  .next (completeFrame (replyType 0x22) (cmdSnapshotRate rate) s)

def cmdIdentify : CommandBody := fun s =>
  (s, doneReply false (halfField 0x2C80 ++ byteField 3 ++ byteField 6 ++ byteField 128))

def execIdentify (s : State) : Host.Outcome State Fault Refusal :=
  .next (completeFrame (replyType 0x23) cmdIdentify s)

/-- RESET: the reply alone; the soft reset comes once it has been sent. -/
def cmdReset : CommandBody := fun s => (s, doneReply false [])

def execReset (s : State) : Host.Outcome State Fault Refusal := .next (completeFrame (replyType 0x24) cmdReset s)

/-! ## The profile store (R174 to R176) -/

def storeIdle (p : ProfileStore) : Bool := p.state == .idle

def cmdProfileWrite (row column : Byte) (value : Half) : CommandBody := fun s =>
  if 15 < row.toNat ∨ 7 < column.toNat then (s, refusal .badValue)
  else if storeIdle s.ps then
    (s.setPs { s.ps with state := .erasing row.toNat column.toNat value },
      doneReply false (byteField row.toNat ++ byteField column.toNat ++ halfField value))
  else (s, refusal .busy)

def execProfileWrite (row column : Byte) (value : Half) (s : State) : Host.Outcome State Fault Refusal :=
  .next (completeFrame (replyType 0x25) (cmdProfileWrite row column value) s)

def cmdProfileRead (row column : Byte) : CommandBody := fun s =>
  if 15 < row.toNat ∨ 7 < column.toNat then (s, refusal .badValue)
  else if storeIdle s.ps then
    (s,
      doneReply false
        (byteField row.toNat ++ byteField column.toNat ++ halfField (wordAt s.ps.cells row.toNat column.toNat)))
  else (s, refusal .busy)

def execProfileRead (row column : Byte) (s : State) : Host.Outcome State Fault Refusal :=
  .next (completeFrame (replyType 0x26) (cmdProfileRead row column) s)

def cmdProfileLoad : CommandBody := fun s =>
  if storeIdle s.ps then
    let g := loadSettings s.ps.cells
    (applyProfile g.1 s, doneReply false (byteField g.2))
  else (s, refusal .busy)

def execProfileLoad (s : State) : Host.Outcome State Fault Refusal :=
  .next (completeFrame (replyType 0x27) cmdProfileLoad s)

end Sys2Proof.Machine
end

