-- ==== Sys2Proof/Machine/PlantCommands.lean ====
section
/-! DEFINITION. The commands of the Load Account and of the two sequencers: ALLOWANCE, QUERY LOAD, COMP ENABLE, CLEAR LOCKOUT,
QUERY PLANT, FUEL PERMIT and QUERY LOGS (R77, R90, R107, R108, R110, R111, R123, R124). -/

namespace Sys2Proof.Machine

/-! ## ALLOWANCE and QUERY LOAD (R76, R77, R90) -/

/-- What follows a change of the allowance in force from `before` (R76 to R78): a fall is tested for shedding, a rise is followed
by a restore attempt. -/
def allowanceMoved (before : Nat) (s : State) : State :=
  if allowanceInForce s.la < before then endEvent s
  else if before < allowanceInForce s.la then restoreAttempt s
  else s

/-- A host value refreshed (R77). -/
def refreshAllowance (now watts : Nat) (la : LoadAccount) : LoadAccount :=
  { la with hostValue := some watts, lastRefresh := some now, status := .fresh }

def cmdAllowance (watts : Half) : CommandBody := fun s =>
  let w := stepAllowance watts.toNat
  (allowanceMoved (allowanceInForce s.la) (s.setLa (refreshAllowance s.partTime w s.la)),
    doneReply (w != watts.toNat) (natField w))

def execAllowance (watts : Half) (s : State) : Host.Outcome State Fault Refusal :=
  .next (completeFrame (replyType 0x11) (cmdAllowance watts) s)

def cmdQueryLoad : CommandBody := fun s => (s, doneReply false (loadFields s))

def execQueryLoad (s : State) : Host.Outcome State Fault Refusal :=
  .next (completeFrame (replyType 0x12) cmdQueryLoad s)

/-! ## COMP ENABLE (R107) -/

/-- Both enables replaced. -/
def setEnables (en : PerComp Bool) (c : Cooling) : Cooling :=
  { c with comps := ⟨{ c.comps.a with enable := en.a }, { c.comps.b with enable := en.b }⟩ }

def cmdCompEnable (enables : Byte) : CommandBody := fun s =>
  match compSetOfCode enables.toNat with
  | some en => (s.setCs (setEnables en s.cs), doneReply false (byteField (codeOfCompSet en)))
  | none => (s, refusal .badValue)

def execCompEnable (enables : Byte) (s : State) : Host.Outcome State Fault Refusal :=
  .next (completeFrame (replyType 0x13) (cmdCompEnable enables) s)

/-! ## CLEAR LOCKOUT (R108, R123) -/

/-- A compressor cleared from Lockout: Off, its trip log empty, stopped-since kept (R108). -/
def clearComp (now : Nat) (r : CompRec) : CompRec :=
  if r.state = .lockout then { r with state := .off, stateSince := now, tripLog := [] } else r

/-- The heater cleared from Lockout (R123). -/
def clearHeater (now : Nat) (h : Heating) : Heating :=
  if h.heater = .lockout then
    { h with heater := .off, heaterSince := now, relight := 0, attempt := 1, latched := false }
  else h

def cmdClearLockout (target : Byte) : CommandBody := fun s =>
  match lockoutTargetOfCode target with
  | some (.comp c) =>
    let s1 := endEvent (s.setComp c (clearComp s.partTime (s.comp c)))
    (s1, doneReply false (byteField target.toNat ++ byteField (codeOfCompState (s1.comp c).state)))
  | some .heater =>
    let s1 := endEvent (s.setHs (clearHeater s.partTime s.hs))
    (s1, doneReply false (byteField target.toNat ++ byteField (codeOfHeaterState s1.hs.heater)))
  | none => (s, refusal .badValue)

def execClearLockout (target : Byte) (s : State) : Host.Outcome State Fault Refusal :=
  .next (completeFrame (replyType 0x14) (cmdClearLockout target) s)

/-! ## QUERY PLANT and QUERY LOGS (R110, R111) -/

def cmdQueryPlant : CommandBody := fun s => (s, doneReply false (plantFields s))

def execQueryPlant (s : State) : Host.Outcome State Fault Refusal :=
  .next (completeFrame (replyType 0x15) cmdQueryPlant s)

def cmdQueryLogs : CommandBody := fun s => (s, doneReply false (logFields s .a ++ logFields s .b))

def execQueryLogs (s : State) : Host.Outcome State Fault Refusal :=
  .next (completeFrame (replyType 0x28) cmdQueryLogs s)

/-! ## FUEL PERMIT (R124) -/

/-- The working permit replaced; turning it off is a stop request, and repeating it changes nothing. -/
def setPermit (now : Nat) (on : Bool) (h : Heating) : Heating :=
  if h.permit && !on then stopHeater now { h with permit := on } else { h with permit := on }

def cmdFuelPermit (permit : Byte) : CommandBody := fun s =>
  match permitOfCode permit.toNat with
  | some on => (endEvent (s.setHs (setPermit s.partTime on s.hs)), doneReply false (byteField (bitNat on 1)))
  | none => (s, refusal .badValue)

def execFuelPermit (permit : Byte) (s : State) : Host.Outcome State Fault Refusal :=
  .next (completeFrame (replyType 0x16) (cmdFuelPermit permit) s)

end Sys2Proof.Machine
end

