-- ==== Sys2Proof/Machine/PowerCommands.lean ====
section
/-! DEFINITION. The commands of the Screen Clear Monitor and the Power State Controller: SCREEN, PARK and DEPART (R149, R151, R156,
R161). -/

namespace Sys2Proof.Machine

/-! ## SCREEN (R149, R151) -/

/-- A SCREEN value acted on. -/
def takeScreen (v : ScreenValue) (s : State) : State :=
  match v with
  | .unchanged => s
  | .off => s.setScm { s.scm with hostRequest := false }
  | .on =>
    let s1 := s.setScm { s.scm with hostRequest := true }
    if inUse s.psc.power && !s.scm.active then endEvent (assertScreen s1) else s1

def cmdScreen (value : Byte) : CommandBody := fun s =>
  match screenValueOfCode value with
  | some v =>
    let s1 := takeScreen v s
    (s1, doneReply false (screenFields s1))
  | none => (s, refusal .badValue)

def execScreen (value : Byte) (s : State) : Host.Outcome State Fault Refusal :=
  .next (completeFrame (replyType 0x1C) (cmdScreen value) s)

/-! ## PARK (R156) -/

def powerReply (s : State) : State × Reply := (s, doneReply false (byteField (codeOfPower s.psc.power)))

/-- PARK. A frame in Parked has woken the part before its command is taken, so the last case does not arise. -/
def cmdPark : CommandBody := fun s =>
  match s.psc.power with
  | .run => (s, refusal .notNow)
  | .layover => if s.pins.ignition then (s, refusal .notNow) else powerReply (windDown s)
  | .windingDown | .parked => if s.pins.ignition then (s, refusal .notNow) else powerReply s

def execPark (s : State) : Host.Outcome State Fault Refusal := .next (completeFrame (replyType 0x1D) cmdPark s)

/-! ## DEPART (R161) -/

/-- The seconds remaining to the depart time, 0xFFFFFFFF while none stands (R179). -/
def departField (s : State) : List Byte :=
  match s.psc.departTime with
  | some d => timeField (d - s.partTime)
  | none => wordField 0xFFFFFFFF

/-- The fields of the DEPART reply (R161, R179). The precondition flag is 1 while set and 0 while clear (log entry 40). -/
def departFields (minutes : Nat) (s : State) : List Byte :=
  natField minutes ++ departField s ++ byteField s.psc.departLead ++ byteField (bitNat s.psc.precondition 1)
    ++ byteField (codeOfPower s.psc.power)

def cmdDepart (minutes : Half) : CommandBody := fun s =>
  let m := min minutes.toNat 720
  let s1 := if m = 0 then endDepart s else endEvent (setDepart m s)
  (s1, doneReply (m != minutes.toNat) (departFields m s1))

def execDepart (minutes : Half) (s : State) : Host.Outcome State Fault Refusal :=
  .next (completeFrame (replyType 0x1E) (cmdDepart minutes) s)

end Sys2Proof.Machine
end

