-- ==== Sys2Proof/Machine/ZoneCommands.lean ====
section
/-! DEFINITION. The commands of the Zone Controller: ZONE SET, TUNE, PERIOD, QUERY ZONE, SEATS, NUDGE, TOUCH, ZONE TIMERS,
SHIFT and HOME (R10, R20 to R24, R34 to R38). For each, its effect with its reply (`cmd…`) and its meaning (`exec…`). -/

namespace Sys2Proof.Machine

/-! ## ZONE SET (R20) -/

/-- The record after a ZONE SET's writes: the setpoint and host mode. The trim stands: 0 as the entry to Standby left it, or as NUDGE
has moved it since (R31; log entry 17). -/
def zoneSetRec (m : HostMode) (sp : Int) (r : ZoneRec) : ZoneRec := { r with hostMode := m, setpoint := sp }

def cmdZoneSet (zone mode : Byte) (setpoint : Half) : CommandBody := fun s =>
  match zoneOfCode zone, hostModeOfCode mode.toNat with
  | some z, some m =>
    let sp := stepSetpoint setpoint.toInt
    let s1 := s.setZone z (zoneSetRec m sp (s.zone z))
    (endEvent (applyHostMode z s1), doneReply (sp != setpoint.toInt) (byteField (codeOfZone z) ++ byteField (codeOfHostMode m) ++ intField sp))
  | _, _ => (s, refusal .badValue)

def execZoneSet (zone mode : Byte) (setpoint : Half) (s : State) : Host.Outcome State Fault Refusal :=
  .next (completeFrame (replyType 0x01) (cmdZoneSet zone mode setpoint) s)

/-! ## TUNE (R21) -/

def cmdTune (kp ki db offset : Byte) : CommandBody := fun s =>
  let kp1 := clampNat 1 40 kp.toNat
  let ki1 := clampNat 0 32 ki.toNat
  let db1 := clampNat 0 10 db.toNat
  let off1 := clampNat 10 50 offset.toNat
  let adjusted := kp1 != kp.toNat || ki1 != ki.toNat || db1 != db.toNat || off1 != offset.toNat
  (s.setZc { s.zc with kp := kp1, ki := ki1, db := db1, setbackOffset := off1 },
    doneReply adjusted (byteField kp1 ++ byteField ki1 ++ byteField db1 ++ byteField off1))

def execTune (kp ki db offset : Byte) (s : State) : Host.Outcome State Fault Refusal :=
  .next (completeFrame (replyType 0x02) (cmdTune kp ki db offset) s)

/-! ## PERIOD (R10) -/

def cmdPeriod (code : Byte) : CommandBody := fun s =>
  let p := min code.toNat 30
  (s.setZc { s.zc with pendingPeriod := p }, doneReply (p != code.toNat) (byteField p ++ byteField s.zc.period))

def execPeriod (code : Byte) (s : State) : Host.Outcome State Fault Refusal :=
  .next (completeFrame (replyType 0x03) (cmdPeriod code) s)

/-! ## QUERY ZONE (R22) -/

def cmdQueryZone (zone : Byte) : CommandBody := fun s =>
  match zoneOfCode zone with
  | some z => (s, doneReply false (zoneRecordFields s z))
  | none => (s, refusal .badValue)

def execQueryZone (zone : Byte) (s : State) : Host.Outcome State Fault Refusal :=
  .next (completeFrame (replyType 0x04) (cmdQueryZone zone) s)

/-! ## SEATS (R24, R25) -/

/-- The counts a SEATS command applies, each clamped to its zone's seat capacity. -/
def appliedSeats (counts : PerZone Nat) : PerZone Nat := counts.map (fun z n => min n (capacityOf z))

def cmdSeats (e l1 l2 u1 u2 u3 : Byte) : CommandBody := fun s =>
  let asked : PerZone Nat := ⟨e.toNat, l1.toNat, l2.toNat, u1.toNat, u2.toNat, u3.toNat⟩
  let applied := appliedSeats asked
  (endEvent (Zone.all.foldl (fun s z => seatCount z (applied.get z) s) s),
    doneReply (applied != asked) (Zone.all.flatMap (fun z => byteField (applied.get z))))

def execSeats (e l1 l2 u1 u2 u3 : Byte) (s : State) : Host.Outcome State Fault Refusal :=
  .next (completeFrame (replyType 0x05) (cmdSeats e l1 l2 u1 u2 u3) s)

/-! ## NUDGE (R34) -/

/-- A step of 5 tenths up or down, before its clamp. -/
def stepped (up : Bool) (x : Int) : Int := if up then x + 5 else x - 5

def cmdNudge (zone direction : Byte) : CommandBody := fun s =>
  match zoneOfCode zone, upOfCode direction with
  | some z, some up =>
    let asked := stepped up (s.zone z).trim
    let trim := clampInt (-10) 10 asked
    let s1 := s.setZone z { s.zone z with trim := trim }
    (endEvent (reloadEvent .nudge z s1), doneReply (trim != asked) (byteField (codeOfZone z) ++ intByteField trim))
  | _, _ => (s, refusal .badValue)

def execNudge (zone direction : Byte) (s : State) : Host.Outcome State Fault Refusal :=
  .next (completeFrame (replyType 0x06) (cmdNudge zone direction) s)

/-! ## TOUCH (R35) -/

/-- The zones of a set in which TOUCH is effective: those whose mask contains it. -/
def touchEffective (zones : Byte) (s : State) : PerZone Bool :=
  s.zc.zones.map (fun z r => zoneSetHas zones z && r.mask.touch)

def cmdTouch (zones : Byte) : CommandBody := fun s =>
  if zones = 0 ∨ zoneSetValid zones = false then (s, refusal .badValue)
  else
    let s1 := Zone.all.foldl (fun s z => if zoneSetHas zones z then reloadEvent .touch z s else s) s
    (endEvent s1, doneReply false (byteField zones.toNat ++ byteField (zoneSetByte (touchEffective zones s))))

def execTouch (zones : Byte) (s : State) : Host.Outcome State Fault Refusal :=
  .next (completeFrame (replyType 0x07) (cmdTouch zones) s)

/-! ## ZONE TIMERS (R36) -/

def cmdZoneTimers (zone setback standby mask : Byte) : CommandBody := fun s =>
  match zoneOfCode zone, reloadMaskOfCode mask.toNat with
  | some z, some m =>
    let sb := clampNat 1 60 setback.toNat
    let st := clampNat 1 240 standby.toNat
    let r := { s.zone z with setbackMin := sb, standbyMin := st, mask := m }
    (s.setZone z (adaptTimer s.psc.power s.psc.precondition r),
      doneReply (sb != setback.toNat || st != standby.toNat)
        (byteField (codeOfZone z) ++ byteField sb ++ byteField st ++ byteField (codeOfReloadMask m)))
  | _, _ => (s, refusal .badValue)

def execZoneTimers (zone setback standby mask : Byte) (s : State) : Host.Outcome State Fault Refusal :=
  .next (completeFrame (replyType 0x08) (cmdZoneTimers zone setback standby mask) s)

/-! ## SHIFT and HOME (R37, R38) -/

def cmdShift (direction : Byte) : CommandBody := fun s =>
  match upOfCode direction with
  | some up =>
    let asked := stepped up s.zc.shift
    let shift := clampInt (-30) 30 asked
    (s.setZc { s.zc with shift := shift }, doneReply (shift != asked) (intByteField shift))
  | none => (s, refusal .badValue)

def execShift (direction : Byte) (s : State) : Host.Outcome State Fault Refusal :=
  .next (completeFrame (replyType 0x09) (cmdShift direction) s)

def cmdHome : CommandBody := fun s => (s.setZc { s.zc with shift := 0 }, doneReply false (intByteField 0))

def execHome (s : State) : Host.Outcome State Fault Refusal := .next (completeFrame (replyType 0x0A) cmdHome s)

end Sys2Proof.Machine
end

