-- ==== Sys2Proof/Machine/LinkEvents.lean ====
section
/-! DEFINITION. The events of the host line and the two resets: FRAME_COMPLETE, BYTE_RECEIVED, GAP, REPLY_START, EVENT_REPORT,
SNAPSHOT_REPORT, FRAME_SENT, SOFT_RESET and POWER_ON_RESET (R152, R163 to R168, R170, R172). -/

namespace Sys2Proof.Machine

/-! ## A completed frame (R165) -/

/-- The effect and answer of the block that owns a command. The decoder gives no event of the part (Decode.lean). -/
def bodyOf : Instr → CommandBody
  | .zoneSet z m sp => cmdZoneSet z m sp
  | .tune kp ki db off => cmdTune kp ki db off
  | .period c => cmdPeriod c
  | .queryZone z => cmdQueryZone z
  | .seats e l1 l2 u1 u2 u3 => cmdSeats e l1 l2 u1 u2 u3
  | .nudge z d => cmdNudge z d
  | .touch zs => cmdTouch zs
  | .zoneTimers z sb st m => cmdZoneTimers z sb st m
  | .shift d => cmdShift d
  | .home => cmdHome
  | .arbMode s l u n h => cmdArbMode s l u n h
  | .arbOrder a ls => cmdArbOrder a ls
  | .rotate a l => cmdRotate a l
  | .mask zs => cmdMask zs
  | .release z => cmdRelease z
  | .queryArbiter => cmdQueryArbiter
  | .allowance w => cmdAllowance w
  | .queryLoad => cmdQueryLoad
  | .compEnable cs => cmdCompEnable cs
  | .clearLockout t => cmdClearLockout t
  | .queryPlant => cmdQueryPlant
  | .fuelPermit p => cmdFuelPermit p
  | .curvePointer a d sc => cmdCurvePointer a d sc
  | .curveWrite vs => cmdCurveWrite vs
  | .curveRead n => cmdCurveRead n
  | .zoneCurve z c => cmdZoneCurve z c
  | .ventLimits v f => cmdVentLimits v f
  | .screen v => cmdScreen v
  | .park => cmdPark
  | .depart m => cmdDepart m
  | .eventEnable f => cmdEventEnable f
  | .eventClear f => cmdEventClear f
  | .queryEvents => cmdQueryEvents
  | .snapshotRate r => cmdSnapshotRate r
  | .identify => cmdIdentify
  | .reset => cmdReset
  | .profileWrite r c v => cmdProfileWrite r c v
  | .profileRead r c => cmdProfileRead r c
  | .profileLoad => cmdProfileLoad
  | .queryLogs => cmdQueryLogs
  | .frameComplete _ _ | .gap | .replyStart | .eventReport | .snapshotReport | .frameSent | .softReset
  | .powerOnReset _ | .partTimeTick | .ignition _ | .doorEdge _ | .flamePresent | .flameLoss | .sample _ _
  | .periodExpiry | .inactivityTimerExpiry _ | .holdEnd _ | .staleness | .fallback | .stagingCheck
  | .startingExpiry _ | .unloadingExpiry _ | .heatingCheck | .ignitionExpiry | .purgeExpiry | .damperStep
  | .screenCheck | .ignitionOffExpiry | .leadExpiry | .departTime | .eraseEnd | .storeWriteComplete
  | .byteReceived _ _ => refuse .badType

/-- A completed frame at the HLU (R165): an unknown TYPE is answered BAD_TYPE with the TYPE received, a wrong length
BAD_LENGTH, and any other command goes to its owner. -/
def frameWork (type : Byte) (payload : List Byte) (s : State) : State :=
  match decodeFrame type payload with
  | .unknownType => completeFrame 0x80 (fun s => (s, ⟨.badType, [type]⟩)) s
  | .badLength => completeFrame (replyType type) (refuse .badLength) s
  | .command i => completeFrame (replyType type) (bodyOf i) s

def execFrameComplete (type : Byte) (payload : List Byte) (s : State) : Host.Outcome State Fault Refusal :=
  .next (frameWork type payload s)

/-! ## Bytes and gaps (R163, R164) -/

/-- A byte received: dropped with the frame in progress on a framing error (R163), otherwise taken by the framer, and a frame it
completes acted on (R164, R165). -/
def byteWork (b : Byte) (framingError : Bool) (s : State) : State :=
  if framingError then gapWork s
  else
    let r := framerByte s.hlu.framer b
    let s1 := s.setHlu (setFramer r.1 s.hlu)
    match r.2 with
    | some (type, payload) => frameWork type payload s1
    | none => s1

def execByteReceived (b : Byte) (framingError : Bool) (s : State) : Host.Outcome State Fault Refusal :=
  .next (byteWork b framingError s)

def execGap (s : State) : Host.Outcome State Fault Refusal := .next (gapWork s)

/-! ## The transmitter (R167, R168, R170) -/

def execReplyStart (s : State) : Host.Outcome State Fault Refusal := .next (s.setHlu (startReply s.hlu))

def execEventReport (s : State) : Host.Outcome State Fault Refusal := .next (startEvent s)

def execSnapshotReport (s : State) : Host.Outcome State Fault Refusal := .next (startSnapshot s)

def execFrameSent (s : State) : Host.Outcome State Fault Refusal := .next (s.setHlu (endFrame s.hlu))

/-! ## The resets (R152, R153, R172) -/

/-- The soft reset, once it is due (R172). -/
def execSoftReset (s : State) : Host.Outcome State Fault Refusal := .next (if s.hlu.resetDue then softResetWork s else s)

def execPowerOnReset (pins : Pins) (s : State) : Host.Outcome State Fault Refusal := .next (powerOnWork pins s)

end Sys2Proof.Machine
end

