-- ==== Sys2Proof/Machine/PlantEvents.lean ====
section
/-! DEFINITION. The events of the Load Account, the two sequencers, the Air Path Controller and the Screen Clear Monitor:
STALENESS, FALLBACK, STAGING_CHECK, STARTING_EXPIRY, UNLOADING_EXPIRY, HEATING_CHECK, IGNITION_EXPIRY, PURGE_EXPIRY, DAMPER_STEP
and SCREEN_CHECK (R76, R95, R96, R100, R114, R119, R121, R136, R146). An event that is not due changes nothing (log entry 2). -/

namespace Sys2Proof.Machine

/-! ## STALENESS and FALLBACK (R76) -/

/-- Whether more than `n` seconds have passed since the last refresh. -/
def refreshOlder (n : Nat) (s : State) : Bool :=
  match s.la.lastRefresh with
  | some t => decide (n < s.partTime - t)
  | none => false

def staleDue (s : State) : Bool := s.la.status == .fresh && refreshOlder 5 s

def execStaleness (s : State) : Host.Outcome State Fault Refusal :=
  .next (if staleDue s then raise .allowance (s.setLa { s.la with status := .stale }) else s)

def fallbackDue (s : State) : Bool := s.la.status == .stale && refreshOlder 30 s

def execFallback (s : State) : Host.Outcome State Fault Refusal :=
  .next
    (if fallbackDue s then
      allowanceMoved (allowanceInForce s.la) (raise .allowance (s.setLa { s.la with status := .fallback }))
    else s)

/-! ## The Cooling Sequencer's events (R95, R96, R100) -/

def execStagingCheck (s : State) : Host.Outcome State Fault Refusal :=
  .next (if notYet s.partTime s.cs.checkedAt then endEvent (stagingWork s) else s)

/-- Whether a compressor has stood in a state for `n` seconds. -/
def compDue (c : Comp) (st : CompState) (n : Nat) (s : State) : Bool :=
  (s.comp c).state == st && passed s.partTime (s.comp c).stateSince n

def execStartingExpiry (c : Comp) (s : State) : Host.Outcome State Fault Refusal :=
  .next
    (if compDue c .starting 5 s then
      endEvent (reportCool (s.setComp c (runRec s.partTime (lowUsed s c) (s.comp c))))
    else s)

def execUnloadingExpiry (c : Comp) (s : State) : Host.Outcome State Fault Refusal :=
  .next
    (if compDue c .unloading 10 s then
      endEvent (restoreIfFell (committedLoad s) (s.setComp c (stopRec s.partTime (s.comp c))))
    else s)

/-! ## The Heating Sequencer's events (R114, R119, R121) -/

def execHeatingCheck (s : State) : Host.Outcome State Fault Refusal :=
  .next (if notYet s.partTime s.hs.checkedAt then endEvent (heatingWork s) else s)

/-- Whether the heater has stood in a state for `n` seconds. -/
def heaterDue (st : HeaterState) (n : Nat) (s : State) : Bool :=
  s.hs.heater == st && passed s.partTime s.hs.heaterSince n

def execIgnitionExpiry (s : State) : Host.Outcome State Fault Refusal :=
  .next (if heaterDue .ignition 90 s then endEvent (endIgnition s) else s)

/-- A purge has run its full time: 120 s of After-run, 60 s of Retry-purge (R121). -/
def purgeDue (s : State) : Bool := heaterDue .afterRun 120 s || heaterDue .retryPurge 60 s

def execPurgeExpiry (s : State) : Host.Outcome State Fault Refusal :=
  .next (if purgeDue s then endEvent (endPurge s) else s)

/-! ## DAMPER_STEP (R136, R138, R142) -/

def damperDue (s : State) : Bool := inUse s.psc.power && s.partTime % 10 == 0 && s.apc.damperAt != s.partTime

def execDamperStep (s : State) : Host.Outcome State Fault Refusal :=
  .next
    (if damperDue s then
      let s1 := workDampers true s
      s1.setApc { s1.apc with damperAt := s.partTime }
    else s)

/-! ## SCREEN_CHECK (R146) -/

def execScreenCheck (s : State) : Host.Outcome State Fault Refusal :=
  .next (if inUse s.psc.power && notYet s.partTime s.scm.checkedAt then endEvent (screenWork s) else s)

end Sys2Proof.Machine
end

