-- ==== Sys2Proof/Machine/PowerEvents.lean ====
section
/-! DEFINITION. The events of the Power State Controller and the Profile Store: IGNITION_OFF_EXPIRY, LEAD_EXPIRY, DEPART_TIME,
ERASE_END and STORE_WRITE_COMPLETE (R154, R162, R174). An event that is not due changes nothing (log entry 2). -/

namespace Sys2Proof.Machine

/-! ## The ignition-off stretch and the depart timer (R154, R162) -/

def ignitionOffDue (s : State) : Bool := s.psc.power == .run && lasted s.partTime s.psc.ignitionOffSince 60

def execIgnitionOffExpiry (s : State) : Host.Outcome State Fault Refusal :=
  .next (if ignitionOffDue s then endEvent (enterLayover s) else s)

def leadDue (s : State) : Bool :=
  s.psc.leadArmed
    && match s.psc.leadPoint with
      | some p => decide (p ≤ s.partTime)
      | none => false

def execLeadExpiry (s : State) : Host.Outcome State Fault Refusal :=
  .next (if leadDue s then endEvent (reachLead s) else s)

def departDue (s : State) : Bool :=
  match s.psc.departTime with
  | some d => decide (d ≤ s.partTime)
  | none => false

def execDepartTime (s : State) : Host.Outcome State Fault Refusal := .next (if departDue s then endDepart s else s)

/-! ## The profile store (R174) -/

/-- The erase ends: the word is 0 and the write begins. -/
def endErase (p : ProfileStore) : ProfileStore :=
  match p.state with
  | .erasing row column value => ⟨Memory.write p.cells (storeAddress row column) 0, .writing row column value⟩
  | .idle | .writing _ _ _ => p

def execEraseEnd (s : State) : Host.Outcome State Fault Refusal := .next (s.setPs (endErase s.ps))

/-- The write ends: the word holds its value, the PS is Idle and STORE is set. -/
def endWrite (s : State) : State :=
  match s.ps.state with
  | .writing row column value =>
    raise .store (s.setPs ⟨Memory.write s.ps.cells (storeAddress row column) value, .idle⟩)
  | .idle | .erasing _ _ _ => s

def execStoreWriteComplete (s : State) : Host.Outcome State Fault Refusal := .next (endWrite s)

end Sys2Proof.Machine
end

