-- ==== Sys2Proof/Machine/ZoneEvents.lean ====
section
/-! DEFINITION. The events of part time, of the input pins, of the sensors and of the Zone Controller and the Capacity Arbiter:
PART_TIME_TICK, IGNITION, DOOR_EDGE, FLAME_PRESENT, FLAME_LOSS, SAMPLE, PERIOD_EXPIRY, INACTIVITY_TIMER_EXPIRY and HOLD_END (R4,
R5, R9, R26 to R30, R42, R119, R120, R152, R154). An event that is not due changes nothing (log entry 2). -/

namespace Sys2Proof.Machine

/-! ## PART_TIME_TICK (R26, R152) -/

/-- Part time one second on. What follows the top of its range is a free value (log entry 5). -/
def advanceTime (s : State) : State :=
  if s.partTime < 4294967295 then s.setPartTime (s.partTime + 1)
  else (s.setPartTime (Config.partTimeAfterTop s.freeCount).toNat).setFreeCount (s.freeCount + 1)

/-- One second of every running inactivity timer (R26). -/
def tickTimers (s : State) : State :=
  s.setZc { s.zc with zones := s.zc.zones.map (fun _ r => tickTimer s.psc.power s.psc.precondition r) }

def execPartTimeTick (s : State) : Host.Outcome State Fault Refusal := .next (tickTimers (advanceTime s))

/-! ## Input pins (R27, R119, R120, R154) -/

def execIgnition (on : Bool) (s : State) : Host.Outcome State Fault Refusal :=
  .next (if s.pins.ignition = on then s else endEvent (ignitionChanged on s))

def execDoorEdge (d : Door) (s : State) : Host.Outcome State Fault Refusal := .next (endEvent (doorChanged d s))

def execFlamePresent (s : State) : Host.Outcome State Fault Refusal :=
  .next
    (if s.pins.flame then s
    else (s.setPins { s.pins with flame := true }).setHs (flameAppears s.hs s.partTime))

def execFlameLoss (s : State) : Host.Outcome State Fault Refusal :=
  .next (if s.pins.flame then endEvent (flameGoes (s.setPins { s.pins with flame := false })) else s)

/-! ## SAMPLE (R4, R5) -/

def execSample (c : Channel) (v : Int) (s : State) : Host.Outcome State Fault Refusal := .next (sampleWork c v s)

/-! ## PERIOD_EXPIRY (R9, R10, R170) -/

/-- The period timer restarted with the pending code, which comes into force (R9). -/
def restartPeriod (zc : ZoneCtl) : ZoneCtl :=
  { zc with period := zc.pendingPeriod, periodTimer := some (periodLength zc.pendingPeriod) }

/-- An expiry of the period timer: six evaluations in zone order, the restart, and the snapshot count at their end (R9, R170). -/
def periodWork (s : State) : State :=
  let s1 := Zone.all.foldl (fun s z => evaluateZone z s) s
  let s2 := s1.setZc (restartPeriod s1.zc)
  endEvent (s2.setHlu (countSnapshot s2.hlu))

/-- The timer is stopped in Parked, and no expiry comes then (R9). -/
def execPeriodExpiry (s : State) : Host.Outcome State Fault Refusal :=
  .next (if s.zc.periodTimer.isSome then periodWork s else s)

/-! ## INACTIVITY_TIMER_EXPIRY (R29, R30) -/

/-- A zone's expired timer: Setback from Auto, Standby from Setback (R29, R30). -/
def timerExpired (z : Zone) (s : State) : State :=
  match (s.zone z).opMode with
  | .auto => enterSetback z s
  | .setback => enterStandby z (raise .setback s)
  | .off | .vent | .standby => s

/-- A zone's expiry is due when its timer runs and has reached 0. -/
def timerDue (z : Zone) (s : State) : Bool :=
  (s.zone z).timer == 0 && timerRuns s.psc.power s.psc.precondition (s.zone z)

def execInactivityTimerExpiry (z : Zone) (s : State) : Host.Outcome State Fault Refusal :=
  .next (if timerDue z s then endEvent (timerExpired z s) else s)

/-! ## HOLD_END (R42) -/

/-- A hold end is due when it is still to come as an event and its time has been reached. -/
def holdDue (i : EntryId) (s : State) : Bool :=
  (s.ca.entry i).holdPending && !isProtected s.partTime s.ca.modes.hold (s.ca.entry i)

def execHoldEnd (i : EntryId) (s : State) : Host.Outcome State Fault Refusal :=
  .next (if holdDue i s then endEvent (arbEvent (takeHoldEnd s.partTime i) s) else s)

end Sys2Proof.Machine
end

