-- ==== Sys2Proof/Machine/Dispatch.lean ====
section
/-! DEFINITION. One arm for each command, each a direct call of its meaning. -/

namespace Sys2Proof.Machine

def exec (i : Instr) (s : State) : Host.Outcome State Fault Refusal :=
  match i with
  | .zoneSet zone mode setpoint => Sys2Proof.Machine.execZoneSet zone mode setpoint s
  | .tune kp ki db offset => Sys2Proof.Machine.execTune kp ki db offset s
  | .period code => Sys2Proof.Machine.execPeriod code s
  | .queryZone zone => Sys2Proof.Machine.execQueryZone zone s
  | .seats e l1 l2 u1 u2 u3 => Sys2Proof.Machine.execSeats e l1 l2 u1 u2 u3 s
  | .nudge zone direction => Sys2Proof.Machine.execNudge zone direction s
  | .touch zones => Sys2Proof.Machine.execTouch zones s
  | .zoneTimers zone setback standby mask => Sys2Proof.Machine.execZoneTimers zone setback standby mask s
  | .shift direction => Sys2Proof.Machine.execShift direction s
  | .home => Sys2Proof.Machine.execHome s
  | .arbMode saloon lower upper nesting hold => Sys2Proof.Machine.execArbMode saloon lower upper nesting hold s
  | .arbOrder arbiter lines => Sys2Proof.Machine.execArbOrder arbiter lines s
  | .rotate arbiter line => Sys2Proof.Machine.execRotate arbiter line s
  | .mask zones => Sys2Proof.Machine.execMask zones s
  | .release zone => Sys2Proof.Machine.execRelease zone s
  | .queryArbiter => Sys2Proof.Machine.execQueryArbiter s
  | .allowance watts => Sys2Proof.Machine.execAllowance watts s
  | .queryLoad => Sys2Proof.Machine.execQueryLoad s
  | .compEnable enables => Sys2Proof.Machine.execCompEnable enables s
  | .clearLockout target => Sys2Proof.Machine.execClearLockout target s
  | .queryPlant => Sys2Proof.Machine.execQueryPlant s
  | .fuelPermit permit => Sys2Proof.Machine.execFuelPermit permit s
  | .curvePointer address direction scope => Sys2Proof.Machine.execCurvePointer address direction scope s
  | .curveWrite values => Sys2Proof.Machine.execCurveWrite values s
  | .curveRead count => Sys2Proof.Machine.execCurveRead count s
  | .zoneCurve zone code => Sys2Proof.Machine.execZoneCurve zone code s
  | .ventLimits vent fresh => Sys2Proof.Machine.execVentLimits vent fresh s
  | .screen value => Sys2Proof.Machine.execScreen value s
  | .park => Sys2Proof.Machine.execPark s
  | .depart minutes => Sys2Proof.Machine.execDepart minutes s
  | .eventEnable flags => Sys2Proof.Machine.execEventEnable flags s
  | .eventClear flags => Sys2Proof.Machine.execEventClear flags s
  | .queryEvents => Sys2Proof.Machine.execQueryEvents s
  | .snapshotRate rate => Sys2Proof.Machine.execSnapshotRate rate s
  | .identify => Sys2Proof.Machine.execIdentify s
  | .reset => Sys2Proof.Machine.execReset s
  | .profileWrite row column value => Sys2Proof.Machine.execProfileWrite row column value s
  | .profileRead row column => Sys2Proof.Machine.execProfileRead row column s
  | .profileLoad => Sys2Proof.Machine.execProfileLoad s
  | .queryLogs => Sys2Proof.Machine.execQueryLogs s
  | .frameComplete type payload => Sys2Proof.Machine.execFrameComplete type payload s
  | .gap => Sys2Proof.Machine.execGap s
  | .replyStart => Sys2Proof.Machine.execReplyStart s
  | .eventReport => Sys2Proof.Machine.execEventReport s
  | .snapshotReport => Sys2Proof.Machine.execSnapshotReport s
  | .frameSent => Sys2Proof.Machine.execFrameSent s
  | .softReset => Sys2Proof.Machine.execSoftReset s
  | .powerOnReset pins => Sys2Proof.Machine.execPowerOnReset pins s
  | .partTimeTick => Sys2Proof.Machine.execPartTimeTick s
  | .ignition on => Sys2Proof.Machine.execIgnition on s
  | .doorEdge door => Sys2Proof.Machine.execDoorEdge door s
  | .flamePresent => Sys2Proof.Machine.execFlamePresent s
  | .flameLoss => Sys2Proof.Machine.execFlameLoss s
  | .sample channel value => Sys2Proof.Machine.execSample channel value s
  | .periodExpiry => Sys2Proof.Machine.execPeriodExpiry s
  | .inactivityTimerExpiry zone => Sys2Proof.Machine.execInactivityTimerExpiry zone s
  | .holdEnd entry => Sys2Proof.Machine.execHoldEnd entry s
  | .staleness => Sys2Proof.Machine.execStaleness s
  | .fallback => Sys2Proof.Machine.execFallback s
  | .stagingCheck => Sys2Proof.Machine.execStagingCheck s
  | .startingExpiry comp => Sys2Proof.Machine.execStartingExpiry comp s
  | .unloadingExpiry comp => Sys2Proof.Machine.execUnloadingExpiry comp s
  | .heatingCheck => Sys2Proof.Machine.execHeatingCheck s
  | .ignitionExpiry => Sys2Proof.Machine.execIgnitionExpiry s
  | .purgeExpiry => Sys2Proof.Machine.execPurgeExpiry s
  | .damperStep => Sys2Proof.Machine.execDamperStep s
  | .screenCheck => Sys2Proof.Machine.execScreenCheck s
  | .ignitionOffExpiry => Sys2Proof.Machine.execIgnitionOffExpiry s
  | .leadExpiry => Sys2Proof.Machine.execLeadExpiry s
  | .departTime => Sys2Proof.Machine.execDepartTime s
  | .eraseEnd => Sys2Proof.Machine.execEraseEnd s
  | .storeWriteComplete => Sys2Proof.Machine.execStoreWriteComplete s
  | .byteReceived byte framingError => Sys2Proof.Machine.execByteReceived byte framingError s

end Sys2Proof.Machine
end

