-- ==== Sys2Proof/Safety.lean ====
section
/-! DEFINITION. What counts as right in the terms that claims use: what a step leaves alone, when a command is taken, what its reply
says, and the laws that states keep. -/

namespace Sys2Proof.Machine

/-! ## What a step leaves alone -/

/-- The link without its two sets of raised flags. -/
def linkOf (h : HostLink) : HostLink := { h with latched := 0, unreported := 0 }

/-- Part time, pins, channels, store, queue, and the link but for raised flags, are as they were. -/
structure OutsideKept (s t : State) : Prop where
  partTime : t.partTime = s.partTime
  freeCount : t.freeCount = s.freeCount
  pins : t.pins = s.pins
  ssu : t.ssu = s.ssu
  ps : t.ps = s.ps
  pending : t.pending = s.pending
  link : linkOf t.hlu = linkOf s.hlu

/-- The zone records, the screen monitor and the power state are as they were too: only arbiter, loads, plant and air may move. -/
structure PlantOnly (s t : State) : Prop extends OutsideKept s t where
  zc : t.zc = s.zc
  scm : t.scm = s.scm
  psc : t.psc = s.psc

/-- A step of arbiter, loads, plant and air in any power state. Outside Winding-down it is `PlantOnly`. In Winding-down it may bring
stopped reports with it, and where they complete the wind-down the part goes to Run with IGNITION on, to Layover with the precondition
flag set, and to Parked otherwise (R157, R158). -/
structure PlantStep (s t : State) : Prop extends OutsideKept s t where
  other : s.psc.power ≠ .windingDown → t.zc = s.zc ∧ t.scm = s.scm ∧ t.psc = s.psc
  winding : t.psc.power = .windingDown → t.zc = s.zc ∧ t.scm = s.scm ∧ { t.psc with stopped := s.psc.stopped } = s.psc
  ended : s.psc.power = .windingDown → t.psc.power ≠ .windingDown →
    t.psc.power = if s.pins.ignition then .run else if s.psc.precondition then .layover else .parked

/-- Only zone records, arbiter, loads, plant and air may move: the saloon-wide settings, the screen monitor and the power state
are as they were too. -/
structure ZonesOnly (s t : State) : Prop extends OutsideKept s t where
  settings : { t.zc with zones := s.zc.zones } = s.zc
  scm : t.scm = s.scm
  psc : t.psc = s.psc

/-- Kind, number wanted and mask of every entry of the grant table are as they were. -/
def requestsKept (s t : State) : Prop :=
  ∀ i, (t.ca.entry i).kind = (s.ca.entry i).kind ∧ (t.ca.entry i).wanted = (s.ca.entry i).wanted ∧
    (t.ca.entry i).masked = (s.ca.entry i).masked

/-! ## Commands and their replies (R165, R178) -/

/-- A command of the host: one that a frame carries (R179). -/
def isHostCommand (i : Instr) : Bool := (encodeFrame i).isSome

/-- The next command frame is taken: none is in hand, and no wake comes before it (R159, R165). -/
def readyForCommand (s : State) : Bool := s.hlu.inHand.isNone && s.psc.power != .parked

/-- The state with a formed reply in hand: TYPE, status code and fields. -/
def withReply (rtype : Byte) (status : Byte) (fields : List Byte) (s : State) : State :=
  s.setHlu { s.hlu with inHand := some ⟨rtype, status :: fields, false, rtype == 0xA4 && status == 0⟩ }

/-- The state with no command in hand, for comparing what a command did beside its reply. -/
def withoutReply (s : State) : State := s.setHlu { s.hlu with inHand := none }

/-- A formed reply is in hand and waits: TYPE, status code and fields. -/
def replied (rtype : Byte) (status : Byte) (fields : List Byte) (t : State) : Prop :=
  t.hlu.inHand = some ⟨rtype, status :: fields, false, rtype == 0xA4 && status == 0⟩

/-- The committed load is within the larger of allowance in force and floor load (R84), so nothing is shed. -/
def settled (s : State) : Bool := decide (committedLoad s ≤ loadBound s)

/-- The next command frame is taken in Run or Layover with nothing to shed. -/
def readyAndSettled (s : State) : Bool := s.hlu.inHand.isNone && inUse s.psc.power && settled s

/-- A wind-down under way in which nothing comes due: every zone in Standby, every stopped block reported, some plant still to stop, and
nothing to shed (R157, R158). -/
def windDownAtRest (s : State) : Bool :=
  s.psc.power == .windingDown && settled s && Zone.all.all (fun z => (s.zone z).opMode == .standby)
    && reportStopped s == s.psc.stopped && s.psc.stopped != ⟨true, true, true⟩

/-- The next command frame is taken in such a wind-down. -/
def windingDownQuietly (s : State) : Bool := s.hlu.inHand.isNone && windDownAtRest s

/-- The status byte of the command in hand. -/
def statusInHand (s : State) : Option Byte := s.hlu.inHand.bind (fun c => c.payload.head?)

/-- The reply fields of the command in hand. -/
def fieldsInHand (s : State) : Option (List Byte) := s.hlu.inHand.map (fun c => c.payload.tail)

/-- The bytes received one after another, without a gap or a framing error between them (R164). -/
def receiveBytes : List Byte → State → Host.Outcome State Fault Refusal
  | [], s => .next s
  | b :: rest, s =>
    match exec (.byteReceived b false) s with
    | .next t => receiveBytes rest t
    | .fault r => .fault r
    | .refused r => .refused r

/-! ## Reload events (R28) -/

/-- The mode an effective reload event leaves a zone in, in Run and Layover (R28). -/
def reloadedMode (r : ZoneRec) : OpMode :=
  match r.opMode, r.hostMode with
  | .auto, _ | .setback, _ => .auto
  | .standby, .auto => .auto
  | .standby, .vent => .vent
  | .standby, .off => .off
  | .off, _ => .off
  | .vent, _ => .vent

/-- The timer it leaves (R28): a fresh one, but in Off and Vent. -/
def reloadedTimer (r : ZoneRec) : Nat :=
  match r.opMode with
  | .off | .vent => r.timer
  | .auto | .setback | .standby => r.setbackMin * 60

/-! ## Which commands do what -/

/-- Whether a row of the table stands for a whole frame with the right CRC: a host command, or a frame's completion with any TYPE and
payload (R159, R165; log entry 1). -/
def isWholeFrame : Instr → Bool
  | .frameComplete _ _ => true
  | i => isHostCommand i

/-- Whether a row of the table completes a frame with the right CRC: one that stands for a whole frame, or the byte that completes one
(R159, R164). -/
def completesFrame (i : Instr) (s : State) : Bool :=
  match i with
  | .byteReceived b framingError => !framingError && (framerByte s.hlu.framer b).2.isSome
  | i => isWholeFrame i

/-- Whether a command is one of the two resets. -/
def isReset : Instr → Bool
  | .softReset | .powerOnReset _ => true
  | _ => false

/-- The command that a payload carries under its TYPE, where it carries one (R165). -/
def commandOfFrame (type : Byte) (payload : List Byte) : Option Instr :=
  match decodeFrame type payload with
  | .command i => some i
  | .unknownType | .badLength => none

/-- What a row of the table brings to be done: the command that its frame carries, none for a byte that completes no frame, and itself
for every other row (R164, R165). -/
def carriedCommand (i : Instr) (s : State) : Option Instr :=
  match i with
  | .frameComplete type payload => commandOfFrame type payload
  | .byteReceived b framingError =>
    if framingError then none else (framerByte s.hlu.framer b).2.bind (fun f => commandOfFrame f.1 f.2)
  | i => some i

/-- The commands and events that may move tokens or loads, or end a wind-down: those in which a zone, the arbiter, the load account,
a sequencer or the power state acts. The rest only answer, or act on a setting, a pin, the line or the store alone. -/
def movesPlant : Instr → Bool
  | .zoneSet _ _ _ | .seats _ _ _ _ _ _ | .nudge _ _ | .touch _ | .arbMode _ _ _ _ _ | .arbOrder _ _ | .rotate _ _ | .mask _
  | .release _ | .allowance _ | .clearLockout _ | .fuelPermit _ | .ventLimits _ _ | .screen _ | .park | .depart _ | .profileLoad
  | .ignition _ | .doorEdge _ | .flameLoss | .sample _ _ | .periodExpiry | .inactivityTimerExpiry _ | .holdEnd _ | .fallback
  | .stagingCheck | .startingExpiry _ | .unloadingExpiry _ | .heatingCheck | .ignitionExpiry | .purgeExpiry | .screenCheck
  | .ignitionOffExpiry | .leadExpiry | .softReset | .powerOnReset _ => true
  | .tune _ _ _ _ | .period _ | .queryZone _ | .zoneTimers _ _ _ _ | .shift _ | .home | .queryArbiter | .queryLoad | .compEnable _
  | .queryPlant | .queryLogs | .curvePointer _ _ _ | .curveWrite _ | .curveRead _ | .zoneCurve _ _ | .eventEnable _ | .eventClear _
  | .queryEvents | .snapshotRate _ | .identify | .reset | .profileWrite _ _ _ | .profileRead _ _ | .frameComplete _ _
  | .byteReceived _ _ | .gap | .replyStart | .eventReport | .snapshotReport | .frameSent | .partTimeTick | .flamePresent
  | .staleness | .damperStep | .departTime | .eraseEnd | .storeWriteComplete => false

/-- The commands and events that may set a flag (R168). SHED, PREEMPT and RECLAIM may follow any that moves loads or tokens, and POWER
any that ends a wind-down. -/
def setsFlag (i : Instr) : Flag → Bool
  | .shed | .preempt | .reclaim | .power => movesPlant i
  | .setback =>
    match i with
    | .inactivityTimerExpiry _ => true
    | _ => false
  | .sensor =>
    match i with
    | .sample _ _ => true
    | _ => false
  | .allowance => i == .staleness || i == .fallback
  | .compTrip | .compLock =>
    match i with
    | .sample _ _ | .stagingCheck => true
    | _ => false
  | .startLimit => i == .stagingCheck
  | .auxFault | .auxLock => i == .ignitionExpiry || i == .flameLoss
  | .screen =>
    match i with
    | .screenCheck | .screen _ => true
    | _ => false
  | .store => i == .storeWriteComplete
  | .depart =>
    match i with
    | .leadExpiry | .depart _ | .profileLoad => true
    | _ => false

/-! ## Settings from the store (R173, R176, R181) -/

/-- The word that packs an order, four bits to a line, highest first (R181). -/
def orderWord (ls : List Line) : Nat := ls.foldl (fun n l => 16 * n + codeOfLine l) 0

/-- An order as a load takes it from its word: the permutation of the arbiter's lines that the word packs, and the arbiter's default
where it packs none (R176, R181). -/
def orderTaken (a : ArbiterId) (word : Nat) (ls : List Line) : Prop :=
  (∀ ks, ks.Perm (arbiterLines a) → orderWord ks = word → ls = ks) ∧
    ((∀ ks, ks.Perm (arbiterLines a) → orderWord ks ≠ word) → ls = arbiterLines a)

/-- The settings that a load takes from the store's words, given by row and column (R173): each quantity brought into its range, each name
that names nothing valid replaced by its default (R176). The three orders stand in `orderTaken`. -/
def settingsTaken (w : Nat → Nat → Nat) (t : State) : Prop :=
  (t.zc.kp = (max 1 (min 40 (w 6 0)) : Nat) ∧ t.zc.ki = (min 32 (w 6 1) : Nat) ∧ t.zc.db = (min 10 (w 6 2) : Nat) ∧
      t.zc.pendingPeriod = min 30 (w 6 3) ∧ t.zc.setbackOffset = (max 10 (min 50 (w 6 4)) : Nat)) ∧
    (∀ z,
      (t.zone z).setpoint = (max 170 (min 280 (w (codeOfZone z) 0)) / 5 * 5 : Nat) ∧
      (t.zone z).hostMode = (hostModeOfCode (w (codeOfZone z) 1)).getD .auto ∧
      (t.zone z).curve = (curveOfCode (w (codeOfZone z) 2)).getD .linear ∧
      (t.zone z).setbackMin = max 1 (min 60 (w (codeOfZone z) 3)) ∧
      (t.zone z).standbyMin = max 1 (min 240 (w (codeOfZone z) 4)) ∧
      (t.zone z).mask = (reloadMaskOfCode (w (codeOfZone z) 5)).getD ⟨true, true, z == .e || z == .l1, true⟩) ∧
    (t.ca.modes.saloon = (priorityOfCode (w 7 0)).getD .fixed ∧ t.ca.modes.lower = (priorityOfCode (w 7 1)).getD .fixed ∧
      t.ca.modes.upper = (priorityOfCode (w 7 2)).getD .fixed ∧ t.ca.modes.nesting = (nestingOfCode (w 7 3)).getD .strict ∧
      t.ca.modes.hold = max 10 (min 120 (w 6 5))) ∧
    (t.la.fallback = min 15000 (w 8 0) / 50 * 50 ∧ t.psc.departLead = max 10 (min 90 (w 8 1)) ∧
      (t.comp .a).enable = (if w 8 2 < 4 then (w 8 2).testBit 0 else true) ∧
      (t.comp .b).enable = (if w 8 2 < 4 then (w 8 2).testBit 1 else true) ∧ t.hs.permit = (w 8 3 != 0)) ∧
    (t.apc.ventMin = max 10 (min 60 (w 6 6)) ∧ t.apc.freshMin = min 100 (w 6 7) ∧ t.apc.curveTable.length = 54 ∧
      ∀ a, a < 54 → t.apc.curveTable[a]? = some (min 100 (w (9 + a / 8) (a % 8)))) ∧
    (t.hlu.enabled = (if w 7 7 < 32768 then BitVec.ofNat 16 (w 7 7) else 0x7FFF) ∧ t.hlu.snapshotRate = min 60 (w 8 4))

/-- Whether a stored word is a valid setting as it stands, by row and column (R173, R176, R178, R181). The six words of each order are the
permutations of its arbiter's lines. -/
def wordValid (row column n : Nat) : Bool :=
  let within (lo hi : Nat) : Bool := decide (lo ≤ n) && decide (n ≤ hi)
  match row, column with
  | 6, 0 => within 1 40
  | 6, 1 => within 0 32
  | 6, 2 => within 0 10
  | 6, 3 => within 0 30
  | 6, 4 => within 10 50
  | 6, 5 => within 10 120
  | 6, 6 => within 10 60
  | 6, _ => within 0 100
  | 7, 0 | 7, 1 | 7, 2 => within 0 1
  | 7, 3 => within 0 2
  | 7, 4 => [0x012, 0x021, 0x102, 0x120, 0x201, 0x210].contains n
  | 7, 5 => [0x34, 0x43].contains n
  | 7, 6 => [0x567, 0x576, 0x657, 0x675, 0x756, 0x765].contains n
  | 7, _ => within 0 0x7FFF
  | 8, 0 => within 0 15000 && n % 50 == 0
  | 8, 1 => within 10 90
  | 8, 2 => within 0 3
  | 8, 3 => within 0 1
  | 8, _ => within 0 60
  | row, column =>
    if row ≤ 5 then
      match column with
      | 0 => within 170 280 && n % 5 == 0
      | 1 => within 0 2
      | 2 => within 0 5 || within 8 11
      | 3 => within 1 60
      | 4 => within 1 240
      | _ => within 0 15
    else within 0 100

/-- The rows and columns of the 111 settings (R173). -/
def settingWords : List (Nat × Nat) :=
  (List.range 16).flatMap (fun r => (List.range (if r ≤ 5 ∨ r = 15 then 6 else if r = 8 then 5 else 8)).map (fun c => (r, c)))

/-- How many settings a load has to clamp or default: those whose word is not valid as it stands (R176; log entry 43). -/
def settingsAdjusted (w : Nat → Nat → Nat) : Nat := settingWords.countP (fun p => !wordValid p.1 p.2 (w p.1 p.2))

/-! ## Laws of the arbiter (R40 to R44) -/

/-- Each of the three orders is a permutation of its arbiter's lines (R44). -/
def ordersLawful (o : Orders) : Prop :=
  o.saloon.Perm [.e, .lower, .upper] ∧ o.lower.Perm [.l1, .l2] ∧ o.upper.Perm [.u1, .u2, .u3]

/-- One entry within the law of the table (R40). -/
def entryLawful (e : GrantEntry) : Prop :=
  e.held ≤ e.wanted ∧ e.wanted ≤ 4 ∧ (e.kind = .none → e.wanted = 0) ∧ (e.since = none ↔ e.held = 0)

/-- The law of the table (R40): every entry held ≤ wanted ≤ 4, nothing wanted with kind None, since absent while held is 0, and the two screen-clear entries of
their fixed kinds. -/
def tableLawful (a : Arbiter) : Prop :=
  (∀ i, entryLawful (a.entry i)) ∧ (a.entry .scc).kind = .cool ∧ (a.entry .sch).kind = .heat

/-- The law of the pools (R41): the tokens held of a kind never exceed that pool's capacity. -/
def poolsLawful (a : Arbiter) : Prop := ∀ k, a.heldTotal k ≤ a.capacity k

/-- The law of the wait queue (R43): it holds exactly the short entries, each once. -/
def queueLawful (a : Arbiter) : Prop := a.queue.Nodup ∧ ∀ i, i ∈ a.queue ↔ isShort (a.entry i) = true

/-- The screen-clear entries want 2 tokens each while screen clear is active, and 0 otherwise (R40, R49). -/
def screenEntriesLawful (s : State) : Prop :=
  (s.ca.entry .scc).wanted = (if s.scm.active then 2 else 0) ∧ (s.ca.entry .sch).wanted = (if s.scm.active then 2 else 0)

/-- All laws of the Capacity Arbiter. -/
def arbiterLawful (s : State) : Prop :=
  ordersLawful s.ca.orders ∧ tableLawful s.ca ∧ poolsLawful s.ca ∧ queueLawful s.ca ∧ screenEntriesLawful s

/-! ## What the arbiter holds of its neighbours (R17, R55, R58, R69, R71) -/

/-- The hand-offs stand: every zone's entry has the kind and number wanted of its record (R17, R40, R47, R48), its blower the tokens held
(R55), the pools the capacities of the running plant (R69, R71), and the sequencers the totals wanted and SCc's state (R58). -/
def handoffsLawful (s : State) : Prop :=
  (∀ z, (s.ca.entry (.zone z)).kind = (s.zone z).reqKind ∧ (s.ca.entry (.zone z)).wanted = (s.zone z).wanted ∧
      (s.blower z).held = (s.ca.entry (.zone z)).held) ∧
    (s.ca.coolCap = coolCapacityOf s.cs ∧ s.ca.heatCap = heatCapacityOf s.hs) ∧
    s.cs.wantedTotal = s.ca.wantedTotal .cool ∧ s.hs.wantedTotal = s.ca.wantedTotal .heat ∧
      s.cs.sccShort = decide ((s.ca.entry .scc).held < (s.ca.entry .scc).wanted)

/-! ## Laws of the other blocks -/

/-- No item stands twice on the shed stack (R87), which therefore has at most ten entries. -/
def stackLawful (la : LoadAccount) : Prop := (la.stack.map ShedEntry.item).Nodup

/-- The three flag sets have bit 15 clear, and a flag is unreported only while it is latched and enabled (R168, R169, R178). -/
def flagsLawful (h : HostLink) : Prop :=
  h.latched.getLsbD 15 = false ∧ h.enabled.getLsbD 15 = false ∧ h.unreported &&& h.latched &&& h.enabled = h.unreported

/-- The store's memory is in canonical form, and a word in progress is one of its 128 (R173, R174). -/
def storeLawful (p : ProfileStore) : Prop :=
  p.cells.wf = true ∧
    match p.state with
    | .idle => True
    | .erasing row column _ | .writing row column _ => row ≤ 15 ∧ column ≤ 7

/-- The curve table, the pointer and the limits of the Air Path Controller are within their ranges (R127, R128, R140). -/
def airLawful (a : AirPath) : Prop :=
  a.curveTable.length = 54 ∧ (∀ p ∈ a.curveTable, p ≤ 100) ∧ a.pointer.address ≤ 53 ∧ 10 ≤ a.ventMin ∧ a.ventMin ≤ 60 ∧
    a.freshMin ≤ 100

/-- A zone's blower answers its zone: it follows the zone's mode once that has been handed and stands at 0% before, is at 0% out of
service and at the vent minimum or above in service, and at the vent minimum or below while on the shed stack (R87, R133, R134). -/
def blowerLawful (s : State) (z : Zone) : Prop :=
  let b := s.blower z
  ((b.mode = none ∧ b.speed = 0) ∨ b.mode = some (s.zone z).opMode) ∧
    (inService (s.zone z).opMode = false → b.speed = 0) ∧
    (b.mode ≠ none → inService (s.zone z).opMode = true → s.apc.ventMin ≤ b.speed) ∧
    (onStack s.la (.blower z) = true → b.speed ≤ s.apc.ventMin)

/-- Plant on the shed stack is not running (R87): a compressor there is not in Starting or Running, the pump there is Off, and the heater
there is not in Ignition or Burning. -/
def shedPlantLawful (s : State) : Prop :=
  (∀ c, onStack s.la (.comp c) = true → (s.comp c).state ≠ .starting ∧ (s.comp c).state ≠ .running) ∧
    (onStack s.la .pump = true → s.hs.pump = false) ∧ (onStack s.la .heater = true → runRequest s.hs = false)

/-- The law of the loads (R84, R87): no item twice on the stack, every blower lawful, no plant on the stack running, and the committed load
within the larger of allowance in force and floor load. -/
def loadLawful (s : State) : Prop :=
  stackLawful s.la ∧ (∀ z, blowerLawful s z) ∧ shedPlantLawful s ∧ committedLoad s ≤ loadBound s

/-- The heater shows its run request only while the pump runs (R116, R118, R122). -/
def heaterLawful (h : Heating) : Prop := runRequest h = true → h.pump = true

/-- The part in Winding-down and Parked: IGNITION is off, every zone is in Standby with its blower's mode to match or not yet handed, no
compressor is in Starting or Running, the heater's run request is off, and both dampers stand at the fresh minimum (R142, R157, R158). -/
def atRest (s : State) : Prop :=
  s.pins.ignition = false ∧
    (∀ z, (s.zone z).opMode = .standby ∧
      (((s.blower z).mode = none ∧ (s.blower z).speed = 0) ∨ (s.blower z).mode = some .standby)) ∧
    (∀ c, (s.comp c).state ≠ .starting ∧ (s.comp c).state ≠ .running) ∧ runRequest s.hs = false ∧
    s.apc.damperLower = s.apc.freshMin ∧ s.apc.damperUpper = s.apc.freshMin

/-- The law of rest: Winding-down and Parked are as `atRest` says, plant that has reported stopped in a wind-down is stopped, and in
Parked all of it is (R142, R157 to R159). -/
def restLawful (s : State) : Prop :=
  (s.psc.power = .windingDown ∨ s.psc.power = .parked → atRest s) ∧
    (s.psc.power = .windingDown →
      (s.psc.stopped.cs = true → csStopped s = true) ∧ (s.psc.stopped.hs = true → hsStopped s = true) ∧
        (s.psc.stopped.apc = true → apcStopped s = true)) ∧
    (s.psc.power = .parked → csStopped s = true ∧ hsStopped s = true ∧ apcStopped s = true)

end Sys2Proof.Machine
end

