-- ==== Sys2Proof/WellFormed.lean ====
section
/-! DEFINITION. Which terms of `Instr` can occur: the lengths that R178, R179 and R130 allow for the operands of varying length. Every
other operand takes any value of its type. -/

namespace Sys2Proof

/-- A command that the line or the part can produce: ARB ORDER has a payload of 3 or 4 bytes and CURVE WRITE one of 1 to 9
(R179), and the payload of a frame has at most 60 bytes (R178). -/
def Instr.wellFormed : Instr → Bool
  | .arbOrder _ lines => lines.length == 2 || lines.length == 3
  | .curveWrite values => decide (1 ≤ values.length) && decide (values.length ≤ 9)
  | .frameComplete _ payload => decide (payload.length ≤ 60)
  | .zoneSet _ _ _ | .tune _ _ _ _ | .period _ | .queryZone _ | .seats _ _ _ _ _ _ | .nudge _ _ | .touch _
  | .zoneTimers _ _ _ _ | .shift _ | .home | .arbMode _ _ _ _ _ | .rotate _ _ | .mask _ | .release _
  | .queryArbiter | .allowance _ | .queryLoad | .compEnable _ | .clearLockout _ | .queryPlant | .fuelPermit _
  | .curvePointer _ _ _ | .curveRead _ | .zoneCurve _ _ | .ventLimits _ _ | .screen _ | .park | .depart _
  | .eventEnable _ | .eventClear _ | .queryEvents | .snapshotRate _ | .identify | .reset | .profileWrite _ _ _
  | .profileRead _ _ | .profileLoad | .queryLogs | .gap | .replyStart | .eventReport | .snapshotReport
  | .frameSent | .softReset | .powerOnReset _ | .partTimeTick | .ignition _ | .doorEdge _ | .flamePresent
  | .flameLoss | .sample _ _ | .periodExpiry | .inactivityTimerExpiry _ | .holdEnd _ | .staleness | .fallback
  | .stagingCheck | .startingExpiry _ | .unloadingExpiry _ | .heatingCheck | .ignitionExpiry | .purgeExpiry
  | .damperStep | .screenCheck | .ignitionOffExpiry | .leadExpiry | .departTime | .eraseEnd
  | .storeWriteComplete | .byteReceived _ _ => true

end Sys2Proof
end

