-- ==== Sys2Proof/Certificates/Slice0/Obligations.lean ====
section
/-! DEFINITION. The statements about the CX-80 model that the provers take up. Statuses and TYPE codes are written as R178 and R179
number them. A clause that rests on a choice of the model names its log entry. -/

open Sys2Proof Sys2Proof.Machine

/-! ## Steps and resets -/

/-- A step runs exec on the command at the front of the queue with the queue's rest; on an empty queue the part idles (log entry 4,
the model's choice). -/
def Obligations.StepRunsFrontCommand : Prop :=
  ∀ (c : Instr) (rest : List Instr) (s : State),
    (s.pending = c :: rest → step s = exec c (s.setPending rest)) ∧ (s.pending = [] → step s = .next s)

/-- State.reset holds the reset values of the chapters for a power-on from the factory store (R173) with IGNITION off, the level that
log entry 7 chooses: channels Held without a value, zones in Standby with nothing asked, an empty grant table and queue, pools at 0,
the fallback allowance in force with an empty stack, compressors, pump and heater Off, blowers at 0% and dampers at the fresh
minimum, screen clear inactive, Layover, and POWER alone latched. -/
def Obligations.ResetValues : Prop :=
  let s := State.reset
  (s.partTime = 0 ∧ s.psc.power = .layover ∧ s.psc.ignitionOffSince = none ∧ s.psc.departTime = none ∧
      s.psc.leadPoint = none ∧ s.psc.precondition = false ∧ s.psc.departLead = 30) ∧
    (∀ c, (s.ssu.get c).status = .held ∧ (s.ssu.get c).lastGood = none ∧ (s.ssu.get c).heldSince = some 0) ∧
    (∀ z, (s.zone z).opMode = .standby ∧ (s.zone z).hostMode = .auto ∧ (s.zone z).setpoint = 220 ∧ (s.zone z).sEff = 220 ∧
      (s.zone z).trim = 0 ∧ (s.zone z).seats = 0 ∧ (s.zone z).timer = 0 ∧ (s.zone z).sensor = .lost ∧
      (s.zone z).tempUsed = none ∧ (s.zone z).integ = 0 ∧ (s.zone z).demand = 0 ∧ (s.zone z).reqKind = .none ∧
      (s.zone z).wanted = 0 ∧ (s.zone z).curve = .linear) ∧
    (s.zc.shift = 0 ∧ s.zc.period = 6 ∧ s.zc.pendingPeriod = 6 ∧ s.zc.periodTimer = some 2000) ∧
    (∀ i, (s.ca.entry i).wanted = 0 ∧ (s.ca.entry i).held = 0 ∧ (s.ca.entry i).since = none ∧
      (s.ca.entry i).masked = false) ∧
    (s.ca.queue = [] ∧ s.ca.orders = ⟨[.e, .lower, .upper], [.l1, .l2], [.u1, .u2, .u3]⟩ ∧
      s.ca.modes = ⟨.fixed, .fixed, .fixed, .strict, 30⟩ ∧ s.ca.coolCap = 0 ∧ s.ca.heatCap = 0) ∧
    (s.la.hostValue = none ∧ s.la.lastRefresh = none ∧ s.la.status = .fallback ∧ s.la.fallback = 2000 ∧ s.la.stack = [] ∧
      committedLoad s = 0) ∧
    (∀ c, (s.comp c).state = .off ∧ (s.comp c).stoppedSince = 0 ∧ (s.comp c).onSince = none ∧ (s.comp c).enable = true ∧
      (s.comp c).startLog = [] ∧ (s.comp c).tripLog = []) ∧
    (s.hs.pump = false ∧ s.hs.heater = .off ∧ s.hs.attempt = 1 ∧ s.hs.relight = 0 ∧ s.hs.permit = true ∧ s.hs.band = 0) ∧
    (s.apc.pointer = ⟨0, .increment, .curve⟩ ∧ s.apc.ventMin = 25 ∧ s.apc.freshMin = 15 ∧ s.apc.damperLower = 15 ∧
      s.apc.damperUpper = 15 ∧ ∀ z, (s.blower z).speed = 0) ∧
    (s.scm.active = false ∧ s.scm.hostRequest = false ∧ s.scm.fog = 0 ∧ s.scm.margin = none) ∧
    (s.hlu.framer = .hunt ∧ s.hlu.inHand = none ∧ s.hlu.sending = none ∧ s.hlu.latched = 0x1000 ∧
      s.hlu.unreported = 0x1000 ∧ s.hlu.enabled = 0x7FFF ∧ s.hlu.snapshotRate = 0) ∧
    s.ps.state = .idle ∧ s.pending = []

/-- POWER_ON_RESET from any state (R152, R153, and the reset tables of R3, R5, R67, R91, R112, R126, R138, R143, R163, R172, R177): part
time 0, the pins as the command carries them (log entry 30), Run or Layover by IGNITION, the blocks at the reset values stated here, POWER
alone latched and unreported where the loaded enable set holds it, nothing in hand or being sent (a frame being sent is dropped: log entry
41, the model's choice), and the store unchanged but for a word in progress, which is left at 0. Every working setting, the three orders and the period code among them, is the one that the store then holds (R176). The
queue is kept. -/
def Obligations.PowerOnReset : Prop :=
  ∀ (p : Pins) (s : State), ∃ t, exec (.powerOnReset p) s = .next t ∧
    (t.partTime = 0 ∧ t.pins = p ∧ t.pending = s.pending ∧ t.freeCount = s.freeCount) ∧
    (∀ w : Nat → Nat → Nat, w = (fun r c => (Memory.read t.ps.cells (r * 8 + c)).toNat) →
      settingsTaken w t ∧ orderTaken .saloon (w 7 4) t.ca.orders.saloon ∧ orderTaken .lower (w 7 5) t.ca.orders.lower ∧
        orderTaken .upper (w 7 6) t.ca.orders.upper) ∧
    (t.zc.shift = 0 ∧ t.zc.period = t.zc.pendingPeriod ∧ t.zc.periodTimer = some ((t.zc.pendingPeriod + 2) * 250)) ∧
    t.psc.power = (if p.ignition then .run else .layover) ∧
    (t.psc.departTime = none ∧ t.psc.precondition = false ∧ t.psc.ignitionOffSince = none) ∧
    (∀ c, (t.ssu.get c).status = .held ∧ (t.ssu.get c).lastGood = none ∧ (t.ssu.get c).heldSince = some 0) ∧
    (∀ z, (t.zone z).opMode = (if p.ignition then opOfHost (t.zone z).hostMode else .standby) ∧
      (t.zone z).timer = (if p.ignition then (t.zone z).setbackMin * 60 else 0) ∧ (t.zone z).seats = 0 ∧
      (t.zone z).trim = 0 ∧ (t.zone z).sensor = .lost ∧ (t.zone z).tempUsed = none ∧ (t.zone z).integ = 0 ∧
      (t.zone z).demand = 0 ∧ (t.zone z).reqKind = .none ∧ (t.zone z).sEff = (t.zone z).setpoint) ∧
    (∀ i, (t.ca.entry i).wanted = 0 ∧ (t.ca.entry i).held = 0 ∧ (t.ca.entry i).masked = false) ∧
    (t.ca.queue = [] ∧ t.ca.coolCap = 0 ∧ t.ca.heatCap = 0) ∧
    (t.la.hostValue = none ∧ t.la.status = .fallback ∧ t.la.stack = [] ∧ committedLoad t = 0) ∧
    (∀ c, (t.comp c).state = .off ∧ (t.comp c).stoppedSince = 0 ∧ (t.comp c).startLog = [] ∧ (t.comp c).tripLog = []) ∧
    (t.hs.pump = false ∧ t.hs.heater = .off ∧ t.hs.relight = 0 ∧ t.hs.attempt = 1) ∧
    (t.apc.damperLower = t.apc.freshMin ∧ t.apc.damperUpper = t.apc.freshMin ∧ ∀ z, (t.blower z).speed = 0) ∧
    (t.scm.active = false ∧ t.scm.hostRequest = false) ∧
    (t.hlu.lineRate = (if p.rate1 then 115200 else if p.rate0 then 57600 else 19200) ∧ t.hlu.framer = .hunt ∧
      t.hlu.inHand = none ∧ t.hlu.sending = none ∧ t.hlu.latched = 0x1000 ∧
      t.hlu.unreported = (if t.hlu.enabled.getLsbD 12 then 0x1000 else 0)) ∧
    t.ps.state = .idle ∧
    ∀ a, Memory.read t.ps.cells a =
      match s.ps.state with
      | .idle => Memory.read s.ps.cells a
      | .erasing r c _ | .writing r c _ => if a = r * 8 + c then 0 else Memory.read s.ps.cells a

/-- SOFT_RESET, due once the reply to RESET has been sent (R172; log entry 20): part time, pins, line rate and the
compressors' logs are kept; so are the store's words, but for a word in progress, which is left at 0 (R177); every working setting, the
three orders and the period code among them, is the one that the store then holds (R176); compressors are Off but for Tripped and
Lockout (R112); a heater with its run request on goes to After-run (log entry 29), and the pump runs on only for a purge (R126); the
load account starts afresh and within its bound (R91); nothing is in hand or being sent. A soft reset that is not due changes nothing
(log entry 2, the model's choice). -/
def Obligations.SoftReset : Prop :=
  ∀ s : State,
    (s.hlu.resetDue = false → exec .softReset s = .next s) ∧
    (s.hlu.resetDue = true → ∃ t, exec .softReset s = .next t ∧
      (t.partTime = s.partTime ∧ t.pins = s.pins ∧ t.freeCount = s.freeCount ∧ t.pending = s.pending ∧
        t.hlu.lineRate = s.hlu.lineRate) ∧
      (∀ w : Nat → Nat → Nat, w = (fun r c => (Memory.read t.ps.cells (r * 8 + c)).toNat) →
        settingsTaken w t ∧ orderTaken .saloon (w 7 4) t.ca.orders.saloon ∧ orderTaken .lower (w 7 5) t.ca.orders.lower ∧
          orderTaken .upper (w 7 6) t.ca.orders.upper) ∧
      (t.zc.shift = 0 ∧ t.zc.period = t.zc.pendingPeriod ∧ t.zc.periodTimer = some ((t.zc.pendingPeriod + 2) * 250)) ∧
      t.psc.power = (if s.pins.ignition then .run else .layover) ∧
      (∀ c, (t.ssu.get c).status = .held ∧ (t.ssu.get c).lastGood = none ∧ (t.ssu.get c).heldSince = some s.partTime) ∧
      (∀ z, (t.zone z).opMode = (if s.pins.ignition then opOfHost (t.zone z).hostMode else .standby) ∧
        (t.zone z).seats = 0 ∧ (t.zone z).trim = 0 ∧ (t.zone z).reqKind = .none) ∧
      (∀ i, (t.ca.entry i).wanted = 0 ∧ (t.ca.entry i).held = 0 ∧ (t.ca.entry i).masked = false) ∧
      (∀ c, (t.comp c).state = (if compCounted (s.comp c).state then .off else (s.comp c).state) ∧
        (t.comp c).stoppedSince = (if compCounted (s.comp c).state then s.partTime else (s.comp c).stoppedSince) ∧
        (t.comp c).startLog = (s.comp c).startLog ∧ (t.comp c).tripLog = (s.comp c).tripLog) ∧
      (t.hs.heater = (if runRequest s.hs then .afterRun else s.hs.heater) ∧
        t.hs.heaterSince = (if runRequest s.hs then s.partTime else s.hs.heaterSince) ∧ t.hs.latched = false ∧
        t.hs.relight = s.hs.relight ∧ t.hs.attempt = s.hs.attempt) ∧
      (t.hs.pump = true → s.hs.pump = true ∧ heaterCounted t.hs.heater = true) ∧
      (t.la.hostValue = none ∧ t.la.status = .fallback ∧ settled t = true) ∧
      (t.hlu.inHand = none ∧ t.hlu.resetDue = false ∧ t.hlu.sending = none ∧ t.hlu.framer = .hunt ∧
        hasFlag t.hlu.latched .power = true) ∧
      t.ps.state = .idle ∧
      ∀ a, Memory.read t.ps.cells a =
        match s.ps.state with
        | .idle => Memory.read s.ps.cells a
        | .erasing r c _ | .writing r c _ => if a = r * 8 + c then 0 else Memory.read s.ps.cells a)

/-! ## Queries -/

/-- QUERY ZONE, QUERY ARBITER, QUERY LOAD, QUERY PLANT, QUERY LOGS and QUERY EVENTS (R22, R65, R90, R110, R111, R169) are answered OK with
the fields of R180, byte by byte, and change no state beside the reply in hand: the zone record; entries, wait queue, orders and modes of
the arbiter; the load account with its shed entries; compressor records, values used, statuses and stretches of the plant; the ages of the
logs, 0 past their ends; the flag sets. Positions count from the byte after the status. An unknown zone id is answered BAD_VALUE. -/
def Obligations.QueriesAnswer : Prop :=
  ∀ s : State, readyForCommand s = true →
    ∀ two : Int → List Byte, two = (fun x => [BitVec.ofInt 8 (x / 256), BitVec.ofInt 8 x]) →
    ∀ four : Int → List Byte, four = (fun x =>
      [BitVec.ofInt 8 (x / 16777216), BitVec.ofInt 8 (x / 65536), BitVec.ofInt 8 (x / 256), BitVec.ofInt 8 x]) →
    ∀ tenths : Option Int → List Byte, tenths = (fun v => (v.map two).getD [0x80, 0x00]) →
    ∀ secs : Nat → List Byte, secs = (fun n => two (min n 65535 : Nat)) →
    ∀ bit : Bool → Nat → Nat, bit = (fun b w => if b then w else 0) →
    ∀ young : List Nat → List Nat, young = (fun l => l.filter (fun x => decide (s.partTime < x + 3600))) →
    (∀ b z, zoneOfCode b = some z → exec (.queryZone b) s = .next (withReply 0x84 0 (zoneRecordFields s z) s) ∧
      ∀ r, r = s.zone z → ∀ e, e = s.ca.entry (.zone z) → zoneRecordFields s z =
        [b, BitVec.ofNat 8 (codeOfHostMode r.hostMode + 4 * codeOfOpMode r.opMode + 32 * codeOfSensor r.sensor + bit e.masked 128)]
          ++ two r.setpoint ++ [BitVec.ofInt 8 r.trim, BitVec.ofInt 8 s.zc.shift] ++ two r.sEff ++ tenths r.tempUsed ++ four r.integ
          ++ two r.demand ++ [BitVec.ofNat 8 (64 * codeOfReqKind r.reqKind + 8 * r.wanted + e.held), BitVec.ofNat 8 r.seats]
          ++ two r.timer ++ [BitVec.ofNat 8 (codeOfCurve r.curve)]) ∧
    (∀ b : Byte, 5 < b.toNat → exec (.queryZone b) s = .next (withReply 0x84 4 [] s)) ∧
    (∃ fs, fs = arbiterFields s ∧ exec .queryArbiter s = .next (withReply 0x90 0 fs s) ∧ fs.length = 59 ∧
      (∀ (i : EntryId) (e : GrantEntry), e = s.ca.entry i →
        (fs.drop (6 * (match i with | .scc => 0 | .sch => 1 | .zone z => 2 + codeOfZone z))).take 6 =
          [BitVec.ofNat 8 (64 * codeOfReqKind e.kind + 8 * e.wanted + e.held),
            BitVec.ofNat 8 (bit e.masked 128 + (match e.since with | some x => x + s.ca.modes.hold - s.partTime | none => 0))]
          ++ four (e.since.getD 0 : Nat)) ∧
      (∀ code : Nat → Nat, code = (fun n => (s.ca.queue[n]?.map codeOfEntry).getD 15) →
        (fs.drop 48).take 4 = [0, 2, 4, 6].map (fun n => BitVec.ofNat 8 (16 * code n + code (n + 1)))) ∧
      (ordersLawful s.ca.orders → ∀ n l, (s.ca.orders.saloon ++ s.ca.orders.lower ++ s.ca.orders.upper)[n]? = some l →
        ((fs.getD 52 0).toNat * 65536 + (fs.getD 53 0).toNat * 256 + (fs.getD 54 0).toNat) / 8 ^ (7 - n) % 8 = codeOfLine l) ∧
      fs.drop 55 =
        [BitVec.ofNat 8 (codeOfPriority s.ca.modes.saloon + 2 * codeOfPriority s.ca.modes.lower
            + 4 * codeOfPriority s.ca.modes.upper + 8 * codeOfNesting s.ca.modes.nesting), BitVec.ofNat 8 s.ca.modes.hold,
          BitVec.ofNat 8 (16 * s.ca.coolCap + s.ca.free .cool), BitVec.ofNat 8 (16 * s.ca.heatCap + s.ca.free .heat)]) ∧
    (∃ fs, fs = loadFields s ∧ exec .queryLoad s = .next (withReply 0x92 0 fs s) ∧ fs.length = 58 ∧
      fs.take 24 =
        two (allowanceInForce s.la)
          ++ [BitVec.ofNat 8 (codeOfAllowanceStatus s.la.status + bit s.la.hostValue.isSome 4 + bit s.scm.active 8 + 16 * s.hs.band)]
          ++ two (s.la.hostValue.getD 0 : Nat) ++ secs (match s.la.lastRefresh with | some x => s.partTime - x | none => 0)
          ++ two s.la.fallback ++ two (committedLoad s) ++ two (floorLoad s)
          ++ two ((allowanceInForce s.la : Int) - committedLoad s)
          ++ [BitVec.ofNat 8 (bit (decide (0 < countedLoad s (.comp .a))) 1 + bit (decide (0 < countedLoad s (.comp .b))) 2
              + bit (decide (0 < countedLoad s .pump)) 4 + bit (decide (0 < countedLoad s .heater)) 8 + bit s.scm.active 16)]
          ++ Zone.all.map (fun z => BitVec.ofNat 8 (s.blower z).speed)
          ++ [BitVec.ofNat 8 (16 * s.ca.coolCap + s.ca.heatCap), BitVec.ofNat 8 s.la.stack.length] ∧
      (∀ n, n < 10 → (∀ e, s.la.stack[n]? = some e →
          (fs.drop (24 + 3 * n)).take 3 = BitVec.ofNat 8 (codeOfItem e.item) :: secs (s.partTime - e.time)) ∧
        (s.la.stack.length ≤ n → (fs.drop (24 + 3 * n)).take 3 = [0, 0, 0])) ∧
      fs.drop 54 = four s.partTime) ∧
    (∃ fs, fs = plantFields s ∧ exec .queryPlant s = .next (withReply 0x95 0 fs s) ∧ fs.length = 52 ∧
      (∀ (c : Comp) (r : CompRec), r = s.comp c → ∀ n, n = (match c with | .a => 0 | .b => 1) →
        (fs.drop (11 * n)).take 11 =
          [BitVec.ofNat 8 (codeOfCompState r.state + 8 * (if compCounted r.state then if r.throttle then 2 else 1 else 0)),
            BitVec.ofNat 8 (bit r.enable 1 + bit r.throttle 2 + bit (onStack s.la (.comp c)) 4 + bit r.episodeOpen 8
              + bit r.deferred 16)]
          ++ secs (s.partTime - r.stateSince)
          ++ [BitVec.ofNat 8 (match r.onSince with | some x => x + 180 - s.partTime | none => 0)]
          ++ two (r.stoppedSince + 300 - s.partTime : Nat)
          ++ two (if r.state = .tripped then r.stateSince + 600 - s.partTime else 0 : Nat)
          ++ [BitVec.ofNat 8 (16 * (young r.startLog).length + (young r.tripLog).length),
            BitVec.ofNat 8 (codeOfCondition r.reason)] ∧
        (fs.drop (22 + 6 * n)).take 6 =
          tenths (valueUsed (s.ssu.pressureHigh.get c)) ++ tenths (valueUsed (s.ssu.pressureLow.get c))
            ++ tenths (valueUsed (s.ssu.coil.get c)) ∧
        (fs.drop (34 + n)).take 1 =
          [BitVec.ofNat 8 (codeOfChannelStatus (s.ssu.pressureHigh.get c).status
            + 4 * codeOfChannelStatus (s.ssu.pressureLow.get c).status + 16 * codeOfChannelStatus (s.ssu.coil.get c).status)]) ∧
      (∀ age : Option Nat → Nat, age = (fun x => (x.map (fun y => s.partTime - y)).getD 0) → fs.drop 36 =
        [BitVec.ofNat 8 s.cs.wantedTotal,
            BitVec.ofNat 8 (s.ca.coolCap + bit s.cs.sccShort 16 + 32 * codeOfChannelStatus s.ssu.outdoor.status)]
          ++ two (outdoorUsed s) ++ secs (age s.cs.excess) ++ secs (age s.cs.surplus) ++ secs (age s.cs.idle)
          ++ [BitVec.ofNat 8 (bit s.hs.pump 1 + 2 * s.hs.band + 8 * codeOfHeaterState s.hs.heater),
            BitVec.ofNat 8 (s.hs.relight + bit s.hs.latched 2 + bit s.hs.permit 4 + bit s.hs.pumpDeferred 8
              + bit s.hs.heaterDeferred 16 + 32 * codeOfChannelStatus s.ssu.coolant.status)]
          ++ secs (s.partTime - s.hs.heaterSince) ++ tenths (valueUsed s.ssu.coolant))) ∧
    (∃ fs, fs = logFields s .a ++ logFields s .b ∧ exec .queryLogs s = .next (withReply 0xA8 0 fs s) ∧ fs.length = 38 ∧
      ∀ (c : Comp) (r : CompRec), r = s.comp c → ∀ n, n = (match c with | .a => 0 | .b => 19) →
        (fs.drop n).take 1 = [BitVec.ofNat 8 (16 * (young r.startLog).length + (young r.tripLog).length)] ∧
        (∀ m, m < 6 → (fs.drop (n + 1 + 2 * m)).take 2 =
          (match (young r.startLog)[m]? with | some x => two (s.partTime - x : Nat) | none => [0, 0])) ∧
        ∀ m, m < 3 → (fs.drop (n + 13 + 2 * m)).take 2 =
          (match (young r.tripLog)[m]? with | some x => two (s.partTime - x : Nat) | none => [0, 0])) ∧
    exec .queryEvents s =
      .next
        (withReply 0xA1 0
          ([highByte s.hlu.latched, lowByte s.hlu.latched, highByte s.hlu.enabled, lowByte s.hlu.enabled,
              highByte s.hlu.unreported, lowByte s.hlu.unreported, BitVec.ofNat 8 s.hlu.snapshotRate]
            ++ four s.partTime) s)

/-- IDENTIFY (R171): with no command in hand, the reply is OK with part code 0x2C80, revision 3, 6 zones and 128 store words, and no
state changes beside the reply in hand and the wake that the frame brings in Parked. -/
def Obligations.IdentifyAnswers : Prop :=
  ∀ s : State, s.hlu.inHand = none →
    exec .identify s = .next (withReply 0xA3 0 [0x2C, 0x80, 3, 6, 128] (wakeByFrame s)) ∧
      (s.psc.power ≠ .parked → wakeByFrame s = s)

/-! ## Settings -/

/-- HOME (R38): with no command in hand, the saloon shift becomes 0, nothing else changes, every trim included, beside the wake that
the frame brings in Parked, and the reply is OK with the shift of 0. -/
def Obligations.HomeClearsShift : Prop :=
  ∀ s : State, s.hlu.inHand = none →
    exec .home s =
      .next (withReply 0x8A 0 [0] ((wakeByFrame s).setZc { (wakeByFrame s).zc with shift := 0 }))

/-- TUNE, PERIOD and SHIFT (R21, R10, R37): each quantity is brought into its range and replied, CLAMPED where any was moved; only the named
settings change; the period in force waits for the next period. EVENT ENABLE, EVENT CLEAR, SNAPSHOT RATE and RESET (R169, R170, R172):
the enable set replaced and what left it unreported no more; named flags out of the latched and unreported sets; the rate clamped to
60, the count back to 0, and rate 0 withdrawing a waiting SNAPSHOT; RESET forms its reply and changes nothing else. An unknown SHIFT
direction and a flag set with bit 15 are BAD_VALUE. -/
def Obligations.SaloonAndLinkSettings : Prop :=
  (∀ s : State, readyForCommand s = true →
      (∀ kp ki db off : Byte, 
        ∃ p, p = max 1 (min 40 kp.toNat) ∧ ∃ i, i = min 32 ki.toNat ∧ ∃ d, d = min 10 db.toNat ∧
        ∃ o, o = max 10 (min 50 off.toNat) ∧
        exec (.tune kp ki db off) s =
          .next
            (withReply 0x82 (if p = kp.toNat ∧ i = ki.toNat ∧ d = db.toNat ∧ o = off.toNat then 0 else 1)
              [BitVec.ofNat 8 p, BitVec.ofNat 8 i, BitVec.ofNat 8 d, BitVec.ofNat 8 o]
              (s.setZc { s.zc with kp := p, ki := i, db := d, setbackOffset := o }))) ∧
      (∀ code : Byte,
        exec (.period code) s =
          .next
            (withReply 0x83 (if code.toNat ≤ 30 then 0 else 1)
              [BitVec.ofNat 8 (min code.toNat 30), BitVec.ofNat 8 s.zc.period]
              (s.setZc { s.zc with pendingPeriod := min code.toNat 30 }))) ∧
      (∀ up : Bool, ∃ g : Int, g = s.zc.shift + (if up then 5 else -5) ∧
        exec (.shift (if up then 1 else 0)) s =
          .next
            (withReply 0x89 (if -30 ≤ g ∧ g ≤ 30 then 0 else 1) [BitVec.ofInt 8 (max (-30) (min 30 g))]
              (s.setZc { s.zc with shift := max (-30) (min 30 g) }))) ∧
      (∀ d : Byte, 1 < d.toNat → exec (.shift d) s = .next (withReply 0x89 4 [] s))) ∧
  (∀ s : State, readyForCommand s = true →
      (∀ f : Half, f.getLsbD 15 = false →
        exec (.eventEnable f) s =
            .next
              (withReply 0x9F 0 [highByte f, lowByte f]
                (s.setHlu { s.hlu with enabled := f, unreported := s.hlu.unreported &&& f })) ∧
          exec (.eventClear f) s =
            .next
              (withReply 0xA0 0 [highByte (s.hlu.latched &&& ~~~f), lowByte (s.hlu.latched &&& ~~~f)]
                (s.setHlu
                  { s.hlu with latched := s.hlu.latched &&& ~~~f, unreported := s.hlu.unreported &&& ~~~f }))) ∧
      (∀ f : Half, f.getLsbD 15 = true →
        exec (.eventEnable f) s = .next (withReply 0x9F 4 [] s) ∧ exec (.eventClear f) s = .next (withReply 0xA0 4 [] s)) ∧
      (∀ r : Byte,
        exec (.snapshotRate r) s =
          .next
            (withReply 0xA2 (if r.toNat ≤ 60 then 0 else 1) [BitVec.ofNat 8 (min r.toNat 60)]
              (s.setHlu
                { s.hlu with
                  snapshotRate := min r.toNat 60
                  snapshotCount := 0
                  snapshotWaiting := if r.toNat = 0 then false else s.hlu.snapshotWaiting }))) ∧
      exec .reset s = .next (withReply 0xA4 0 [] s))

/-- ZONE TIMERS, ZONE CURVE and COMP ENABLE (R36, R132, R107): the named settings are replaced, quantities clamped; a held timer takes
the new length of its mode and a running one is cut down to it; nothing else changes; a name that is invalid is BAD_VALUE. -/
def Obligations.ZoneAndPlantSettings : Prop :=
  ∀ s : State, readyForCommand s = true →
    (∀ (b sb st m : Byte) (z : Zone), zoneOfCode b = some z → m.toNat < 16 →
      ∃ x, x = max 1 (min 60 sb.toNat) ∧ ∃ y, y = max 1 (min 240 st.toNat) ∧
        ∃ r', r' =
          { s.zone z with
            setbackMin := x
            standbyMin := y
            mask := ⟨m.getLsbD 0, m.getLsbD 1, m.getLsbD 2, m.getLsbD 3⟩
            timer :=
              match (s.zone z).opMode with
              | .standby => (s.zone z).timer
              | .off | .vent => x * 60
              | .auto =>
                if (s.zone z).seats = 0 ∧ s.psc.precondition = false then min (s.zone z).timer (x * 60) else x * 60
              | .setback => if (s.zone z).seats = 0 then min (s.zone z).timer (y * 60) else y * 60 } ∧
        exec (.zoneTimers b sb st m) s =
          .next
            (withReply 0x88 (if x = sb.toNat ∧ y = st.toNat then 0 else 1) [b, BitVec.ofNat 8 x, BitVec.ofNat 8 y, m]
              (s.setZone z r'))) ∧
    (∀ b sb st m : Byte, 5 < b.toNat ∨ 15 < m.toNat → exec (.zoneTimers b sb st m) s = .next (withReply 0x88 4 [] s)) ∧
    (∀ (b k : Byte) (c : CurveCode) (z : Zone), zoneOfCode b = some z → codeOfCurve c = k.toNat →
      exec (.zoneCurve b k) s = .next (withReply 0x9A 0 [b, k] (s.setZone z { s.zone z with curve := c }))) ∧
    (∀ b k : Byte, 5 < b.toNat ∨ k.toNat = 6 ∨ k.toNat = 7 ∨ 11 < k.toNat →
      exec (.zoneCurve b k) s = .next (withReply 0x9A 4 [] s)) ∧
    (∀ e : Byte, e.toNat < 4 →
      exec (.compEnable e) s =
        .next
          (withReply 0x93 0 [e]
            ((s.setComp .a { s.comp .a with enable := e.getLsbD 0 }).setComp .b
              { s.comp .b with enable := e.getLsbD 1 }))) ∧
    (∀ e : Byte, 3 < e.toNat → exec (.compEnable e) s = .next (withReply 0x93 4 [] s))

/-! ## The Zone Controller's commands -/

/-- ZONE SET (R20) in Run and Layover: the setpoint clamped and stepped down, the host mode recorded and brought into the operating
mode with a fresh timer, I, D and request withdrawn where the mode becomes Off or Vent or leaves them for Auto (R19), the trim as it
stands, a nudge made in Standby among them (R31; log entry 17, the model's reading of R20), other zones' records untouched. In Winding-down, while
plant is still to stop, the two settings alone are recorded (log entry 18). An unknown zone id or host mode is BAD_VALUE. -/
def Obligations.ZoneSetActs : Prop :=
  ∀ (b m : Byte) (sp : Half) (s : State), readyForCommand s = true →
    (∀ z, zoneOfCode b = some z → ∀ hm, hostModeOfCode m.toNat = some hm → ∀ x, x = (max 170 (min 280 sp.toInt)) / 5 * 5 →
      ∀ st, st = (if x = sp.toInt then (0 : Byte) else 1) →
      (inUse s.psc.power = true → ∃ t, exec (.zoneSet b m sp) s = .next t ∧
        replied 0x81 st [b, m, highByte (BitVec.ofInt 16 x), lowByte (BitVec.ofInt 16 x)] t ∧
        ZonesOnly s (withoutReply t) ∧ (∀ y, y ≠ z → t.zone y = s.zone y) ∧
        t.zone z =
          (let r := s.zone z
          let base : ZoneRec :=
            { r with
              hostMode := hm
              setpoint := x
              opMode := opOfHost hm
              timer := r.setbackMin * 60 }
          if (hm = .auto ∧ (r.opMode = .off ∨ r.opMode = .vent)) ∨ (hm ≠ .auto ∧ r.opMode ≠ opOfHost hm) then
            { base with integ := 0, demand := 0, reqKind := .none, wanted := 0 }
          else base)) ∧
      (s.psc.power = .windingDown → settled s = true → reportStopped s ≠ ⟨true, true, true⟩ →
        ∃ t, exec (.zoneSet b m sp) s = .next t ∧ (∀ y, y ≠ z → t.zone y = s.zone y) ∧
          t.zone z = { s.zone z with hostMode := hm, setpoint := x })) ∧
    (5 < b.toNat ∨ 2 < m.toNat → exec (.zoneSet b m sp) s = .next (withReply 0x81 4 [] s))

/-- SEATS (R24, R25): each count clamped to its zone's capacity and recorded; in Run and Layover a zone whose count does not change is
untouched, and a changed one takes the SEAT event where its mask has it (R28), and otherwise only its timer is set to the mode's
length where the count rises from 0; in a quiet Winding-down the counts alone are recorded. -/
def Obligations.SeatsAct : Prop :=
  ∀ (n : PerZone Byte) (s : State),
    let k : Zone → Nat := fun z => min (n.get z).toNat (capacityOf z)
    ∀ st : Byte, st = (if Zone.all.all (fun z => decide ((n.get z).toNat ≤ capacityOf z)) then 0 else 1) →
    (windingDownQuietly s = true →
      exec (.seats n.e n.l1 n.l2 n.u1 n.u2 n.u3) s =
        .next
          (withReply 0x85 st (Zone.all.map (fun z => BitVec.ofNat 8 (k z)))
            (s.setZc { s.zc with zones := s.zc.zones.map (fun z r => { r with seats := k z }) }))) ∧
    (readyForCommand s = true → inUse s.psc.power = true →
      ∃ t, exec (.seats n.e n.l1 n.l2 n.u1 n.u2 n.u3) s = .next t ∧
        replied 0x85 st (Zone.all.map (fun z => BitVec.ofNat 8 (k z))) t ∧ ZonesOnly s (withoutReply t) ∧
        ∀ z, t.zone z =
          (let r := s.zone z
          if k z = r.seats then r
          else if r.mask.seat then { r with seats := k z, opMode := reloadedMode r, timer := reloadedTimer r }
          else
            { r with
              seats := k z
              timer :=
                if r.seats = 0 then
                  match r.opMode with
                  | .auto => r.setbackMin * 60
                  | .setback => r.standbyMin * 60
                  | .standby | .off | .vent => r.timer
                else r.timer }))

/-- NUDGE and TOUCH (R34, R35): the trim moves by 5 within ±10 and is replied, CLAMPED at an end; in Run and Layover the reload event acts
by R28 on each named zone whose mask has it, and no other zone changes; in a quiet Winding-down there is the trim alone; TOUCH replies
the zones named and those whose mask has it. An unknown zone or direction, an empty set and a set with an unused bit are BAD_VALUE. -/
def Obligations.NudgeAndTouchAct : Prop :=
  ∀ s : State, readyForCommand s = true →
    (windingDownQuietly s = true →
      (∀ (b : Byte) (up : Bool) (z : Zone), zoneOfCode b = some z → ∃ g, g = (s.zone z).trim + (if up then 5 else -5) ∧
        exec (.nudge b (if up then 1 else 0)) s =
          .next
            (withReply 0x86 (if -10 ≤ g ∧ g ≤ 10 then 0 else 1) [b, BitVec.ofInt 8 (max (-10) (min 10 g))]
              (s.setZone z { s.zone z with trim := max (-10) (min 10 g) }))) ∧
      ∀ zs : Byte, zs ≠ 0 → zs.toNat < 64 → ∃ reached : Byte,
        (∀ z, reached.getLsbD (codeOfZone z) = (zs.getLsbD (codeOfZone z) && (s.zone z).mask.touch)) ∧
        exec (.touch zs) s = .next (withReply 0x87 0 [zs, reached] s)) ∧
    (inUse s.psc.power = true → ∀ (b : Byte) (up : Bool) (z : Zone), zoneOfCode b = some z →
      ∃ g, g = (s.zone z).trim + (if up then 5 else -5) ∧ ∃ t,
        exec (.nudge b (if up then 1 else 0)) s = .next t ∧
        replied 0x86 (if -10 ≤ g ∧ g ≤ 10 then 0 else 1) [b, BitVec.ofInt 8 (max (-10) (min 10 g))] t ∧
        ZonesOnly s (withoutReply t) ∧ (∀ y, y ≠ z → t.zone y = s.zone y) ∧
        t.zone z =
          (let r := { s.zone z with trim := max (-10) (min 10 g) }
          if r.mask.nudge then { r with opMode := reloadedMode r, timer := reloadedTimer r } else r)) ∧
    (∀ b d : Byte, 5 < b.toNat ∨ 1 < d.toNat → exec (.nudge b d) s = .next (withReply 0x86 4 [] s)) ∧
    (inUse s.psc.power = true → ∀ zs : Byte, zs ≠ 0 → zs.toNat < 64 → ∃ t, exec (.touch zs) s = .next t ∧
      (∃ reached : Byte, replied 0x87 0 [zs, reached] t ∧
        ∀ z, reached.getLsbD (codeOfZone z) = (zs.getLsbD (codeOfZone z) && (s.zone z).mask.touch)) ∧
      ZonesOnly s (withoutReply t) ∧
      ∀ z, t.zone z =
        (let r := s.zone z
        if zs.getLsbD (codeOfZone z) ∧ r.mask.touch then { r with opMode := reloadedMode r, timer := reloadedTimer r }
        else r)) ∧
    (∀ zs : Byte, zs = 0 ∨ 63 < zs.toNat → exec (.touch zs) s = .next (withReply 0x87 4 [] s))

/-! ## The Capacity Arbiter's commands -/

/-- ARB MODE (R61), ARB ORDER (R62) and ROTATE (R63) in Run, Layover and Winding-down: the modes replaced, the hold time clamped; an order
replaced, or turned so that the named line is last, standing as put while no priority mode is Rotating; no request or mask changes, while
the command does not end a wind-down. Unknown modes, arbiters and lines, and lists that are no permutation, are BAD_VALUE. The reply
carries the order as applied (log entry 35). -/
def Obligations.ArbiterSettings : Prop :=
  ∀ s : State, readyForCommand s = true →
    (∀ a b c d h : Byte, a.toNat ≤ 1 → b.toNat ≤ 1 → c.toNat ≤ 1 → d.toNat ≤ 2 →
      ∃ k, k = max 10 (min 120 h.toNat) ∧ ∃ t, exec (.arbMode a b c d h) s = .next t ∧
        replied 0x8B (if k = h.toNat then 0 else 1) [a, b, c, d, BitVec.ofNat 8 k] t ∧
        PlantStep s (withoutReply t) ∧
        (codeOfPriority t.ca.modes.saloon = a.toNat ∧ codeOfPriority t.ca.modes.lower = b.toNat ∧
          codeOfPriority t.ca.modes.upper = c.toNat ∧ codeOfNesting t.ca.modes.nesting = d.toNat ∧ t.ca.modes.hold = k) ∧
        (t.psc.power = s.psc.power → requestsKept s t)) ∧
    (∀ a b c d h : Byte, 1 < a.toNat ∨ 1 < b.toNat ∨ 1 < c.toNat ∨ 2 < d.toNat →
      exec (.arbMode a b c d h) s = .next (withReply 0x8B 4 [] s)) ∧
    (∀ (b : Byte) (a : ArbiterId) (codes : List Byte) (ls : List Line), arbiterOfCode b = some a →
      codes = ls.map (fun l => BitVec.ofNat 8 (codeOfLine l)) → ls.Perm (arbiterLines a) →
      ∃ t, exec (.arbOrder b codes) s = .next t ∧ replied 0x8C 0 (b :: codes) t ∧ PlantStep s (withoutReply t) ∧ (t.psc.power = s.psc.power → requestsKept s t) ∧
        (s.ca.modes.saloon = .fixed ∧ s.ca.modes.lower = .fixed ∧ s.ca.modes.upper = .fixed →
          t.ca.orders = s.ca.orders.set a ls)) ∧
    (∀ (b : Byte) (codes : List Byte), (codes.length = 2 ∨ codes.length = 3) →
      (∀ (a : ArbiterId) (ls : List Line), arbiterOfCode b = some a → codes = ls.map (fun l => BitVec.ofNat 8 (codeOfLine l)) →
        ¬ls.Perm (arbiterLines a)) →
      exec (.arbOrder b codes) s = .next (withReply 0x8C 4 [] s)) ∧
    (∀ (b x : Byte) (a : ArbiterId) (l : Line) (pre post : List Line), arbiterOfCode b = some a →
      lineOfCode x.toNat = some l → l ∈ arbiterLines a → s.ca.orders.get a = pre ++ l :: post → l ∉ pre →
      ∃ t, exec (.rotate b x) s = .next t ∧
        replied 0x8D 0 (b :: (post ++ pre ++ [l]).map (fun y => BitVec.ofNat 8 (codeOfLine y))) t ∧
        PlantStep s (withoutReply t) ∧ (t.psc.power = s.psc.power → requestsKept s t) ∧
        (s.ca.modes.saloon = .fixed ∧ s.ca.modes.lower = .fixed ∧ s.ca.modes.upper = .fixed →
          t.ca.orders = s.ca.orders.set a (post ++ pre ++ [l]))) ∧
    (∀ b x : Byte, (∀ a l, arbiterOfCode b = some a → lineOfCode x.toNat = some l → l ∉ arbiterLines a) →
      exec (.rotate b x) s = .next (withReply 0x8D 4 [] s))

/-- MASK and RELEASE (R59, R64) in Run, Layover and Winding-down: the mask set replaced, no request changed and no masked zone gaining; a
released zone's I, D and request withdrawn and its entry emptied, its mode, timer and mask kept, the reply telling the kind and
tokens it had. Zones and requests are told while the command does not end a wind-down. A set with an unused bit and an unknown zone id
are BAD_VALUE. -/
def Obligations.MaskAndReleaseAct : Prop :=
  ∀ s : State, readyForCommand s = true →
    (∀ zs : Byte, zs.toNat < 64 → ∃ t, exec (.mask zs) s = .next t ∧ replied 0x8E 0 [zs] t ∧
      PlantStep s (withoutReply t) ∧
      ∀ z, (t.ca.entry (.zone z)).masked = zs.getLsbD (codeOfZone z) ∧
        (zs.getLsbD (codeOfZone z) = true → (t.ca.entry (.zone z)).held ≤ (s.ca.entry (.zone z)).held) ∧
        (t.psc.power = s.psc.power →
          (t.ca.entry (.zone z)).kind = (s.ca.entry (.zone z)).kind ∧
            (t.ca.entry (.zone z)).wanted = (s.ca.entry (.zone z)).wanted)) ∧
    (∀ zs : Byte, 63 < zs.toNat → exec (.mask zs) s = .next (withReply 0x8E 4 [] s)) ∧
    (∀ (b : Byte) (z : Zone), zoneOfCode b = some z → tableLawful s.ca → queueLawful s.ca →
      ∃ t, exec (.release b) s = .next t ∧
        replied 0x8F 0
          [b, BitVec.ofNat 8 (codeOfReqKind (s.ca.entry (.zone z)).kind), BitVec.ofNat 8 (s.ca.entry (.zone z)).held] t ∧
        OutsideKept s (withoutReply t) ∧ (inUse s.psc.power = true → ZonesOnly s (withoutReply t)) ∧
        (t.psc.power = s.psc.power → (∀ y, y ≠ z → t.zone y = s.zone y) ∧ t.scm = s.scm ∧
          t.zone z = { s.zone z with integ := 0, demand := 0, reqKind := .none, wanted := 0 }) ∧
        ((t.ca.entry (.zone z)).kind = .none ∧ (t.ca.entry (.zone z)).wanted = 0 ∧ (t.ca.entry (.zone z)).held = 0 ∧
          (t.ca.entry (.zone z)).since = none ∧ (t.ca.entry (.zone z)).masked = (s.ca.entry (.zone z)).masked ∧
          EntryId.zone z ∉ t.ca.queue)) ∧
    (∀ b : Byte, 5 < b.toNat → exec (.release b) s = .next (withReply 0x8F 4 [] s))

/-! ## Allowance, lockouts and permit -/

/-- ALLOWANCE (R77) in Run, Layover and Winding-down, STALENESS and FALLBACK (R76) in every power state: the value clamped to 15,000 W and stepped down to 50 W becomes the host
value, refreshed now and Fresh; Fresh becomes Stale from last refresh + 6 on, and Stale becomes Fallback from last refresh + 31 on,
each setting ALLOWANCE; only arbiter, loads, plant and air may follow, and when the allowance in force does not fall nothing else
moves but entries popped from the top of the stack. An expiry that is not due changes nothing (log entry 2, the model's choice). -/
def Obligations.AllowanceActs : Prop :=
  (∀ (w : Half) (s : State), readyForCommand s = true →
      ∃ x, x = min w.toNat 15000 / 50 * 50 ∧ ∃ t, exec (.allowance w) s = .next t ∧
        replied 0x91 (if x = w.toNat then 0 else 1) [highByte (BitVec.ofNat 16 x), lowByte (BitVec.ofNat 16 x)] t ∧
        PlantStep s (withoutReply t) ∧
        (t.la.hostValue = some x ∧ t.la.lastRefresh = some s.partTime ∧ t.la.status = .fresh ∧
          t.la.fallback = s.la.fallback) ∧
        (allowanceInForce s.la ≤ x →
          t.ca = s.ca ∧ t.cs = s.cs ∧ t.hs = s.hs ∧ t.apc = s.apc ∧ t.la.stack <:+ s.la.stack ∧
            (x = allowanceInForce s.la → t.la.stack = s.la.stack))) ∧
  (∀ s : State,
      (∀ r, s.la.lastRefresh = some r → s.la.status = .fresh → r + 6 ≤ s.partTime →
        exec .staleness s = .next (raise .allowance (s.setLa { s.la with status := .stale }))) ∧
      ((s.la.status ≠ .fresh ∨ s.la.lastRefresh = none ∨ ∃ r, s.la.lastRefresh = some r ∧ s.partTime < r + 6) →
        exec .staleness s = .next s) ∧
      (∀ r, s.la.lastRefresh = some r → s.la.status = .stale → r + 31 ≤ s.partTime →
        ∃ t, exec .fallback s = .next t ∧ PlantStep s t ∧ hasFlag t.hlu.latched .allowance = true ∧
          (t.la.status = .fallback ∧ t.la.hostValue = s.la.hostValue ∧ t.la.lastRefresh = some r ∧
            t.la.fallback = s.la.fallback) ∧
          (allowanceInForce s.la ≤ s.la.fallback →
            t.ca = s.ca ∧ t.cs = s.cs ∧ t.hs = s.hs ∧ t.apc = s.apc ∧ t.la.stack <:+ s.la.stack)) ∧
      ((s.la.status ≠ .stale ∨ s.la.lastRefresh = none ∨ ∃ r, s.la.lastRefresh = some r ∧ s.partTime < r + 31) →
        exec .fallback s = .next s))

/-- CLEAR LOCKOUT (R108, R123) and FUEL PERMIT (R124), in Run and Layover with nothing to shed and in a quiet Winding-down: a compressor in Lockout goes to Off with
its trip log emptied and its stopped-since kept, a heater in Lockout to Off with its counts renewed, any other state stays; the
permit is replaced, and turning it off is a stop request (R122). Only the named record changes. Unknown targets and permits are
BAD_VALUE. -/
def Obligations.LockoutAndPermit : Prop :=
  ∀ s : State, readyAndSettled s = true ∨ windingDownQuietly s = true →
    (∀ c : Comp, ∃ r',
      r' =
        (if (s.comp c).state = .lockout then { s.comp c with state := .off, stateSince := s.partTime, tripLog := [] }
        else s.comp c) ∧
      exec (.clearLockout (match c with | .a => 0 | .b => 1)) s =
        .next
          (withReply 0x94 0 [(match c with | .a => 0 | .b => 1), BitVec.ofNat 8 (codeOfCompState r'.state)]
            (s.setComp c r'))) ∧
    (∃ h',
      h' =
        (if s.hs.heater = .lockout then
          { s.hs with heater := .off, heaterSince := s.partTime, relight := 0, attempt := 1, latched := false }
        else s.hs) ∧
      exec (.clearLockout 2) s =
        .next (withReply 0x94 0 [2, BitVec.ofNat 8 (codeOfHeaterState h'.heater)] (s.setHs h'))) ∧
    (∀ b : Byte, 2 < b.toNat → exec (.clearLockout b) s = .next (withReply 0x94 4 [] s)) ∧
    exec (.fuelPermit 1) s = .next (withReply 0x96 0 [1] (s.setHs { s.hs with permit := true })) ∧
    exec (.fuelPermit 0) s =
      .next
        (withReply 0x96 0 [0]
          (s.setHs
            (if s.hs.permit = false then s.hs
            else
              match s.hs.heater with
              | .ignition | .burning =>
                { s.hs with
                  permit := false
                  heater := .afterRun
                  heaterSince := s.partTime
                  cause := some .stop
                  latched := false }
              | .afterRun => { s.hs with permit := false, cause := some .stop, latched := false }
              | .retryPurge => { s.hs with permit := false, latched := false }
              | .off | .lockout => { s.hs with permit := false }))) ∧
    (∀ b : Byte, 1 < b.toNat → exec (.fuelPermit b) s = .next (withReply 0x96 4 [] s))

/-! ## The Air Path Controller's commands -/

/-- CURVE POINTER (R129): with no command in hand, an address of 0 to 53 with a known direction and scope replaces the pointer, and the
reply is OK with the new pointer; anything else is BAD_VALUE and leaves the pointer in all three parts. No point is read or
written. A frame in Parked wakes the part first. -/
def Obligations.CurvePointerSet : Prop :=
  ∀ (a d c : Byte) (s : State), s.hlu.inHand = none →
    exec (.curvePointer a d c) s =
      if a.toNat ≤ 53 ∧ d.toNat ≤ 1 ∧ c.toNat ≤ 1 then
        .next
          (withReply 0x97 0 [a, d, c]
            ((wakeByFrame s).setApc
              { (wakeByFrame s).apc with
                pointer :=
                  ⟨a.toNat, if d.toNat = 0 then .increment else .decrement, if c.toNat = 0 then .curve else .table⟩ }))
      else .next (withReply 0x97 4 [] (wakeByFrame s))

/-- CURVE WRITE (R130): one to nine values are written one after another where the pointer stands, each brought to 100, the pointer moving
after each; the points at the addresses it passed hold the values, every other point and everything else is as it was; CLAMPED
where a value was above 100. No value, or more than nine, is BAD_LENGTH. The pointer moves (R128) in Curve scope within the nine
addresses of its curve, in Table scope round all 54, up or down by its direction, which it keeps with its scope; nine moves in Curve
scope, and 54 in Table scope, bring it back. -/
def Obligations.CurveWriteWrites : Prop :=
  (∀ p : CurvePtr, p.address ≤ 53 →
    ((movePointer p).direction = p.direction ∧ (movePointer p).scope = p.scope) ∧
    (∀ c k, p.address = 9 * c + k → k ≤ 8 → p.scope = .curve → p.direction = .increment →
      (movePointer p).address = 9 * c + (k + 1) % 9) ∧
    (∀ c k, p.address = 9 * c + k → k ≤ 8 → p.scope = .curve → p.direction = .decrement →
      (movePointer p).address = 9 * c + (k + 8) % 9) ∧
    (p.scope = .table → p.direction = .increment → (movePointer p).address = (p.address + 1) % 54) ∧
    (p.scope = .table → p.direction = .decrement → (movePointer p).address = (p.address + 53) % 54) ∧
    (p.scope = .curve → movePointer^[9] p = p) ∧ movePointer^[54] p = p) ∧
  ∀ (vs : List Byte) (s : State), readyForCommand s = true →
    (1 ≤ vs.length → vs.length ≤ 9 → s.apc.pointer.address ≤ 53 → s.apc.curveTable.length = 54 →
      ∃ p, p = movePointer^[vs.length] s.apc.pointer ∧ ∃ t, exec (.curveWrite vs) s = .next t ∧
        ∃ tab, tab = t.apc.curveTable ∧
        t =
          withReply 0x98 (if vs.all (fun v => decide (v.toNat ≤ 100)) then 0 else 1)
            [BitVec.ofNat 8 vs.length, BitVec.ofNat 8 p.address, BitVec.ofNat 8 (codeOfPointerDir p.direction),
              BitVec.ofNat 8 (codeOfPointerScope p.scope)]
            (s.setApc { s.apc with curveTable := tab, pointer := p }) ∧
        tab.length = 54 ∧
        (∀ i, i < vs.length →
          tab[(movePointer^[i] s.apc.pointer).address]? = vs[i]?.map (fun v => min v.toNat 100)) ∧
        ∀ a, (∀ i, i < vs.length → (movePointer^[i] s.apc.pointer).address ≠ a) → tab[a]? = s.apc.curveTable[a]?) ∧
    (vs.length = 0 ∨ 9 < vs.length → exec (.curveWrite vs) s = .next (withReply 0x98 3 [] s))

/-- CURVE READ (R131): with no command in hand, a count brought to 1 to 9 reads that many points, each where the pointer stands and the
pointer moving after each; the reply carries them and the pointer after the last move, CLAMPED where the count was brought into
range. No point changes. A frame in Parked wakes the part first. -/
def Obligations.CurveReadReads : Prop :=
  ∀ (b : Byte) (s : State), s.hlu.inHand = none →
    ∃ n, n = max 1 (min 9 b.toNat) ∧ ∃ w, w = wakeByFrame s ∧ ∃ p, p = movePointer^[n] w.apc.pointer ∧
      exec (.curveRead b) s =
        .next
          (withReply 0x99 (if n = b.toNat then 0 else 1)
            ((List.range n).map
                (fun i => BitVec.ofNat 8 (w.apc.curveTable.getD (movePointer^[i] w.apc.pointer).address 0))
              ++ [BitVec.ofNat 8 p.address, BitVec.ofNat 8 (codeOfPointerDir p.direction),
                BitVec.ofNat 8 (codeOfPointerScope p.scope)])
            (w.setApc { w.apc with pointer := p }))

/-- A blower computation (R133 to R135): the target is 0% in Off and Standby, the vent minimum in Vent and with no token held, and otherwise
the curve speed, worked out between the points of the zone's curve (R127), or the vent minimum if that is higher; on the shed stack it is
at most the vent minimum; a lower target is taken at once with a restore attempt, a higher one at the speed granted (R82), an equal one
changes nothing. VENT LIMITS (R140) in Run, Layover and Winding-down: both limits clamped, put in force and replied; unchanged limits
change nothing; a changed vent minimum leaves every blower in service that the ZC has handed a mode at or above it, while the command does
not end a wind-down; a changed fresh minimum works both dampers out by the damper step without its move (R136), and in Winding-down sets
both to it (R142). -/
def Obligations.VentLimitsAct : Prop :=
  (∀ (s : State) (z : Zone) (b : BlowerRec), b = s.blower z →
    (b.mode = none → computeBlower z s = s) ∧
    ∀ m, b.mode = some m →
      ∀ p : Nat → Nat, p = (fun k =>
        match (s.zone z).curve with
        | .user u => s.apc.curveTable.getD (9 * u.val + k) 0
        | .linear => [0, 13, 25, 38, 50, 63, 75, 88, 100].getD k 0
        | .quiet => [0, 10, 20, 30, 40, 50, 55, 60, 65].getD k 0
        | .fastRise => [0, 25, 45, 60, 72, 82, 90, 96, 100].getD k 0
        | .constant => 60) →
      ∀ x, x = min b.demand (250 * b.held) → ∀ k, k = x / 125 →
      ∀ speed : Int, speed = (if 8 ≤ k then (p 8 : Int) else p k + (((p (k + 1) : Int) - p k) * (x - 125 * k)).tdiv 125) →
      ∀ plain, plain =
        (match m with
        | .off | .standby => 0
        | .vent => s.apc.ventMin
        | .auto | .setback => if b.held = 0 then s.apc.ventMin else max speed.toNat s.apc.ventMin) →
      ∀ target, target = (if onStack s.la (.blower z) then min plain s.apc.ventMin else plain) →
        (target < b.speed → computeBlower z s = restoreAttempt (s.setBlower z { b with speed := target })) ∧
        (target = b.speed → computeBlower z s = s) ∧
        (b.speed < target → computeBlower z s = s.setBlower z { b with speed := grantedSpeed s z b.speed target })) ∧
  ∀ (v f : Byte) (s : State), readyForCommand s = true →
    ∃ x, x = max 10 (min 60 v.toNat) ∧ ∃ y, y = min 100 f.toNat ∧ ∃ t, exec (.ventLimits v f) s = .next t ∧
      replied 0x9B (if x = v.toNat ∧ y = f.toNat then 0 else 1) [BitVec.ofNat 8 x, BitVec.ofNat 8 y] t ∧
      PlantStep s (withoutReply t) ∧ (t.apc.ventMin = x ∧ t.apc.freshMin = y) ∧
      (t.apc.curveTable = s.apc.curveTable ∧ t.apc.pointer = s.apc.pointer) ∧
      (x ≠ s.apc.ventMin → t.psc.power = s.psc.power →
        ∀ z m, (s.blower z).mode = some m → inService m = true → x ≤ (t.blower z).speed) ∧
      (∀ pos : ChannelRec → Nat → Nat, pos = (fun ch p =>
            match valueUsed ch with
            | none => max 30 y
            | some ppm =>
              let top := if (outdoorUsed s < -100 ∨ 380 < outdoorUsed s) ∧ ppm ≤ 1500 then 40 else 100
              if p < y then y else min p (max top y)) →
        y ≠ s.apc.freshMin →
        t.apc.damperLower = (if s.psc.power = .windingDown then y else pos s.ssu.co2Lower s.apc.damperLower) ∧
        t.apc.damperUpper =
          (if s.psc.power = .windingDown then y
          else if s.scm.active then max 50 (pos s.ssu.co2Upper s.apc.damperUpper)
          else pos s.ssu.co2Upper s.apc.damperUpper)) ∧
      (y = s.apc.freshMin → t.apc.damperLower = s.apc.damperLower ∧ t.apc.damperUpper = s.apc.damperUpper) ∧
      (x = s.apc.ventMin → y = s.apc.freshMin → readyAndSettled s = true ∨ windingDownQuietly s = true → withoutReply t = s)

/-! ## Screen clear and power states -/

/-- SCREEN (R149): on in Run or Layover with screen clear inactive asserts it at once (R147); on while active, off and unchanged act on
the host request alone; the reply carries the monitor after the command, by the bytes of R179 (an absent active-since as 0, an absent
margin as 0x8000); another value is BAD_VALUE. -/
def Obligations.ScreenActs : Prop :=
  (∀ (s : State) (m : ScreenMonitor), m = s.scm → ∀ since : Nat, since = m.activeSince.getD 0 →
    screenFields s =
      [BitVec.ofNat 8 ((if m.active then 1 else 0) + (if m.hostRequest then 2 else 0) + (if m.detection then 4 else 0)
          + (if m.margin = none then 0 else 8)),
        BitVec.ofNat 8 (since / 16777216), BitVec.ofNat 8 (since / 65536), BitVec.ofNat 8 (since / 256), BitVec.ofNat 8 since]
      ++ (match m.margin with
        | some v => [BitVec.ofInt 8 (v / 256), BitVec.ofInt 8 v]
        | none => [0x80, 0x00])
      ++ [BitVec.ofNat 8 m.fog, BitVec.ofNat 8 (if m.activeSince = none then 0 else since + 120 - s.partTime)]) ∧
  ∀ s : State, readyForCommand s = true →
    (inUse s.psc.power = true → s.scm.active = false → ∃ t, exec (.screen 1) s = .next t ∧
      replied 0x9C 0 (screenFields t) t ∧ OutsideKept s (withoutReply t) ∧ t.zc = s.zc ∧ t.psc = s.psc ∧
      t.scm = { s.scm with active := true, activeSince := some s.partTime, hostRequest := true, fog := 0 } ∧
      hasFlag t.hlu.latched .screen = true ∧ (t.ca.entry .scc).wanted = 2 ∧ (t.ca.entry .sch).wanted = 2 ∧
      50 ≤ t.apc.damperUpper) ∧
    (∀ w, w = s.setScm { s.scm with hostRequest := true } → (inUse s.psc.power = false ∨ s.scm.active = true) →
      exec (.screen 1) s = .next (withReply 0x9C 0 (screenFields w) w)) ∧
    (∀ w, w = s.setScm { s.scm with hostRequest := false } →
      exec (.screen 2) s = .next (withReply 0x9C 0 (screenFields w) w)) ∧
    exec (.screen 0) s = .next (withReply 0x9C 0 (screenFields s) s) ∧
    (∀ b : Byte, 2 < b.toNat → exec (.screen b) s = .next (withReply 0x9C 4 [] s))

/-- PARK (R156 to R158): NOT_NOW in Run or with IGNITION on; in Winding-down answered with that state and nothing else; in Layover with
IGNITION off and no precondition, wind-down begins: every zone is in Standby with its request withdrawn, screen clear released, no
compressor is in Starting or Running, the heater's run request is off, both dampers stand at the fresh minimum, POWER is set, and the
part is in Winding-down, or in Parked where all plant has stopped (from lawful loads, exactly there). With the precondition flag set the
plant winds down in the same way, and where all of it has stopped the part is in Layover again, its zones of host mode Auto in Auto. -/
def Obligations.ParkActs : Prop :=
  ∀ s : State, readyForCommand s = true →
    (s.psc.power = .run ∨ s.pins.ignition = true → exec .park s = .next (withReply 0x9D 6 [] s)) ∧
    (s.psc.power = .windingDown → s.pins.ignition = false → exec .park s = .next (withReply 0x9D 0 [2] s)) ∧
    (s.psc.power = .layover → s.pins.ignition = false → s.psc.precondition = false →
      ∃ t, exec .park s = .next t ∧ replied 0x9D 0 [BitVec.ofNat 8 (codeOfPower t.psc.power)] t ∧
        OutsideKept s (withoutReply t) ∧ hasFlag t.hlu.latched .power = true ∧
        (t.psc.power = .windingDown ∨ t.psc.power = .parked) ∧
        (t.psc.power = .parked → csStopped t = true ∧ hsStopped t = true) ∧
        (loadLawful s → csStopped t = true → hsStopped t = true → t.psc.power = .parked) ∧
        (∀ z, (t.zone z).opMode = .standby ∧ (t.zone z).hostMode = (s.zone z).hostMode ∧
          (t.zone z).seats = (s.zone z).seats ∧
          ((s.zone z).opMode ≠ .standby →
            (t.zone z).trim = 0 ∧ (t.zone z).timer = 0 ∧ (t.zone z).integ = 0 ∧ (t.zone z).demand = 0 ∧
              (t.zone z).reqKind = .none ∧ (t.zone z).wanted = 0)) ∧
        (∀ c, (t.comp c).state ≠ .starting ∧ (t.comp c).state ≠ .running) ∧ runRequest t.hs = false ∧
        (t.scm.active = false ∧ t.scm.fog = 0 ∧ t.scm.hostRequest = s.scm.hostRequest) ∧
        t.apc.damperLower = s.apc.freshMin ∧ t.apc.damperUpper = s.apc.freshMin) ∧
    (s.psc.power = .layover → s.pins.ignition = false → s.psc.precondition = true →
      ∃ t, exec .park s = .next t ∧ replied 0x9D 0 [BitVec.ofNat 8 (codeOfPower t.psc.power)] t ∧
        OutsideKept s (withoutReply t) ∧ hasFlag t.hlu.latched .power = true ∧
        (t.psc.power = .windingDown ∨ t.psc.power = .layover) ∧ t.psc.precondition = true ∧
        (t.psc.power = .layover → csStopped t = true ∧ hsStopped t = true ∧
          ∀ z, (s.zone z).hostMode = .auto → (t.zone z).opMode = .auto) ∧
        (loadLawful s → csStopped t = true → hsStopped t = true → t.psc.power = .layover) ∧
        (∀ c, (t.comp c).state ≠ .starting ∧ (t.comp c).state ≠ .running) ∧ runRequest t.hs = false ∧ t.scm.active = false)

/-- DEPART (R161), LEAD_EXPIRY and DEPART_TIME (R162): in Run, Layover and Winding-down 0 cancels; 1 to 720 minutes, more being brought to
720, set the depart time and its lead point, and the reply carries both flag and power state as they stand after it; a lead still to come
clears the precondition flag, and no zone changes with it unless a wind-down ends; a lead reached sets the flag with DEPART, wakes a parked
part and abandons a wind-down, to Layover (R158), and brings every zone of host mode Auto to Auto with a full timer; the depart time ends
it. Events not due change nothing (log entry 2), and a lead expiry comes once for each lead point (log entry 16). Two more clauses are the
model's: the depart time is the plain sum, beyond the top of part time too (log entry 26), and a clear precondition flag is the byte 0 of
the reply (log entry 40). -/
def Obligations.DepartActs : Prop :=
  ∀ s : State,
    (readyForCommand s = true → exec (.depart 0) s =
      .next
        (withReply 0x9E 0
          [0, 0, 0xFF, 0xFF, 0xFF, 0xFF, BitVec.ofNat 8 s.psc.departLead, 0, BitVec.ofNat 8 (codeOfPower s.psc.power)]
          (s.setPsc { s.psc with departTime := none, leadPoint := none, leadArmed := false, precondition := false }))) ∧
    (∀ b : Half, readyForCommand s = true → b ≠ 0 → ∀ m, m = min b.toNat 720 →
      ∃ t, exec (.depart b) s = .next t ∧ OutsideKept s (withoutReply t) ∧
        replied 0x9E (if b.toNat ≤ 720 then 0 else 1)
          [highByte (BitVec.ofNat 16 m), lowByte (BitVec.ofNat 16 m), 0, 0, highByte (BitVec.ofNat 16 (m * 60)),
            lowByte (BitVec.ofNat 16 (m * 60)), BitVec.ofNat 8 s.psc.departLead, if t.psc.precondition then 1 else 0,
            BitVec.ofNat 8 (codeOfPower t.psc.power)] t ∧
        (t.psc.departTime = some (s.partTime + m * 60) ∧
          t.psc.leadPoint = some ((s.partTime : Int) + m * 60 - s.psc.departLead * 60) ∧
          t.psc.departLead = s.psc.departLead) ∧
        (s.psc.departLead < m → t.psc.precondition = false ∧ t.psc.leadArmed = true ∧
          (t.psc.power = s.psc.power ∧ t.zc = s.zc ∨
            s.psc.power = .windingDown ∧ t.psc.power = if s.pins.ignition then .run else .parked)) ∧
        (m ≤ s.psc.departLead →
          t.psc.precondition = true ∧ t.psc.leadArmed = false ∧ hasFlag t.hlu.latched .depart = true ∧
            t.psc.power = (if inUse s.psc.power then s.psc.power else .layover) ∧
            ∀ z, (s.zone z).hostMode = .auto → (t.zone z).opMode = .auto ∧ (t.zone z).timer = (s.zone z).setbackMin * 60)) ∧
    (∀ p : Int, s.psc.leadPoint = some p → s.psc.leadArmed = true → p ≤ s.partTime →
      ∃ t, exec .leadExpiry s = .next t ∧
        (t.psc.precondition = true ∧ t.psc.leadArmed = false ∧ t.psc.departTime = s.psc.departTime ∧
          hasFlag t.hlu.latched .depart = true) ∧
        t.psc.power = (if inUse s.psc.power then s.psc.power else .layover) ∧
        ∀ z, (s.zone z).hostMode = .auto → (t.zone z).opMode = .auto ∧ (t.zone z).timer = (s.zone z).setbackMin * 60) ∧
    ((s.psc.leadArmed = false ∨ s.psc.leadPoint = none ∨ ∃ p : Int, s.psc.leadPoint = some p ∧ s.partTime < p) →
      exec .leadExpiry s = .next s) ∧
    (∀ d, s.psc.departTime = some d →
      exec .departTime s =
        .next
          (if d ≤ s.partTime then
            s.setPsc { s.psc with departTime := none, leadPoint := none, leadArmed := false, precondition := false }
          else s)) ∧
    (s.psc.departTime = none → exec .departTime s = .next s)

/-! ## The profile store -/

/-- PROFILE WRITE, PROFILE READ, ERASE_END and STORE_WRITE_COMPLETE (R174, R175): a write taken while Idle enters Erasing with its word;
the end of the erase leaves that word at 0 and begins the write; the end of the write leaves it holding the value, the store Idle
and STORE set; every other word is as it was. A read carries the word. BUSY while a word is in progress, BAD_VALUE for a row above
15 or a column above 7. An end that is not due changes nothing (log entry 2). -/
def Obligations.ProfileStoreWrites : Prop :=
  ∀ s : State,
    (∀ (r c : Byte) (v : Half), readyForCommand s = true → r.toNat ≤ 15 → c.toNat ≤ 7 →
      (s.ps.state = .idle →
        exec (.profileWrite r c v) s =
            .next
              (withReply 0xA5 0 [r, c, highByte v, lowByte v]
                (s.setPs { s.ps with state := .erasing r.toNat c.toNat v })) ∧
          exec (.profileRead r c) s =
            .next
              (withReply 0xA6 0
                [r, c, highByte (Memory.read s.ps.cells (r.toNat * 8 + c.toNat)),
                  lowByte (Memory.read s.ps.cells (r.toNat * 8 + c.toNat))] s)) ∧
      (s.ps.state ≠ .idle →
        exec (.profileWrite r c v) s = .next (withReply 0xA5 5 [] s) ∧
          exec (.profileRead r c) s = .next (withReply 0xA6 5 [] s))) ∧
    (∀ (r c : Byte) (v : Half), readyForCommand s = true → 15 < r.toNat ∨ 7 < c.toNat →
      exec (.profileWrite r c v) s = .next (withReply 0xA5 4 [] s) ∧
        exec (.profileRead r c) s = .next (withReply 0xA6 4 [] s)) ∧
    (∀ r c v, s.ps.state = .erasing r c v → ∃ p, exec .eraseEnd s = .next (s.setPs p) ∧ p.state = .writing r c v ∧
      ∀ a, Memory.read p.cells a = if a = r * 8 + c then 0 else Memory.read s.ps.cells a) ∧
    (∀ r c v, s.ps.state = .writing r c v →
      ∃ p, exec .storeWriteComplete s = .next (raise .store (s.setPs p)) ∧ p.state = .idle ∧
        ∀ a, Memory.read p.cells a = if a = r * 8 + c then v else Memory.read s.ps.cells a) ∧
    ((∀ r c v, s.ps.state ≠ .erasing r c v) → exec .eraseEnd s = .next s) ∧
    ((∀ r c v, s.ps.state ≠ .writing r c v) → exec .storeWriteComplete s = .next s)

/-- PROFILE LOAD (R176, R181, and R23, R66, R78, R107, R124, R141, R161, R169, R170 for what each block takes) in Run, Layover and Winding-down
with the store Idle: every working setting becomes its stored word brought to a valid value, the three priority orders too where the
loaded mode of their arbiter is Fixed (a Rotating one may have turned since); the reply is OK with the number of the 111 words that are not
valid as they stand, a quantity that is only rounded down among them (log entry 43, the model's reading); while
no lead is reached and no wind-down ends, a zone whose host mode changes takes it as its mode in Run and Layover, and no other zone's mode
changes; the lead point of a standing depart time follows the loaded lead, its expiry still to come (leadArmed, log entry 16) or reached
at once where it has come, which abandons a wind-down; the shift, seat counts, masks, curve pointer, period in force, store and part time
are as they were, and so are trims and screen monitor where no wind-down ends. BUSY, with nothing changed, while a word is in
progress. -/
def Obligations.ProfileLoadTakes : Prop :=
  ∀ s : State, readyForCommand s = true →
    (s.ps.state ≠ .idle → exec .profileLoad s = .next (withReply 0xA7 5 [] s)) ∧
    (s.ps.state = .idle → ∃ t, exec .profileLoad s = .next t ∧
      (t.ps = s.ps ∧ t.partTime = s.partTime ∧ t.pins = s.pins ∧ t.ssu = s.ssu ∧ t.pending = s.pending) ∧
      (∀ w : Nat → Nat → Nat, w = (fun r c => (Memory.read s.ps.cells (r * 8 + c)).toNat) →
        replied 0xA7 0 [BitVec.ofNat 8 (settingsAdjusted w)] t ∧ settingsTaken w t ∧ (t.ca.modes.saloon = .fixed → orderTaken .saloon (w 7 4) t.ca.orders.saloon) ∧
          (t.ca.modes.lower = .fixed → orderTaken .lower (w 7 5) t.ca.orders.lower) ∧
          (t.ca.modes.upper = .fixed → orderTaken .upper (w 7 6) t.ca.orders.upper)) ∧
      (t.zc.period = s.zc.period ∧ t.zc.shift = s.zc.shift ∧ t.apc.pointer = s.apc.pointer ∧ t.la.hostValue = s.la.hostValue ∧
        t.la.status = s.la.status) ∧
      (∀ z, (t.zone z).seats = (s.zone z).seats ∧ (t.ca.entry (.zone z)).masked = (s.ca.entry (.zone z)).masked) ∧
      (inUse s.psc.power = true → t.psc.power = s.psc.power) ∧
      (t.psc.power = s.psc.power → t.scm = s.scm ∧ ∀ z, (t.zone z).trim = (s.zone z).trim ∧
        ((∀ d, s.psc.departTime = some d → (s.partTime : Int) < (d : Int) - 60 * t.psc.departLead) → (t.zone z).opMode =
          (if inUse s.psc.power = false ∨ (t.zone z).hostMode = (s.zone z).hostMode then (s.zone z).opMode
          else opOfHost (t.zone z).hostMode))) ∧
      t.psc.departTime = s.psc.departTime ∧
      (s.psc.departTime = none →
        (inUse s.psc.power = true → t.psc = { s.psc with departLead := t.psc.departLead }) ∧
        t.psc.leadPoint = s.psc.leadPoint ∧ t.psc.leadArmed = s.psc.leadArmed ∧ t.psc.precondition = s.psc.precondition) ∧
      ∀ d, s.psc.departTime = some d → ∀ p : Int, p = (d : Int) - 60 * t.psc.departLead →
        t.psc.leadPoint = some p ∧
          (p ≤ s.partTime → t.psc.precondition = true ∧ t.psc.leadArmed = false ∧ hasFlag t.hlu.latched .depart = true ∧
            (s.psc.power = .windingDown → t.psc.power = .layover) ∧
            ∀ z, (t.zone z).hostMode = .auto → (t.zone z).opMode = .auto) ∧
          (s.partTime < p → t.psc.precondition = s.psc.precondition ∧ t.psc.leadArmed = true))

/-! ## The host line -/

/-- REPLY_START, EVENT_REPORT, SNAPSHOT_REPORT and FRAME_SENT (R167, R168, R170, R172): on a free transmitter the waiting reply goes first,
then the EVENT report, then the SNAPSHOT report, each with its own frame; the report empties what it reports; the end of a reply
frees the command in hand, but for a RESET, whose soft reset is then due (log entry 20). What may not start, and an end with
nothing being sent, change nothing (log entry 2). The payloads of both reports are those of R180, byte by byte. -/
def Obligations.TransmitterSends : Prop :=
  ∀ s : State,
    ∀ two : Int → List Byte, two = (fun x => [BitVec.ofInt 8 (x / 256), BitVec.ofInt 8 x]) →
    ∀ time : List Byte, time =
      [BitVec.ofNat 8 (s.partTime / 16777216), BitVec.ofNat 8 (s.partTime / 65536), BitVec.ofNat 8 (s.partTime / 256),
        BitVec.ofNat 8 s.partTime] →
    ∀ at0 : LoadItem → Nat → Nat, at0 = (fun i w => if 0 < countedLoad s i then w else 0) →
    (∀ fs, fs = snapshotPayload s → fs.length = 59 ∧ fs.take 4 = time ∧
      (∀ (z : Zone) (r : ZoneRec), r = s.zone z → (fs.drop (4 + 7 * codeOfZone z)).take 7 =
        [BitVec.ofNat 8 (codeOfOpMode r.opMode + 8 * codeOfSensor r.sensor),
          BitVec.ofNat 8 (64 * codeOfReqKind r.reqKind + 8 * r.wanted + (s.ca.entry (.zone z)).held)]
        ++ (r.tempUsed.map two).getD [0x80, 0x00] ++ [BitVec.ofNat 8 (r.sEff - 160).toNat] ++ two r.demand) ∧
      fs.drop 46 =
        [BitVec.ofNat 8 (16 * s.ca.coolCap + s.ca.free .cool), BitVec.ofNat 8 (16 * s.ca.heatCap + s.ca.free .heat)]
          ++ two (allowanceInForce s.la) ++ two (committedLoad s)
          ++ [BitVec.ofNat 8 (codeOfAllowanceStatus s.la.status + at0 (.comp .a) 4 + at0 (.comp .b) 8 + at0 .pump 16
              + at0 .heater 32 + (if s.scm.active then 64 else 0))]
          ++ Zone.all.map (fun z => BitVec.ofNat 8 (s.blower z).speed)) ∧
    (∀ c, s.hlu.inHand = some c → c.sending = false → s.hlu.sending = none →
      exec .replyStart s =
        .next
          (s.setHlu
            { s.hlu with
              inHand := some { c with sending := true }
              sending := some ⟨.reply, frameBytes c.type c.payload⟩ })) ∧
    (((∀ c, s.hlu.inHand = some c → c.sending = true) ∨ s.hlu.sending.isSome = true) → exec .replyStart s = .next s) ∧
    (s.hlu.sending = none → (∀ c, s.hlu.inHand = some c → c.sending = true) → s.hlu.resetDue = false →
      (s.hlu.unreported ≠ 0 →
        exec .eventReport s =
          .next
            (s.setHlu
              { s.hlu with
                sending :=
                  some
                    ⟨.event,
                      frameBytes 0xC0
                        ([highByte s.hlu.latched, lowByte s.hlu.latched, highByte s.hlu.unreported, lowByte s.hlu.unreported]
                          ++ time)⟩
                unreported := 0 }) ∧
          exec .snapshotReport s = .next s) ∧
      (s.hlu.unreported = 0 →
        exec .eventReport s = .next s ∧
          (s.hlu.snapshotWaiting = true →
            exec .snapshotReport s =
              .next
                (s.setHlu
                  { s.hlu with
                    sending := some ⟨.snapshot, frameBytes 0xC1 (snapshotPayload s)⟩
                    snapshotWaiting := false })) ∧
          (s.hlu.snapshotWaiting = false → exec .snapshotReport s = .next s))) ∧
    ((s.hlu.sending.isSome = true ∨ (∃ c, s.hlu.inHand = some c ∧ c.sending = false)) →
      exec .eventReport s = .next s ∧ exec .snapshotReport s = .next s) ∧
    (s.hlu.sending = none → exec .frameSent s = .next s) ∧
    (∀ f, s.hlu.sending = some f → f.kind ≠ .reply → exec .frameSent s = .next (s.setHlu { s.hlu with sending := none })) ∧
    ∀ f c, s.hlu.sending = some f → f.kind = .reply → s.hlu.inHand = some c →
      exec .frameSent s =
        .next
          (s.setHlu
            (if c.resets then { s.hlu with sending := none, resetDue := true }
            else { s.hlu with sending := none, inHand := none }))

/-- BYTE_RECEIVED and GAP at the framer (R163, R164): the table of its four states, the CRC test, and the return to Hunt at a gap, a
framing error, a wrong length or a wrong CRC, with nothing else changed; a frame with the right CRC is acted on as it completes. -/
def Obligations.FramerFollowsTable : Prop :=
  ∀ (b : Byte) (s : State),
    let put : Framer → State := fun f => s.setHlu { s.hlu with framer := f }
    exec .gap s = .next (put .hunt) ∧ exec (.byteReceived b true) s = .next (put .hunt) ∧
    (s.hlu.framer = .hunt → exec (.byteReceived b false) s = .next (put (if b = 0xA5 then .length else .hunt))) ∧
    (s.hlu.framer = .length →
      exec (.byteReceived b false) s = .next (put (if 1 ≤ b.toNat ∧ b.toNat ≤ 61 then .body b.toNat [] else .hunt))) ∧
    (∀ len got, s.hlu.framer = .body len got →
      exec (.byteReceived b false) s =
        .next (put (if got.length + 1 < len then .body len (got ++ [b]) else .check len (got ++ [b]) none))) ∧
    (∀ len got, s.hlu.framer = .check len got none →
      exec (.byteReceived b false) s = .next (put (.check len got (some b)))) ∧
    (∀ len got hi, s.hlu.framer = .check len got (some hi) → joinBytes hi b ≠ crcOf (BitVec.ofNat 8 len :: got) →
      exec (.byteReceived b false) s = .next (put .hunt)) ∧
    ∀ len type payload hi, s.hlu.framer = .check len (type :: payload) (some hi) →
      joinBytes hi b = crcOf (BitVec.ofNat 8 len :: type :: payload) →
      exec (.byteReceived b false) s = exec (.frameComplete type payload) (put .hunt)

/-- FRAME_COMPLETE (R165, R179): the frame of a host command does what that command's row does, and
where it is taken its reply is formed and waits in hand; an unknown TYPE is answered BAD_TYPE with
TYPE 0x80 and the TYPE received, and a known one with a payload that is none of its forms BAD_LENGTH. -/
def Obligations.FrameRunsCommand : Prop :=
  (∀ (i : Instr) (type : Byte) (payload : List Byte) (s : State), i.wellFormed = true →
    encodeFrame i = some (type, payload) → exec (.frameComplete type payload) s = exec i s ∧
      (readyForCommand s = true → ∃ t, exec (.frameComplete type payload) s = .next t ∧ exec i s = .next t ∧
        (t.hlu.inHand.map InHand.type = some (type + 0x80) ∧ t.hlu.inHand.map InHand.sending = some false))) ∧
  (∀ (type : Byte) (payload : List Byte) (s : State), readyForCommand s = true → type.toNat = 0 ∨ 0x28 < type.toNat →
    exec (.frameComplete type payload) s = .next (withReply 0x80 2 [type] s)) ∧
  ∀ (type : Byte) (payload : List Byte) (s : State), readyForCommand s = true → 1 ≤ type.toNat → type.toNat ≤ 0x28 →
    (∀ i, i.wellFormed = true → encodeFrame i ≠ some (type, payload)) →
    exec (.frameComplete type payload) s = .next (withReply (type + 0x80) 3 [] s)

/-- Frames and commands agree, in both directions (R178, R179): a well-formed host command is what its TYPE and payload decode to, and a
TYPE and payload that decode to a command are that command's own and it is well-formed. -/
def Obligations.FramesDecodeToTheirCommands : Prop :=
  ∀ (i : Instr) (type : Byte) (payload : List Byte),
    (i.wellFormed = true → encodeFrame i = some (type, payload) → decodeFrame type payload = .command i) ∧
    (decodeFrame type payload = .command i → encodeFrame i = some (type, payload) ∧ i.wellFormed = true)

/-- The line delivers frames (R164, R178): from Hunt, the bytes of a frame with a payload of at most 60 bytes, received one after another,
do exactly what the completion of that frame does; where the CRC is wrong they leave the whole part as it was, asleep where it slept. -/
def Obligations.LineDeliversFrames : Prop :=
  (∀ (type : Byte) (payload : List Byte) (s : State), payload.length ≤ 60 → s.hlu.framer = .hunt →
      receiveBytes (frameBytes type payload) s = exec (.frameComplete type payload) s) ∧
  (∀ (type hi lo : Byte) (payload : List Byte) (s : State), payload.length ≤ 60 → s.hlu.framer = .hunt →
      joinBytes hi lo ≠ crcOf (BitVec.ofNat 8 (payload.length + 1) :: type :: payload) →
      receiveBytes (0xA5 :: BitVec.ofNat 8 (payload.length + 1) :: type :: payload ++ [hi, lo]) s = .next s)

/-- A refused command changes nothing (R165, R166): whatever the host command, a status of BAD_TYPE or above carries no field and leaves
the state as it was beside the reply; with a command in hand already, a frame is discarded whole. -/
def Obligations.RefusalsChangeNothing : Prop :=
  ∀ (i : Instr) (s : State), isHostCommand i = true →
    (readyForCommand s = true → ∃ t, exec i s = .next t ∧ ∃ st, statusInHand t = some st ∧ st.toNat ≤ 6 ∧
      (2 ≤ st.toNat → withoutReply t = s ∧ fieldsInHand t = some [])) ∧
    (s.hlu.inHand.isSome = true → s.psc.power ≠ .parked → exec i s = .next s)

/-- A command frame in Parked, whatever its TYPE and payload, wakes the part to Layover first and is then taken there, as a host command or
as the BAD_TYPE or BAD_LENGTH of `FrameRunsCommand`, or discarded where a command is in hand (R159, R160, R165); at the wake each zone with seats takes its host mode, and each other stands in Standby, or in Auto where the
precondition flag is set and its host mode is Auto; every channel keeps its status, last good value and held-since time (R4). Three
clauses are the model's: the stopped set emptied (log entry 33), the pending period code put in force with the restart (log entry 22),
and the screen monitor's checkedAt at now (log entry 3). -/
def Obligations.CommandFrameWakes : Prop :=
  ∀ (i : Instr) (s : State), isWholeFrame i = true → s.psc.power = .parked →
    ∃ w, w = wakeByFrame s ∧ exec i s = (if s.hlu.inHand.isSome then .next w else exec i w) ∧ OutsideKept (s.setSsu w.ssu) w ∧
      (∀ c, (w.ssu.get c).status = (s.ssu.get c).status ∧ (w.ssu.get c).lastGood = (s.ssu.get c).lastGood ∧
        (w.ssu.get c).heldSince = (s.ssu.get c).heldSince) ∧
      (w.psc.power = .layover ∧ hasFlag w.hlu.latched .power = true ∧ w.psc.stopped = ⟨false, false, false⟩ ∧
        w.scm = { s.scm with fog := 0, checkedAt := some s.partTime }) ∧
      (w.zc.period = s.zc.pendingPeriod ∧ w.zc.periodTimer = some ((s.zc.pendingPeriod + 2) * 250)) ∧
      ∀ z, (w.zone z).opMode =
        (if (s.zone z).seats = 0 then
          if s.psc.precondition = true ∧ (s.zone z).hostMode = .auto then .auto else .standby
        else opOfHost (s.zone z).hostMode)

/-! ## Part time, pins and sensors -/

/-- PART_TIME_TICK (R152, R26, R33): part time goes up by one, every running inactivity timer above 0 goes down by one, and nothing else
changes. A running timer at 0 stays there and its zone keeps its mode until the expiry is taken (log entry 14, the model's reading). After the top of the count part time is a free value (log entry 5), of which nothing is said. -/
def Obligations.TickCounts : Prop :=
  ∀ s : State, ∃ t, exec .partTimeTick s = .next t ∧
    (s.partTime < 4294967295 → t.partTime = s.partTime + 1 ∧ t.freeCount = s.freeCount) ∧
    (4294967295 ≤ s.partTime →
      t.partTime = (Config.partTimeAfterTop s.freeCount).toNat ∧ t.freeCount = s.freeCount + 1) ∧
    ((t.setZc s.zc).setPartTime s.partTime).setFreeCount s.freeCount = s ∧
    { t.zc with zones := s.zc.zones } = s.zc ∧
    ∀ z, t.zone z =
      (let r := s.zone z
      if s.psc.power ≠ .parked ∧ r.seats = 0 ∧
          (r.opMode = .setback ∨ (r.opMode = .auto ∧ s.psc.precondition = false)) then
        { r with timer := r.timer - 1 }
      else r)

/-- IGNITION and IGNITION_OFF_EXPIRY (R154, R155, R158 to R160): off in Run begins the stretch that ends in Layover at since + 60; on ends it;
on in any other state gives Run at once, with POWER, leaving the zones of Layover alone and releasing those of Winding-down and
Parked, occupied ones to their host mode, and with the precondition flag set every zone of host mode Auto to Auto. A repeated level and an expiry not due change nothing (log entry 2). -/
def Obligations.IgnitionActs : Prop :=
  ∀ (s : State) (on : Pins), on = { s.pins with ignition := true } → ∀ off, off = { s.pins with ignition := false } →
    exec (.ignition s.pins.ignition) s = .next s ∧
    (s.pins.ignition = true → settled s = true → s.psc.power = .run →
      exec (.ignition false) s =
        .next ((s.setPins off).setPsc { s.psc with ignitionOffSince := some s.partTime })) ∧
    (s.pins.ignition = true → settled s = true → s.psc.power = .layover ∨ s.psc.power = .parked →
      exec (.ignition false) s = .next (s.setPins off)) ∧
    (s.pins.ignition = false → settled s = true → s.psc.power = .run →
      exec (.ignition true) s = .next ((s.setPins on).setPsc { s.psc with ignitionOffSince := none })) ∧
    (s.pins.ignition = false → s.psc.power ≠ .run → ∃ t, exec (.ignition true) s = .next t ∧
      (t.psc.power = .run ∧ t.psc.ignitionOffSince = none ∧ hasFlag t.hlu.latched .power = true ∧ t.pins = on ∧
        t.partTime = s.partTime) ∧
      ∀ z, t.zone z =
        (let r := s.zone z
        if s.psc.power = .layover ∨ (r.seats = 0 ∧ ¬(s.psc.precondition = true ∧ r.hostMode = .auto)) then r
        else { r with opMode := opOfHost r.hostMode, timer := r.setbackMin * 60 })) ∧
    (∀ t0, s.psc.ignitionOffSince = some t0 → s.psc.power = .run → t0 + 60 ≤ s.partTime →
      ∃ t, exec .ignitionOffExpiry s = .next t ∧ OutsideKept s t ∧
        (t.psc.power = .layover ∧ t.psc.ignitionOffSince = none ∧ hasFlag t.hlu.latched .power = true ∧
          t.scm = s.scm) ∧
        ∀ z, (0 < (s.zone z).seats → t.zone z = s.zone z) ∧
          ((s.zone z).seats = 0 →
            (t.zone z).opMode =
              (if s.psc.precondition = true ∧ (s.zone z).hostMode = .auto then .auto else .standby))) ∧
    ((s.psc.power ≠ .run ∨ s.psc.ignitionOffSince = none ∨ ∃ t0, s.psc.ignitionOffSince = some t0 ∧ s.partTime < t0 + 60) →
      exec .ignitionOffExpiry s = .next s)

/-- DOOR_EDGE (R27, R28, R158 to R160): in Run and Layover the front door's edges are reload events of E and L1 and the middle door's of
L2, each where its mask has DOOR, and no other zone changes; in Winding-down and Parked either door brings the part to Layover and
releases the zones. The edge flips the pin's level. -/
def Obligations.DoorEdgesAct : Prop :=
  ∀ (d : Door) (s : State) (p : Pins),
    p = (match d with
      | .front => { s.pins with frontDoor := !s.pins.frontDoor }
      | .middle => { s.pins with middleDoor := !s.pins.middleDoor }) →
    (inUse s.psc.power = true → ∃ t, exec (.doorEdge d) s = .next t ∧ ZonesOnly (s.setPins p) t ∧
      ∀ z, t.zone z =
        (let r := s.zone z
        let reached : Bool :=
          match d, z with
          | .front, .e | .front, .l1 | .middle, .l2 => true
          | _, _ => false
        if reached ∧ r.mask.door then { r with opMode := reloadedMode r, timer := reloadedTimer r } else r)) ∧
    (inUse s.psc.power = false → ∃ t, exec (.doorEdge d) s = .next t ∧
      (t.psc.power = .layover ∧ t.pins = p ∧ hasFlag t.hlu.latched .power = true) ∧
      ∀ z, (t.zone z).opMode =
        (if (s.zone z).seats = 0 then
          if s.psc.precondition = true ∧ (s.zone z).hostMode = .auto then .auto else .standby
        else opOfHost (s.zone z).hostMode))

/-- SAMPLE moves its channel (R4, R5): a valid value makes it Good with that value; an invalid one takes Good to Held from now, Held to
Failed once 60 s old, with SENSOR set, and leaves the last good value; no other channel moves. With a channel that no block acts on
at its sample, and nothing to shed, nothing else changes. In Parked, and a second time in one second (log entry 3), nothing is
taken. -/
def Obligations.SampleMovesChannel : Prop :=
  ∀ (c : Channel) (v : Int) (s : State),
    ((s.psc.power = .parked ∨ (s.ssu.get c).sampledAt = some s.partTime) → exec (.sample c v) s = .next s) ∧
    (s.psc.power ≠ .parked → (s.ssu.get c).sampledAt ≠ some s.partTime →
      ∃ t, exec (.sample c v) s = .next t ∧ ∃ r',
        r' =
          (let r := s.ssu.get c
          if (channelRange c).1 ≤ v ∧ v ≤ (channelRange c).2 then ⟨.good, some v, none, some s.partTime⟩
          else
            match r.status, r.heldSince with
            | .good, _ => ⟨.held, r.lastGood, some s.partTime, some s.partTime⟩
            | .held, some h =>
              if h + 60 ≤ s.partTime then ⟨.failed, r.lastGood, none, some s.partTime⟩
              else { r with sampledAt := some s.partTime }
            | .held, none => { r with sampledAt := some s.partTime }
            | .failed, _ => { r with sampledAt := some s.partTime }) ∧
        t.ssu.get c = r' ∧ (∀ d, d ≠ c → t.ssu.get d = s.ssu.get d) ∧
        ((s.ssu.get c).status ≠ .failed → r'.status = .failed → hasFlag t.hlu.latched .sensor = true) ∧
        (t.partTime = s.partTime ∧ t.pins = s.pins ∧ t.ps = s.ps ∧ t.pending = s.pending) ∧
        ((settled s = true ∧ s.psc.power ≠ .windingDown) ∨ windDownAtRest s = true →
          c = .outdoor ∨ c = .glass ∨ c = .humidity ∨ c = .co2 .lower ∨ c = .co2 .upper ∨ c = .solar →
          t =
            (let s1 := s.setSsu (s.ssu.set c r')
            if (s.ssu.get c).status ≠ .failed ∧ r'.status = .failed then raise .sensor s1 else s1)))

/-- A sample of a zone's channel, in Run, Layover and Winding-down, derives every zone's sensor state again by the table of R7; a zone that
becomes Lost loses its temperature, I, D and request at once (R8), and no zone changes otherwise. A coolant sample moves the heat band
by R70's thresholds, from the value used, and to 0 without one. At 75.0 °C or more, and at the sample that takes the channel to Failed, it
is a stop request (R122): from Ignition and Burning the heater goes to After-run, a purge runs on, the latched start is cleared, and the
cause is Stop but in Retry-purge. Zones are told while no wind-down ends with the sample, and screen monitor and power state are as they
were then. -/
def Obligations.SensorUsersFollow : Prop :=
  (∀ (c : Zone) (v : Int) (s : State), s.psc.power ≠ .parked → (s.ssu.get (.zoneTemp c)).sampledAt ≠ some s.partTime →
      ∃ t, exec (.sample (.zoneTemp c) v) s = .next t ∧ (inUse s.psc.power = true → t.psc = s.psc) ∧ (t.psc.power = s.psc.power →
        t.scm = s.scm ∧ { t.psc with stopped := s.psc.stopped } = s.psc ∧
        ∀ (z : Zone) (own : ChannelRec), own = t.ssu.get (.zoneTemp z) →
          ∀ lent : Bool, lent = Zone.all.any (fun y =>
            decide (y ≠ z) && decide (deckOf y = deckOf z) && ((t.ssu.get (.zoneTemp y)).status == .good)) →
          (t.zone z).sensor =
            (if own.status = .good then .good
            else if own.status = .held ∧ own.lastGood ≠ none then .held
            else if lent then .borrowed
            else .lost) ∧
          t.zone z =
            (if (t.zone z).sensor = .lost ∧ (s.zone z).sensor ≠ .lost then
              { s.zone z with
                sensor := .lost
                tempUsed := none
                integ := 0
                demand := 0
                reqKind := .none
                wanted := 0 }
            else { s.zone z with sensor := (t.zone z).sensor }))) ∧
  (∀ (v : Int) (s : State), s.psc.power ≠ .parked → (s.ssu.get .coolant).sampledAt ≠ some s.partTime → s.hs.band ≤ 3 →
      ∃ t, exec (.sample .coolant v) s = .next t ∧ PlantStep (s.setSsu t.ssu) t ∧
        (((s.ssu.get .coolant).status ≠ .failed ∧ (t.ssu.get .coolant).status = .failed) ∨
            (∃ x, valueUsed (t.ssu.get .coolant) = some x ∧ 750 ≤ x) →
          t.hs.heater = (if runRequest s.hs then .afterRun else s.hs.heater) ∧
            t.hs.heaterSince = (if runRequest s.hs then s.partTime else s.hs.heaterSince) ∧
            (heaterCounted s.hs.heater = true → t.hs.latched = false ∧ (s.hs.heater ≠ .retryPurge → t.hs.cause = some .stop))) ∧
        (valueUsed (t.ssu.get .coolant) = none → t.hs.band = 0) ∧
        ∀ x, valueUsed (t.ssu.get .coolant) = some x →
          ∀ n, n = (if 700 ≤ x then 3 else if 550 ≤ x then 2 else if 400 ≤ x then 1 else 0) →
            (s.hs.band < n → t.hs.band = n) ∧
            (n ≤ s.hs.band →
              (s.hs.band = 0 ∨ (s.hs.band = 1 ∧ 380 ≤ x) ∨ (s.hs.band = 2 ∧ 530 ≤ x) ∨ (s.hs.band = 3 ∧ 680 ≤ x) →
                t.hs.band = s.hs.band) ∧
              ((s.hs.band = 1 ∧ x < 380) ∨ (s.hs.band = 2 ∧ x < 530) ∨ (s.hs.band = 3 ∧ x < 680) →
                t.hs.band = (if 680 ≤ x then 3 else if 530 ≤ x then 2 else if 380 ≤ x then 1 else 0))))

/-! ## Zone evaluation, timers and hold ends -/

/-- PERIOD_EXPIRY while the timer runs, in Winding-down too where it does not end with it (R9 to R17, R170): each zone's record takes its
temperature by its sensor state (R7: its own last value, the mean of the samples of its Good deck-mates rounded toward zero, or none), the
setpoint chain (R12), error, deadband and demand (R13, R15), the integrator by R14 (for E, evaluated first, by its grant entry as it stood;
for another zone, whose entry the zones before it may have moved, kept only where the error has the sign of its request, and integrated
otherwise), request kind with its hysteresis (R16) and number wanted (R17), or I, D and request 0 where the PI stage does not run (R11), and
is otherwise as it was; the pending period comes into force and the timer restarts; the snapshot count goes up and brings a SNAPSHOT at
its rate. A stopped timer brings nothing (log entry 2). -/
def Obligations.PeriodEvaluates : Prop :=
  ∀ s : State,
    (s.zc.periodTimer = none → exec .periodExpiry s = .next s) ∧
    (s.zc.periodTimer ≠ none → ∃ t, exec .periodExpiry s = .next t ∧
      (if 0 < s.hlu.snapshotRate ∧ s.hlu.snapshotRate ≤ s.hlu.snapshotCount + 1 then
        t.hlu.snapshotCount = 0 ∧ t.hlu.snapshotWaiting = true
      else t.hlu.snapshotCount = s.hlu.snapshotCount + 1 ∧ t.hlu.snapshotWaiting = s.hlu.snapshotWaiting) ∧
      (s.psc.power ≠ .windingDown → t.psc = s.psc) ∧ (t.psc.power = s.psc.power →
      { t.zc with zones := s.zc.zones } =
        { s.zc with
          period := s.zc.pendingPeriod
          periodTimer := some ((s.zc.pendingPeriod + 2) * 250) } ∧
      (t.partTime = s.partTime ∧ t.ssu = s.ssu ∧ t.pins = s.pins ∧ t.ps = s.ps ∧ t.scm = s.scm ∧
        { t.psc with stopped := s.psc.stopped } = s.psc) ∧
      ∀ (z : Zone) (r : ZoneRec), r = s.zone z → ∀ r', r' = t.zone z →
        ∀ s2, s2 = r.setpoint + s.zc.shift + r.trim - (if deckOf z = .upper then solarUsed s / 100 else 0) →
        ∀ s3, s3 =
          (if r.opMode = .setback then
            if outdoorUsed s < s2 then s2 - s.zc.setbackOffset else s2 + s.zc.setbackOffset
          else s2) →
        ∀ lent : List Int, lent =
          (Zone.all.filter (fun y =>
              decide (y ≠ z) && decide (deckOf y = deckOf z) && ((s.ssu.get (.zoneTemp y)).status == .good))).filterMap
            (fun y => (s.ssu.get (.zoneTemp y)).lastGood) →
        r' =
            { r with
              tempUsed :=
                match r.sensor with
                | .good | .held => (s.ssu.get (.zoneTemp z)).lastGood
                | .borrowed => if lent = [] then none else some (lent.sum.tdiv lent.length)
                | .lost => none
              sEff := max 160 (min 300 (max s3 (outdoorUsed s - 70)))
              integ := r'.integ
              demand := r'.demand
              reqKind := r'.reqKind
              wanted := r'.wanted } ∧
          ((r.opMode ≠ .auto ∧ r.opMode ≠ .setback) ∨ r'.tempUsed = none →
            r'.integ = 0 ∧ r'.demand = 0 ∧ r'.reqKind = .none ∧ r'.wanted = 0) ∧
          ∀ temp, r'.tempUsed = some temp → (r.opMode = .auto ∨ r.opMode = .setback) →
            ∀ e, e = max (-200) (min 200 (r'.sEff - temp)) →
            ∀ e' : Int, e' = (if e.natAbs ≤ s.zc.db then 0 else if s.zc.db < e then e - s.zc.db else e + s.zc.db) →
            (r'.integ = max (-64000) (min 64000 (r.integ + s.zc.ki * e')) ∨
              (r'.integ = r.integ ∧ ((r.reqKind = .cool ∧ e' < 0) ∨ (r.reqKind = .heat ∧ 0 < e')))) ∧
            (z = .e →
              r'.integ =
                (if (s.ca.entry (.zone .e)).held < (s.ca.entry (.zone .e)).wanted ∧
                    ((r.reqKind = .cool ∧ e' < 0) ∨ (r.reqKind = .heat ∧ 0 < e')) then r.integ
                else max (-64000) (min 64000 (r.integ + s.zc.ki * e')))) ∧
            r'.demand = max (-1000) (min 1000 (s.zc.kp * e' + r'.integ.tdiv 64)) ∧
            r'.reqKind =
              (match r.reqKind with
              | .none => if r'.demand ≤ -150 then .cool else if 150 ≤ r'.demand then .heat else .none
              | .cool => if r'.demand ≤ -60 then .cool else if 150 ≤ r'.demand then .heat else .none
              | .heat => if 60 ≤ r'.demand then .heat else if r'.demand ≤ -150 then .cool else .none) ∧
            r'.wanted = (if r'.reqKind = .none then 0 else max 1 ((r'.demand.natAbs + 249) / 250))))

/-- INACTIVITY_TIMER_EXPIRY in Run and Layover (R29 to R31): a running timer at 0 takes a zone from Auto to Setback with its I, D and request
kept and a new timer, and from Setback to Standby with trim, I, D and request at 0; SETBACK is set, and no other zone changes. A
timer that does not run, or has not reached 0, brings nothing (log entries 2 and 14). -/
def Obligations.InactivityExpires : Prop :=
  ∀ (z : Zone) (s : State) (r : ZoneRec), r = s.zone z →
    ∀ due : Bool, due =
      (decide (r.timer = 0) && decide (r.seats = 0) && decide (s.psc.power ≠ .parked) &&
        (decide (r.opMode = .setback) || (decide (r.opMode = .auto) && !s.psc.precondition))) →
    (due = false → exec (.inactivityTimerExpiry z) s = .next s) ∧
    (due = true → inUse s.psc.power = true → ∃ t, exec (.inactivityTimerExpiry z) s = .next t ∧ ZonesOnly s t ∧
      hasFlag t.hlu.latched .setback = true ∧ (∀ y, y ≠ z → t.zone y = s.zone y) ∧
      t.zone z =
        (if r.opMode = .auto then { r with opMode := .setback, timer := r.standbyMin * 60 }
        else
          { r with
            opMode := .standby
            trim := 0
            timer := 0
            integ := 0
            demand := 0
            reqKind := .none
            wanted := 0 }))

/-- HOLD_END (R42): a hold end still to come is taken once since + hold time is reached, and starts a serve pass; only arbiter, loads,
plant and air may move, and, while no wind-down ends with it, no request or mask changes and over a lawful arbiter the pass leaves no pool
with both a free token and an entry it could serve (R50, R51); the entry's hold end is to come again only where it gained now. Before
that, and a second time (log entry 15), nothing happens. -/
def Obligations.HoldEndServes : Prop :=
  ∀ (i : EntryId) (s : State),
    (∀ t0, (s.ca.entry i).since = some t0 → (s.ca.entry i).holdPending = true → t0 + s.ca.modes.hold ≤ s.partTime →
      ∃ t, exec (.holdEnd i) s = .next t ∧ PlantStep s t ∧
        ((t.ca.entry i).holdPending = true → (t.ca.entry i).since = some s.partTime) ∧
        (t.psc.power = s.psc.power →
          requestsKept s t ∧
          (ordersLawful s.ca.orders → tableLawful s.ca → poolsLawful s.ca → queueLawful s.ca →
            ∀ k, t.ca.free k = 0 ∨ ∀ j, servable k t.ca j = false))) ∧
    (((s.ca.entry i).holdPending = false ∨
        ∃ t0, (s.ca.entry i).since = some t0 ∧ s.partTime < t0 + s.ca.modes.hold) →
      exec (.holdEnd i) s = .next s)

/-! ## Cooling plant -/

/-- STARTING_EXPIRY and UNLOADING_EXPIRY (R95, R96, R97): after 5 s of Starting a compressor is in Running, its on-since and start log kept
and its charge stretch begun where the suction pressure is already low; after 10 s of Unloading it is Off, stopped now; earlier, or in
another state, nothing happens (log entry 2, the model's choice). A high-side SAMPLE of 28.0 bar or more trips a compressor in
Starting, Running or Unloading (R104, R105): Lockout with the third trip of the last 3,600 s and Tripped otherwise, stopped now, the
trip logged, COMP_TRIP set, and COMP_LOCK with a Lockout; its start log, enable and limit episode are kept. Each SAMPLE of a circuit,
with the loads lawful, moves the charge stretch (low side, in Running), trips for high pressure, for 30 s of
low suction and for a pressure channel that enters Failed (R104), and otherwise sets and clears the throttle from high side and coil
(R103); a trip taken at a sample comes before the throttle (log entry 13); the other compressor is untouched. -/
def Obligations.CompressorEventsAct : Prop :=
  (∀ (c : Comp) (s : State),
      ((s.comp c).state = .starting → (s.comp c).stateSince + 5 ≤ s.partTime → loadLawful s →
        ∃ t, exec (.startingExpiry c) s = .next t ∧ PlantStep s t ∧
          t.comp c =
            { s.comp c with
              state := .running
              stateSince := s.partTime
              chargeStart :=
                match valueUsed (s.ssu.pressureLow.get c) with
                | some v => if v < 10 then some s.partTime else none
                | none => none } ∧
          t.comp (otherComp c) = s.comp (otherComp c)) ∧
      ((s.comp c).state ≠ .starting ∨ s.partTime < (s.comp c).stateSince + 5 → exec (.startingExpiry c) s = .next s) ∧
      ((s.comp c).state = .unloading → (s.comp c).stateSince + 10 ≤ s.partTime →
        ∃ t, exec (.unloadingExpiry c) s = .next t ∧ PlantStep s t ∧
          t.comp c =
            { s.comp c with
              state := .off
              stateSince := s.partTime
              stoppedSince := s.partTime
              onSince := none
              throttle := false
              chargeStart := none }) ∧
      ((s.comp c).state ≠ .unloading ∨ s.partTime < (s.comp c).stateSince + 10 → exec (.unloadingExpiry c) s = .next s)) ∧
  (∀ (c : Comp) (v : Int) (s : State), s.psc.power ≠ .parked → (s.ssu.get (.pressureHigh c)).sampledAt ≠ some s.partTime →
      280 ≤ v → v ≤ 350 → compCounted (s.comp c).state = true →
      ∃ t, exec (.sample (.pressureHigh c) v) s = .next t ∧ ∃ log,
        log = (s.comp c).tripLog.filter (fun x => decide (s.partTime < x + 3600)) ++ [s.partTime] ∧
        t.comp c =
          { s.comp c with
            state := if 3 ≤ log.length then .lockout else .tripped
            stateSince := s.partTime
            stoppedSince := s.partTime
            onSince := none
            throttle := false
            chargeStart := none
            tripLog := log } ∧
        hasFlag t.hlu.latched .compTrip = true ∧ (3 ≤ log.length → hasFlag t.hlu.latched .compLock = true)) ∧
  (∀ (c : Comp) (ch : Channel) (v : Int) (s : State), (ch = .pressureHigh c ∨ ch = .pressureLow c ∨ ch = .coil c) →
      s.psc.power ≠ .parked → (s.ssu.get ch).sampledAt ≠ some s.partTime → loadLawful s →
      ∃ t, exec (.sample ch v) s = .next t ∧ PlantStep (s.setSsu t.ssu) t ∧ t.comp (otherComp c) = s.comp (otherComp c) ∧
        ∀ r, r = s.comp c → ∀ high, high = valueUsed (t.ssu.get (.pressureHigh c)) →
          ∀ low, low = valueUsed (t.ssu.get (.pressureLow c)) → ∀ coil, coil = valueUsed (t.ssu.get (.coil c)) →
          ∀ charge, charge =
            (if ch = .pressureLow c ∧ r.state = .running then
              match low with
              | some x => if x < 10 then some (r.chargeStart.getD s.partTime) else none
              | none => none
            else r.chargeStart) →
          ∀ trips : Bool, trips =
            ((compCounted r.state && high.any (fun x => decide (280 ≤ x))) ||
              (decide (ch ≠ .coil c) && decide ((s.ssu.get ch).status ≠ .failed) && decide ((t.ssu.get ch).status = .failed) &&
                (decide (r.state = .starting) || decide (r.state = .running))) ||
              (decide (r.state = .running) && charge.any (fun x => decide (x + 30 ≤ s.partTime)))) →
          (trips = true →
            ((t.comp c).state = .tripped ∨ (t.comp c).state = .lockout) ∧ (t.comp c).stoppedSince = s.partTime ∧
              (t.comp c).throttle = false ∧ hasFlag t.hlu.latched .compTrip = true) ∧
          (trips = false →
            t.comp c =
              { r with
                chargeStart := charge
                throttle :=
                  if ch ≠ .pressureLow c ∧ compCounted r.state = true then
                    if r.throttle then !(high.any (fun x => decide (x < 220)) && coil.any (fun x => decide (30 ≤ x)))
                    else high.any (fun x => decide (240 ≤ x)) || coil.all (fun x => decide (x < 10))
                  else r.throttle }))

/-- STAGING_CHECK (R99 to R101, R104, R106, R107), once in a second (log entry 3): the logs lose what is 3,600 s old and keep the rest, a
start or a trip made now being added; Lockout stays; Tripped ends after 600 s with the high-side value used below 20.0 bar, keeping
stopped-since, and not before; a Running compressor whose suction has been low for 30 s trips, before any stop of this check (log entry 11,
the model's reading); a disabled one past its minimum on-time
goes to Unloading; with no such trip due, the excess, surplus and idle stretches are kept, begun or broken from W_c and C, 300 s of
surplus stop B, or A where B is not in Running, and 120 s of idleness stop each, once its minimum on-time has elapsed; an enabled
Running one that nothing stops runs on, A too while B's stop waits; zones, screen monitor and power state are as they were. -/
def Obligations.StagingCheckActs : Prop :=
  ∀ s : State,
    (s.cs.checkedAt = some s.partTime → exec .stagingCheck s = .next s) ∧
    (s.cs.checkedAt ≠ some s.partTime → ∃ t, exec .stagingCheck s = .next t ∧
      PlantStep s t ∧ t.cs.checkedAt = some s.partTime ∧ (t.psc.power = s.psc.power →
      (∀ (c : Comp) (r : CompRec), r = s.comp c → ∀ r', r' = t.comp c →
        ∀ ended : Bool, ended =
            (decide (r.stateSince + 600 ≤ s.partTime) &&
              match valueUsed (s.ssu.pressureHigh.get c) with
              | some v => decide (v < 200)
              | none => false) →
        r'.enable = r.enable ∧
        r'.startLog =
          r.startLog.filter (fun x => decide (s.partTime < x + 3600)) ++
            (if r.state ≠ .starting ∧ r'.state = .starting then [s.partTime] else []) ∧
        r'.tripLog =
          r.tripLog.filter (fun x => decide (s.partTime < x + 3600)) ++
            (if r.state = .running ∧ (r'.state = .tripped ∨ r'.state = .lockout) then [s.partTime] else []) ∧
        (r.state = .lockout → r'.state = .lockout) ∧
        (r.state = .tripped → ended = false → r'.state = .tripped) ∧
        (r.state = .tripped → ended = true → r'.state ≠ .tripped ∧ r'.stoppedSince = r.stoppedSince) ∧
        (∀ x, r.chargeStart = some x → r.state = .running → x + 30 ≤ s.partTime →
          (r'.state = .tripped ∨ r'.state = .lockout) ∧ r'.stoppedSince = s.partTime ∧
            hasFlag t.hlu.latched .compTrip = true) ∧
        (∀ x, r.onSince = some x → r.state = .running → r.enable = false → r.chargeStart = none → x + 180 ≤ s.partTime →
          r'.state = .unloading ∧ r'.stateSince = s.partTime ∧ r'.onSince = some x)) ∧
      ((∀ c x, (s.comp c).chargeStart = some x → (s.comp c).state = .running → s.partTime < x + 30) →
        ∀ surplus, surplus =
          (if s.cs.wantedTotal + 4 ≤ s.ca.coolCap then some (s.cs.surplus.getD s.partTime) else none) →
        ∀ idle, idle = (if s.cs.wantedTotal = 0 then some (s.cs.idle.getD s.partTime) else none) →
        t.cs.excess =
          (if s.ca.coolCap < s.cs.wantedTotal then some (s.cs.excess.getD s.partTime) else none) ∧
        t.cs.idle = idle ∧ (t.cs.surplus = surplus ∨ t.cs.surplus = none) ∧
        ((∀ x, surplus = some x → s.partTime < x + 300) → (∀ x, idle = some x → s.partTime < x + 120) →
          t.cs.surplus = surplus) ∧
        (∀ x y, surplus = some x → x + 300 ≤ s.partTime → (s.comp .b).state = .running → (s.comp .b).enable = true →
          (s.comp .b).onSince = some y →
          (y + 180 ≤ s.partTime → (t.comp .b).state = .unloading ∧ (t.comp .b).stateSince = s.partTime ∧ t.cs.surplus = none) ∧
          (s.partTime < y + 180 → loadLawful s → (s.comp .a).state = .running → (s.comp .a).enable = true →
            (∀ x, idle = some x → s.partTime < x + 120) → t.cs.surplus = surplus ∧ ∀ c, t.comp c =
              { s.comp c with
                startLog := (s.comp c).startLog.filter (fun x => decide (s.partTime < x + 3600))
                tripLog := (s.comp c).tripLog.filter (fun x => decide (s.partTime < x + 3600))
                episodeOpen := (t.comp c).episodeOpen
                deferred := false
                reason := none })) ∧
        (∀ x y, surplus = some x → x + 300 ≤ s.partTime → (s.comp .b).state ≠ .running → (s.comp .a).state = .running →
          (s.comp .a).enable = true → (s.comp .a).onSince = some y → y + 180 ≤ s.partTime →
          (t.comp .a).state = .unloading ∧ (t.comp .a).stateSince = s.partTime ∧ t.cs.surplus = none) ∧
        (∀ x, idle = some x → x + 120 ≤ s.partTime → ∀ c y, (s.comp c).state = .running → (s.comp c).onSince = some y →
          (y + 180 ≤ s.partTime → (t.comp c).state = .unloading ∧ (t.comp c).stateSince = s.partTime) ∧
          (s.partTime < y + 180 → loadLawful s → (t.comp c).state = .running ∧ (t.comp c).onSince = some y)) ∧
        ((∀ x, surplus = some x → s.partTime < x + 300) → (∀ x, idle = some x → s.partTime < x + 120) → loadLawful s →
          ∀ c, (s.comp c).state = .running → (s.comp c).enable = true → (t.comp c).state = .running))))

/-- A staging check starts at most one compressor (R80, R95, R98 to R100): in Run or Layover with more wanted than there is capacity, and with
no compressor to stop, to trip or to leave Tripped at this check, a start is due once the excess stretch has lasted the stage delay, 0 s
with SCc short, 60 s with a compressor in Running, 10 s otherwise. Then A, if startable, and otherwise B, if startable, is put to the load
account: admitted, it enters Starting now with the start logged; refused, it stays Off with its deferred flag set and nothing logged. A
compressor is startable when it meets the conditions of R98, the low-ambient one lifted with SCc short; the first that fails is the reason
recorded, and a full start log opens a limit episode with START_LIMIT (R99). No other compressor changes. -/
def Obligations.StagingCheckStarts : Prop :=
  ∀ s : State, s.cs.checkedAt ≠ some s.partTime → inUse s.psc.power = true → settled s = true → s.ca.coolCap < s.cs.wantedTotal →
    (∀ c, ((s.comp c).state = .running → (s.comp c).enable = true ∧ ∀ y, (s.comp c).chargeStart = some y → s.partTime < y + 30) ∧
      ((s.comp c).state = .tripped → s.partTime < (s.comp c).stateSince + 600)) →
    ∀ log : Comp → List Nat, log = (fun c => (s.comp c).startLog.filter (fun y => decide (s.partTime < y + 3600))) →
    ∀ why : Comp → Option StartCondition, why = (fun c =>
      (([(.state, decide ((s.comp c).state = .off)), (.otherCompressor, decide ((s.comp (otherComp c)).state ≠ .starting)),
          (.offTime, decide ((s.comp c).stoppedSince + 300 ≤ s.partTime)), (.enable, (s.comp c).enable),
          (.shedStack, !onStack s.la (.comp c)),
          (.pressureChannels,
            decide (valueUsed (s.ssu.pressureHigh.get c) ≠ none) && decide (valueUsed (s.ssu.pressureLow.get c) ≠ none)),
          (.lowAmbient, decide (50 ≤ outdoorUsed s) || s.cs.sccShort), (.startLog, decide ((log c).length < 6))] :
        List (StartCondition × Bool)).find? (fun k => !k.2)).map Prod.fst) →
    ∀ due : Bool, due =
      decide (s.cs.excess.getD s.partTime +
        (if s.cs.sccShort then 0 else if (s.comp .a).state = .running ∨ (s.comp .b).state = .running then 60 else 10) ≤ s.partTime) →
    ∀ pick : Option Comp, pick =
      (if due then if why .a = none then some .a else if why .b = none then some .b else none else none) →
    ∃ t, exec .stagingCheck s = .next t ∧ PlantOnly s t ∧ t.la = s.la ∧ t.ca = s.ca ∧
      ∀ (c : Comp) (r : CompRec), r = s.comp c → ∀ r', r' = t.comp c → r'.stoppedSince = r.stoppedSince ∧
        (pick ≠ some c → r'.state = r.state ∧ r'.stateSince = r.stateSince ∧ r'.onSince = r.onSince ∧ r'.startLog = log c) ∧
        (pick = some c → committedLoad s + 4200 ≤ allowanceInForce s.la →
          (r'.state = .starting ∧ r'.stateSince = s.partTime ∧ r'.onSince = some s.partTime ∧ r'.startLog = log c ++ [s.partTime] ∧
            r'.deferred = false ∧ r'.episodeOpen = false) ∧ committedLoad t = committedLoad s + 4200) ∧
        (pick = some c → allowanceInForce s.la < committedLoad s + 4200 →
          (r'.state = .off ∧ r'.deferred = true ∧ r'.startLog = log c) ∧ committedLoad t = committedLoad s) ∧
        (pick = none → committedLoad t = committedLoad s) ∧
        (due = true → why c ≠ none → (c = .b → why .a ≠ none) → r'.reason = why c ∧
          (why c = some .startLog → r'.episodeOpen = true ∧ (r.episodeOpen = false → hasFlag t.hlu.latched .startLimit = true)))

/-! ## Heating plant -/

/-- HEATING_CHECK (R114 to R116, R118, R121, R122), once in a second (log entry 3): both stretches are kept, begun or broken by the heat
total; a pump that heat is wanted for is put to the load account; an idle pump stops after 120 s with the heater Off or in Lockout; a
heater meeting its start condition is put to the load account; 300 s of idleness stop a burning one. In After-run and Retry-purge the
purge runs on, 300 s of idleness clear the latched start, the start condition, read after the pump's decision, sets it, for a heater shed
in that purge and popped since too (log entry 42, the model's choice), and otherwise it stays. Zones, screen monitor and power state are
as they were, but for a wind-down that ends with the check, where nothing more is said. -/
def Obligations.HeatingCheckActs : Prop :=
  ∀ s : State,
    (s.hs.checkedAt = some s.partTime → exec .heatingCheck s = .next s) ∧
    (s.hs.checkedAt ≠ some s.partTime → ∃ t, exec .heatingCheck s = .next t ∧
      PlantStep s t ∧ t.hs.checkedAt = some s.partTime ∧ (t.psc.power = s.psc.power →
      t.hs.idleStretch = (if s.hs.wantedTotal = 0 then some (s.hs.idleStretch.getD s.partTime) else none) ∧
      t.hs.startStretch =
        (if 0 < s.hs.wantedTotal ∧ s.hs.band = 0 then some (s.hs.startStretch.getD s.partTime) else none) ∧
      (loadLawful s → inUse s.psc.power = true → s.hs.pump = false → 0 < s.hs.wantedTotal →
        onStack s.la .pump = false →
        (committedLoad s + 180 ≤ allowanceInForce s.la → t.hs.pump = true ∧ t.hs.pumpDeferred = false) ∧
        (allowanceInForce s.la < committedLoad s + 180 → t.hs.pump = false ∧ t.hs.pumpDeferred = true)) ∧
      (∀ x, s.hs.idleStretch = some x → s.hs.pump = true → s.hs.wantedTotal = 0 → x + 120 ≤ s.partTime →
        heaterCounted s.hs.heater = false → t.hs.pump = false) ∧
      (∀ v, valueUsed s.ssu.coolant = some v → loadLawful s → s.hs.heater = .off → 0 < s.hs.wantedTotal →
        s.hs.pump = true → s.hs.permit = true → onStack s.la .heater = false → v < 700 →
        (s.psc.power = .layover ∨
          (s.psc.power = .run ∧ s.hs.band = 0 ∧ ∃ x, s.hs.startStretch = some x ∧ x + 120 ≤ s.partTime)) →
        (committedLoad s + 140 ≤ allowanceInForce s.la →
          t.hs.heater = (if s.pins.flame then .burning else .ignition) ∧ t.hs.heaterSince = s.partTime ∧
            t.hs.attempt = 1 ∧ t.hs.relight = 0 ∧ t.hs.heaterDeferred = false) ∧
        (allowanceInForce s.la < committedLoad s + 140 → t.hs.heater = .off ∧ t.hs.heaterDeferred = true)) ∧
      (∀ x, s.hs.idleStretch = some x → s.hs.wantedTotal = 0 → x + 300 ≤ s.partTime → runRequest s.hs = true →
        t.hs.heater = .afterRun ∧ t.hs.heaterSince = s.partTime ∧ t.hs.cause = some .stop ∧ t.hs.latched = false) ∧
      (loadLawful s → s.hs.heater = .afterRun ∨ s.hs.heater = .retryPurge →
        ∀ idle : Bool, idle = (decide (s.hs.wantedTotal = 0) && s.hs.idleStretch.any (fun x => decide (x + 300 ≤ s.partTime))) →
        ∀ wants : Bool, wants =
          (decide (0 < t.hs.wantedTotal) && t.hs.pump && t.hs.permit && !onStack t.la .heater &&
            (valueUsed t.ssu.coolant).any (fun v => decide (v < 700)) &&
            (s.psc.power == .layover ||
              (s.psc.power == .run && t.hs.startStretch.any (fun x => decide (x + 120 ≤ s.partTime))))) →
        t.hs.latched = ((!idle && s.hs.latched) || wants) ∧
          (t.hs.heater = s.hs.heater ∧ t.hs.heaterSince = s.hs.heaterSince ∧
            t.hs.cause = if idle = true ∧ s.hs.heater = .afterRun then some .stop else s.hs.cause))))

/-- FLAME_PRESENT and FLAME_LOSS (R117, R119, R120), IGNITION_EXPIRY and PURGE_EXPIRY (R119, R121), with nothing to shed: a flame in Ignition
gives Burning; its loss in Burning sets AUX_FAULT and gives After-run with a latched start the first time, Lockout with AUX_LOCK after
a relight; 90 s of a first Ignition give Retry-purge with a latched start, of a second Lockout with both flags; a purge that has run
its time gives Ignition where a latched start stands and the start condition holds (attempt 2 after Retry-purge, a relight after a
flame loss), and Off otherwise. A flame lost outside Burning changes nothing but its pin, in Winding-down too while the wind-down does not
end with it. The latched start is cleared at the entry to Ignition, to Off and to Lockout (log entry 23, the model's
reading). A repeated level and an expiry not due change nothing (log entry 2, the model's choice). -/
def Obligations.HeaterEventsAct : Prop :=
  (∀ (s : State) (on : Pins), on = { s.pins with flame := true } → ∀ off, off = { s.pins with flame := false } →
      (s.pins.flame = true → exec .flamePresent s = .next s) ∧
      (s.pins.flame = false →
        exec .flamePresent s =
          .next
            ((s.setPins on).setHs
              (if s.hs.heater = .ignition then { s.hs with heater := .burning, heaterSince := s.partTime } else s.hs))) ∧
      (s.pins.flame = false → exec .flameLoss s = .next s) ∧
      (s.pins.flame = true → s.hs.heater ≠ .burning →
        (settled s = true → s.psc.power ≠ .windingDown → exec .flameLoss s = .next (s.setPins off)) ∧
        (windDownAtRest s = true → exec .flameLoss s = .next (s.setPins off)) ∧
        (settled s = true → ∃ t, exec .flameLoss s = .next t ∧ PlantStep (s.setPins off) t ∧
          (t.psc.power = s.psc.power → t.hs = s.hs ∧ t.cs = s.cs ∧ t.la = s.la ∧ t.apc = s.apc ∧ t.ca = s.ca ∧ t.hlu = s.hlu))) ∧
      (s.pins.flame = true → settled s = true → s.psc.power ≠ .windingDown →
        (s.hs.heater = .burning → s.hs.relight = 0 →
          exec .flameLoss s =
            .next
              ((raise .auxFault (s.setPins off)).setHs
                { s.hs with
                  heater := .afterRun
                  heaterSince := s.partTime
                  cause := some .flameLoss
                  latched := true })) ∧
        (s.hs.heater = .burning → s.hs.relight ≠ 0 → ∃ t, exec .flameLoss s = .next t ∧ PlantOnly (s.setPins off) t ∧
          hasFlag t.hlu.latched .auxFault = true ∧ hasFlag t.hlu.latched .auxLock = true ∧
          t.hs =
            { s.hs with
              heater := .lockout
              heaterSince := s.partTime
              cause := none
              latched := false }))) ∧
  (∀ s : State, settled s = true →
      ∀ due : Bool, due =
        ((s.hs.heater == .afterRun && decide (s.hs.heaterSince + 120 ≤ s.partTime)) ||
          (s.hs.heater == .retryPurge && decide (s.hs.heaterSince + 60 ≤ s.partTime))) →
      (s.hs.heater ≠ .ignition ∨ s.partTime < s.hs.heaterSince + 90 → exec .ignitionExpiry s = .next s) ∧
      (s.hs.heater = .ignition → s.hs.heaterSince + 90 ≤ s.partTime → s.psc.power ≠ .windingDown →
        (s.hs.attempt = 1 →
          exec .ignitionExpiry s =
            .next
              (s.setHs
                { s.hs with heater := .retryPurge, heaterSince := s.partTime, cause := none, latched := true })) ∧
        (s.hs.attempt ≠ 1 → ∃ t, exec .ignitionExpiry s = .next t ∧ PlantOnly s t ∧
          hasFlag t.hlu.latched .auxFault = true ∧ hasFlag t.hlu.latched .auxLock = true ∧
          t.hs = { s.hs with heater := .lockout, heaterSince := s.partTime, cause := none, latched := false })) ∧
      (due = false → exec .purgeExpiry s = .next s) ∧
      (due = true → s.hs.latched = true → startCondition s = true →
        exec .purgeExpiry s =
          .next
            (s.setHs
              { s.hs with
                heater := if s.pins.flame then .burning else .ignition
                heaterSince := s.partTime
                attempt := if s.hs.heater = .retryPurge then 2 else 1
                relight := if s.hs.heater = .afterRun ∧ s.hs.cause = some .flameLoss then 1 else s.hs.relight
                cause := none
                latched := false })) ∧
      (due = true → s.hs.latched = false ∨ startCondition s = false → s.psc.power ≠ .windingDown →
        ∃ t, exec .purgeExpiry s = .next t ∧ PlantOnly s t ∧
          t.hs = { s.hs with heater := .off, heaterSince := s.partTime, cause := none, latched := false }) ∧
      (due = true → s.psc.power = .windingDown → ∃ t, exec .purgeExpiry s = .next t ∧ t.hs.heater = .off ∧
        t.hs.pump = false))

/-! ## Dampers and screen checks -/

/-- DAMPER_STEP (R136) at a part time that is a multiple of 10, in Run and Layover, once (log entry 3): each damper is worked out by the
five steps from its channel and the outdoor value used, and nothing else changes. At any other time it changes nothing. -/
def Obligations.DamperSteps : Prop :=
  ∀ s : State,
    let pos : ChannelRec → Nat → Nat := fun ch p =>
      match valueUsed ch with
      | none => max 30 s.apc.freshMin
      | some ppm =>
        let moved := if 1000 < ppm then p + 5 else if ppm < 800 then p - 5 else p
        let top := if (outdoorUsed s < -100 ∨ 380 < outdoorUsed s) ∧ ppm ≤ 1500 then 40 else 100
        if moved < s.apc.freshMin then s.apc.freshMin else min moved (max top s.apc.freshMin)
    (inUse s.psc.power = true → s.partTime % 10 = 0 → s.apc.damperAt ≠ s.partTime →
      exec .damperStep s =
        .next
          (s.setApc
            { s.apc with
              damperLower := pos s.ssu.co2Lower s.apc.damperLower
              damperUpper :=
                if s.scm.active then max 50 (pos s.ssu.co2Upper s.apc.damperUpper)
                else pos s.ssu.co2Upper s.apc.damperUpper
              damperAt := s.partTime })) ∧
    (inUse s.psc.power = false ∨ s.partTime % 10 ≠ 0 ∨ s.apc.damperAt = s.partTime → exec .damperStep s = .next s)

/-- SCREEN_CHECK (R144 to R148) in Run and Layover, once in a second (log entry 3): the margin is worked out from the three values used;
the fog timer counts margins below 20 and asserts screen clear at 30, as a host request does; screen clear is released after 120 s
with no host request and a margin of 40 or more, or none; the rest of the monitor stands. A margin of 20 to 39 sets the fog timer to 0,
where the model follows R146 against R145's last sentence (log entry 39). -/
def Obligations.ScreenCheckActs : Prop :=
  ∀ s : State, inUse s.psc.power = true →
    ∀ m : Option Int, m =
      (match valueUsed s.ssu.glass, valueUsed s.ssu.humidity, (s.zone .u1).tempUsed with
      | some g, some h, some u => some (g - (u - (100 - max h 40) * 2))
      | _, _, _ => none) →
    ∀ fog, fog =
      (match m with
      | some v => if v < 20 then s.scm.fog + 1 else 0
      | none => 0) →
    ∀ mon, mon = { s.scm with margin := m, detection := m.isSome, checkedAt := some s.partTime } →
    (s.scm.checkedAt = some s.partTime → exec .screenCheck s = .next s) ∧
    (s.scm.checkedAt ≠ some s.partTime → s.scm.active = false → s.scm.hostRequest = false → fog < 30 → settled s = true →
      exec .screenCheck s = .next (s.setScm { mon with fog := fog })) ∧
    (s.scm.checkedAt ≠ some s.partTime → s.scm.active = false → s.scm.hostRequest = true ∨ 30 ≤ fog →
      ∃ t, exec .screenCheck s = .next t ∧ OutsideKept s t ∧ t.zc = s.zc ∧ t.psc = s.psc ∧
        t.scm = { mon with active := true, activeSince := some s.partTime, fog := 0 } ∧
        hasFlag t.hlu.latched .screen = true ∧ (t.ca.entry .scc).wanted = 2 ∧ (t.ca.entry .sch).wanted = 2 ∧
        50 ≤ t.apc.damperUpper) ∧
    (∀ x, s.scm.activeSince = some x → s.scm.checkedAt ≠ some s.partTime → s.scm.active = true →
      (x + 120 ≤ s.partTime → s.scm.hostRequest = false → (∀ v, m = some v → 40 ≤ v) →
        ∃ t, exec .screenCheck s = .next t ∧ OutsideKept s t ∧ t.zc = s.zc ∧ t.psc = s.psc ∧
          t.scm = { mon with active := false, activeSince := none, fog := 0 } ∧
          (t.ca.entry .scc).wanted = 0 ∧ (t.ca.entry .sch).wanted = 0 ∧ (t.ca.entry .scc).held = 0 ∧
          (t.ca.entry .sch).held = 0) ∧
      (s.partTime < x + 120 ∨ s.scm.hostRequest = true ∨ (∃ v, m = some v ∧ v < 40) → settled s = true →
        exec .screenCheck s = .next (s.setScm { mon with fog := 0 })))

/-! ## Serving and granting -/

/-- Who gains and who loses tokens. The next free token of a pool goes, under Strict and Level, to the highest-ranked servable entry, under
Open to the screen-clear entry if that is servable and otherwise to the servable entry longest in the wait queue; it gains one token, now,
and no other entry changes. After a serve pass over a lawful arbiter, each pool has no free token or no servable entry of its kind:
under every nesting mode no token stays free while an unmasked short entry wants it (R50, R51). The victim of a preemption (R52, R53) is
the lowest-ranked zone other than the requester that holds a token of the kind and, against a zone, is unprotected and below it as the
nesting mode reads the orders, none being eligible under Open; the requester is the highest-ranked servable entry with such a victim. The
victim of a reclaim (R56, R57) is a zone that holds a token of the kind, the lowest-ranked one, under Open the newest and of equals the
lowest-ranked, and the screen-clear entry only where no zone holds any. A gain that fills a zone's entry turns its Rotating orders, and no
other gain does (R54). -/
def Obligations.FreeTokensServed : Prop :=
  (∀ (now : Nat) (a : Arbiter) (k : TokenKind), ordersLawful a.orders →
      ∀ rank : EntryId → Nat, rank = (fun i => (ranking a.orders).idxOf i) →
      (nextServed k a = none → distribute now k 1 a = a ∧
        ∀ j, servable k a j = true → a.modes.nesting = .openNest ∧ j ∉ a.queue) ∧
      ∀ i, nextServed k a = some i → servable k a i = true ∧ distribute now k 1 a = gainToken now i a ∧
        (a.modes.nesting ≠ .openNest → ∀ j, servable k a j = true → rank i ≤ rank j) ∧
        (a.modes.nesting = .openNest → i ≠ screenEntry k → servable k a (screenEntry k) = false ∧ i ∈ a.queue ∧
          ∀ j ∈ a.queue, servable k a j = true → a.queue.idxOf i ≤ a.queue.idxOf j)) ∧
  (∀ (now : Nat) (a : Arbiter) (k : TokenKind), ordersLawful a.orders → tableLawful a → poolsLawful a → queueLawful a →
      (servePass now a).arb.free k = 0 ∨ ∀ i, servable k (servePass now a).arb i = false) ∧
  (∀ (now : Nat) (a : Arbiter) (k : TokenKind), ordersLawful a.orders → tableLawful a →
      ∀ rank : EntryId → Nat, rank = (fun i => (ranking a.orders).idxOf i) →
      ∀ holds : Zone → Bool, holds = (fun z =>
        decide ((a.entry (.zone z)).kind = kindOf k) && decide (0 < (a.entry (.zone z)).held)) →
      ∀ below : List Line → Line → Line → Bool, below = (fun order x y => decide (order.idxOf y < order.idxOf x)) →
      ∀ elig : EntryId → Zone → Bool, elig = (fun r v =>
        holds v && decide (r ≠ .zone v) &&
          match r with
          | .scc | .sch => true
          | .zone y =>
            (a.entry (.zone v)).since.all (fun t0 => decide (t0 + a.modes.hold ≤ now)) &&
              match a.modes.nesting with
              | .strict => below a.orders.saloon (saloonLineOf v) (saloonLineOf y)
              | .level =>
                below a.orders.saloon (saloonLineOf v) (saloonLineOf y) ||
                  (decide (deckLineOf v ∈ a.orders.lower ∧ deckLineOf y ∈ a.orders.lower) &&
                    below a.orders.lower (deckLineOf v) (deckLineOf y)) ||
                  (decide (deckLineOf v ∈ a.orders.upper ∧ deckLineOf y ∈ a.orders.upper) &&
                    below a.orders.upper (deckLineOf v) (deckLineOf y))
              | .openNest => false) →
      (∀ r, (victimOf now k a r = none → ∀ z, elig r z = false) ∧
        ∀ v, victimOf now k a r = some v →
          ∃ z, v = .zone z ∧ elig r z = true ∧ ∀ y, elig r y = true → rank (.zone y) ≤ rank v) ∧
      (requesterOf now k a = none → ∀ r, servable k a r = true → ∀ z, elig r z = false) ∧
      (∀ r, requesterOf now k a = some r → servable k a r = true ∧ (∃ z, elig r z = true) ∧
        ∀ q, servable k a q = true → rank q < rank r → ∀ z, elig q z = false) ∧
      ((∀ z, holds z = false) → reclaimVictim k a = screenEntry k) ∧
      ((∃ z, holds z = true) → ∃ z, reclaimVictim k a = .zone z ∧ holds z = true ∧
        (a.modes.nesting ≠ .openNest → ∀ y, holds y = true → rank (.zone y) ≤ rank (.zone z)) ∧
        (a.modes.nesting = .openNest → ∀ y, holds y = true → ∀ t0 t1, (a.entry (.zone z)).since = some t0 →
          (a.entry (.zone y)).since = some t1 → t1 < t0 ∨ (t1 = t0 ∧ rank (.zone y) ≤ rank (.zone z))))) ∧
  ∀ (now : Nat) (a : Arbiter) (i : EntryId), ∀ o, o = (gainToken now i a).orders →
    (((gainToken now i a).entry i).held = (a.entry i).held + 1 ∧ ((gainToken now i a).entry i).since = some now ∧
      ∀ j, j ≠ i → (gainToken now i a).entry j = a.entry j) ∧
    ((∀ z, i ≠ .zone z) ∨ (a.entry i).held + 1 < (a.entry i).wanted → o = a.orders) ∧
    ∀ z, i = .zone z → (a.entry i).wanted ≤ (a.entry i).held + 1 →
      o.saloon =
        (if a.modes.saloon = .rotating then a.orders.saloon.filter (· != saloonLineOf z) ++ [saloonLineOf z]
        else a.orders.saloon) ∧
      o.lower =
        (if a.modes.lower = .rotating ∧ (z = .l1 ∨ z = .l2) then
          a.orders.lower.filter (· != deckLineOf z) ++ [deckLineOf z]
        else a.orders.lower) ∧
      o.upper =
        (if a.modes.upper = .rotating ∧ deckOf z = .upper then
          a.orders.upper.filter (· != deckLineOf z) ++ [deckLineOf z]
        else a.orders.upper)

/-- The load account's answers. A blower raise (R82): with a the largest whole percent that fits beside the other load, the speed asked for
is granted where it fits, and otherwise the larger of a, the present speed and the vent minimum; on the shed stack never above the
larger of present speed and vent minimum; never below the present speed, nor below a vent minimum asked for; and a grant above both is
within the allowance in force. Shedding (R84 to R86): items are shed in the order B, blowers from the lowest-ranked zone up, A, heater,
pump, or with screen clear heater, pump, A, none passed over that is sheddable, each pushed with its time, while the load is above its
bound, tested again after each and no further once the test passes, until then or until nothing is sheddable; the owner of each shed item acts on it (a compressor to Unloading, a blower to the vent minimum, the pump
and with it the heater stopped), no other plant changes, and SHED is set; that the loop runs to its end before the reclaims it brings is the
model's choice (log entry 9). A restore attempt (R88) pops from the top, each entry only where
its full load fits the headroom then left, and stops at the first that does not fit. -/
def Obligations.BlowerGrant : Prop :=
  (∀ (s : State) (z : Zone) (w c : Nat), c = (s.blower z).speed → c < w → ∀ g, g = grantedSpeed s z c w →
      ∀ a : Int, a = ((allowanceInForce s.la : Int) - ((committedLoad s : Int) - 5 * c)).tdiv 5 →
      (onStack s.la (.blower z) = false → (w : Int) ≤ a → g = w) ∧
      (onStack s.la (.blower z) = false → a < w → (g : Int) = max a (max c s.apc.ventMin : Nat)) ∧
      (onStack s.la (.blower z) = true → g = min w (max c s.apc.ventMin)) ∧
      c ≤ g ∧ (s.apc.ventMin ≤ w → s.apc.ventMin ≤ g) ∧
      (max c s.apc.ventMin < g → committedLoad (s.setBlower z { s.blower z with speed := g }) ≤ allowanceInForce s.la)) ∧
  (∀ s : State, ordersLawful s.ca.orders → ∀ order : List LoadItem, order =
        .comp .b :: (zoneRanking s.ca.orders).reverse.map LoadItem.blower ++
          (if s.scm.active then [.heater, .pump, .comp .a] else [.comp .a, .heater, .pump]) →
      ∀ above : State → LoadItem → Bool, above = (fun u i =>
        !onStack u.la i &&
          match i with
          | .comp c => compCounted (u.comp c).state
          | .pump => u.hs.pump
          | .heater => heaterCounted u.hs.heater
          | .blower z => inService (u.zone z).opMode && decide (u.apc.ventMin < (u.blower z).speed)) →
      ∃ t, t = (shedLoop 10 s).1 ∧ ∃ shed, shed = (t.la.stack.take (t.la.stack.length - s.la.stack.length)).reverse ∧
        t.la.stack = shed.reverse ++ s.la.stack ∧ (∀ e ∈ shed, e.time = s.partTime) ∧
        (shed.map ShedEntry.item).Sublist order ∧
        (∀ (n : Nat) (e : ShedEntry), shed[n]? = some e → ∀ i ∈ order.take (order.idxOf e.item), above s i = true → i ∈ shed.map ShedEntry.item) ∧
        (∀ c, t.comp c =
          (if LoadItem.comp c ∈ shed.map ShedEntry.item ∧ ((s.comp c).state = .starting ∨ (s.comp c).state = .running) then
            { s.comp c with state := .unloading, stateSince := s.partTime, chargeStart := none }
          else s.comp c)) ∧
        (∀ z, t.blower z =
          (if LoadItem.blower z ∈ shed.map ShedEntry.item then { s.blower z with speed := s.apc.ventMin } else s.blower z)) ∧
        (∀ h, h = (if LoadItem.pump ∈ shed.map ShedEntry.item then { s.hs with pump := false } else s.hs) → t.hs =
          (if LoadItem.pump ∈ shed.map ShedEntry.item ∨ LoadItem.heater ∈ shed.map ShedEntry.item then
            match h.heater with
            | .ignition | .burning =>
              { h with heater := .afterRun, heaterSince := s.partTime, cause := some .stop, latched := false }
            | .afterRun => { h with cause := some .stop, latched := false }
            | .retryPurge => { h with latched := false }
            | .off | .lockout => h
          else h)) ∧
        (shed ≠ [] → hasFlag t.hlu.latched .shed = true) ∧
        (∀ n, n < shed.length → settled (shedLoop n s).1 = false ∧ (shedLoop n s).1.la.stack = (shed.take n).reverse ++ s.la.stack) ∧
        (settled s = true → t = s) ∧ (settled t = true ∨ ∀ i ∈ order, above t i = false)) ∧
  ∀ s t : State, t = restoreAttempt s →
    t = s.setLa { s.la with stack := t.la.stack } ∧ t.la.stack <:+ s.la.stack ∧
    ∀ (n : Nat) (e : ShedEntry), s.la.stack[n]? = some e → ∀ need, need = committedLoad (s.setLa { s.la with stack := s.la.stack.drop n }) +
        (match e.item with
        | .comp _ => 4200
        | .pump => 180
        | .heater => 140
        | .blower _ => 5 * (100 - s.apc.ventMin)) →
      (t.la.stack.length + n < s.la.stack.length → need ≤ allowanceInForce s.la) ∧
      (t.la.stack.length + n = s.la.stack.length → allowanceInForce s.la < need)

/-- The output pins (R60, R94, R117, R133, R136, R139): a contactor is closed in Starting, Running and Unloading, with the half fan output
driven, and the full output too while the throttle is set; each blower and damper stands at its position; a zone's two valves are
opened 25% for each token of their kind that it holds, U1's by those of SCc and SCh as well, to at most 100%; pump, heater run request
and screen blower follow their owners. -/
def Obligations.OutputsFollowState : Prop :=
  ∀ (s : State) (o : Outputs), o = outputsOf s →
    (∀ c, o.contactors.get c = compCounted (s.comp c).state ∧ o.fanHalf.get c = compCounted (s.comp c).state ∧
      o.fanFull.get c = (compCounted (s.comp c).state && (s.comp c).throttle)) ∧
    (∀ z, o.blowers.get z = (s.blower z).speed) ∧
    (∀ z e, e = s.ca.entry (.zone z) → ∀ cool, cool = 25 * (if e.kind = .cool then e.held else 0) →
      ∀ heat, heat = 25 * (if e.kind = .heat then e.held else 0) →
      o.coilValves.get z = (if z = .u1 then min 100 (cool + 25 * (s.ca.entry .scc).held) else cool) ∧
      o.convectorValves.get z = (if z = .u1 then min 100 (heat + 25 * (s.ca.entry .sch).held) else heat)) ∧
    (o.pump = s.hs.pump ∧ o.heaterRun = (s.hs.heater == .ignition || s.hs.heater == .burning) ∧
      o.damperLower = s.apc.damperLower ∧ o.damperUpper = s.apc.damperUpper ∧ o.screenBlower = s.scm.active)

/-! ## Laws that every step keeps -/

/-- Every law below, those of the arbiter, its hand-offs, the loads, flags, store, air, heater and the rest, holds of State.reset. -/
def Obligations.LawsHoldAtReset : Prop :=
  arbiterLawful State.reset ∧ flagsLawful State.reset.hlu ∧ storeLawful State.reset.ps ∧ airLawful State.reset.apc ∧
    loadLawful State.reset ∧ handoffsLawful State.reset ∧ heaterLawful State.reset.hs ∧ restLawful State.reset

/-- The laws of the Capacity Arbiter (R40, R41, R43, R44, R49): whatever command comes, the orders stay permutations, every entry holds at
most what it wants and wants at most 4, no pool is overdrawn, the wait queue holds exactly the short entries, each once, and the
screen-clear entries want what screen clear gives them. With them every step keeps the hand-offs: each zone's entry has the kind and
number wanted of its record (R17, R47, R48), its blower the tokens it holds (R55), the pools the capacities of the running plant (R69,
R71), and the sequencers the totals and SCc's state of the arbiter (R58). -/
def Obligations.ArbiterLawsKept : Prop :=
  (∀ s t : State, arbiterLawful s → step s = .next t → arbiterLawful t) ∧
  ∀ s t : State, arbiterLawful s → handoffsLawful s → step s = .next t → handoffsLawful t

/-- Every step keeps each of these laws: of the flag sets (R168, R178), of the store (R173, R174), of the Air Path Controller's ranges (R127,
R128, R140), that the heater shows its run request only while the pump runs (R116, R118, R122), and of rest, where the blowers answer
their zones, as `LoadBoundKept` keeps them: in Winding-down and Parked IGNITION is off, zones are in Standby, no plant is being started or
running, and dampers stand at the fresh minimum; plant reported stopped in a wind-down stays stopped, that of the Air Path Controller too,
as all of it does in Parked (R142, R157 to R159). -/
def Obligations.BlockLawsKept : Prop :=
  (∀ s t : State, step s = .next t →
      (flagsLawful s.hlu → flagsLawful t.hlu) ∧ (storeLawful s.ps → storeLawful t.ps) ∧ (airLawful s.apc → airLawful t.apc)) ∧
  (∀ s t : State, step s = .next t →
      (heaterLawful s.hs → heaterLawful t.hs) ∧ ((∀ z, blowerLawful s z) → restLawful s → restLawful t))

/-- Committed load never exceeds the larger of the allowance in force and the floor load (R84), no item stands twice on the shed stack, and
no plant on it is running, a compressor in Starting or Running, the pump, the heater in Ignition or Burning (R87): every step keeps all, with the blowers answering their zones (R133, R134), where the priority orders are permutations, as
`ArbiterLawsKept` keeps them (R44). -/
def Obligations.LoadBoundKept : Prop :=
  ∀ s t : State, ordersLawful s.ca.orders → loadLawful s → step s = .next t → loadLawful t

/-- The auxiliary heater never leaves After-run or Retry-purge for Ignition or Burning before that purge has run its full time, 120 s or
60 s from its heater state since, and only by the purge's own expiry (R121). -/
def Obligations.PurgeRunsFully : Prop :=
  ∀ (i : Instr) (s t : State), exec i s = .next t → runRequest t.hs = true →
    (s.hs.heater = .afterRun → i = .purgeExpiry ∧ s.hs.heaterSince + 120 ≤ s.partTime) ∧
    (s.hs.heater = .retryPurge → i = .purgeExpiry ∧ s.hs.heaterSince + 60 ≤ s.partTime)

/-- A compressor comes into Starting only at a staging check in Run or Layover, from Off, or from Tripped where that ends at this check
(R106), at least 300 s after it stopped, enabled, not on the shed stack, with both its pressures known, at 5.0 °C outdoors or more or
with SCc short, as it stood or as the other compressor's stop at this check has left it (log entry 11), the other compressor not in
Starting, and fewer than six starts in the last 3,600 s, to which this one is added (R95, R97, R98, R99). -/
def Obligations.CompressorStartsLawfully : Prop :=
  ∀ (i : Instr) (c : Comp) (s t : State), exec i s = .next t → (s.comp c).state ≠ .starting → (t.comp c).state = .starting →
    i = .stagingCheck ∧ inUse s.psc.power = true ∧ (s.comp c).stoppedSince + 300 ≤ s.partTime ∧
      (s.comp c).enable = true ∧ onStack t.la (.comp c) = false ∧ valueUsed (s.ssu.pressureHigh.get c) ≠ none ∧
      valueUsed (s.ssu.pressureLow.get c) ≠ none ∧ (s.comp (otherComp c)).state ≠ .starting ∧
      ((s.comp c).state = .off ∨
        ((s.comp c).state = .tripped ∧ (s.comp c).stateSince + 600 ≤ s.partTime ∧
          ∃ v, valueUsed (s.ssu.pressureHigh.get c) = some v ∧ v < 200)) ∧
      (50 ≤ outdoorUsed s ∨ s.cs.sccShort = true ∨
        (0 < (s.ca.entry .scc).wanted ∧ (s.comp (otherComp c)).state = .running ∧ (t.comp (otherComp c)).state ≠ .running)) ∧
      (t.comp c).startLog = (s.comp c).startLog.filter (fun x => decide (s.partTime < x + 3600)) ++ [s.partTime] ∧
      (t.comp c).startLog.length ≤ 6 ∧ (t.comp c).onSince = some s.partTime ∧ (t.comp c).stateSince = s.partTime

/-- A masked zone never gains tokens (R59): whatever command comes, a zone masked before and after it holds no more than it did. -/
def Obligations.MaskedZonesNeverGain : Prop :=
  ∀ (i : Instr) (z : Zone) (s t : State), exec i s = .next t → (s.ca.entry (.zone z)).masked = true →
    (t.ca.entry (.zone z)).masked = true → (t.ca.entry (.zone z)).held ≤ (s.ca.entry (.zone z)).held

/-- Event flags come from the events that R168 names and stay until EVENT CLEAR (R168, R169) or a reset (R172): a flag that no reset is at
work on becomes latched only by a command or event that may set it, a command brought by a frame among them, or, for SHED, PREEMPT,
RECLAIM and POWER, by a frame that wakes the part in Parked; POWER only where the power state changes or PARK is taken; and a flag goes
only by an EVENT CLEAR that names it. -/
def Obligations.FlagsComeFromTheirEvents : Prop :=
  ∀ (i : Instr) (f : Flag) (s t : State), exec i s = .next t → isReset i = false →
    (hasFlag s.hlu.latched f = false → hasFlag t.hlu.latched f = true →
      ((carriedCommand i s).any (fun c => setsFlag c f) = true ∨
          (s.psc.power = .parked ∧ completesFrame i s = true ∧ (f = .shed ∨ f = .preempt ∨ f = .reclaim ∨ f = .power))) ∧
        (f = .power → t.psc.power ≠ s.psc.power ∨ carriedCommand i s = some .park)) ∧
    (hasFlag s.hlu.latched f = true → hasFlag t.hlu.latched f = false →
      ∃ g, carriedCommand i s = some (.eventClear g) ∧ hasFlag g f = true)

/-- The minimum run of screen clear (R148, R151): before 120 s have passed since its assertion nothing but a PARK frame and a reset ends
it. -/
def Obligations.ScreenClearRunsItsMinimum : Prop :=
  ∀ (i : Instr) (x : Nat) (s t : State), exec i s = .next t → s.scm.active = true → s.scm.activeSince = some x →
    s.partTime < x + 120 → t.scm.active = false →
    carriedCommand i s = some .park ∨ isReset i = true

/-- What wakes the part (R159): from Parked nothing but IGNITION on, a door edge, the lead expiry, the completion of a frame (by the
byte that completes it with the right CRC, too) and a reset changes the power state, and no other event changes a zone's mode or a channel there. -/
def Obligations.OnlyWakeSourcesWake : Prop :=
  ∀ (i : Instr) (s t : State), exec i s = .next t → s.psc.power = .parked →
    i = .ignition true ∨ (∃ d, i = .doorEdge d) ∨ i = .leadExpiry ∨ completesFrame i s = true ∨ isReset i = true ∨
      (t.psc.power = .parked ∧ t.ssu = s.ssu ∧ (∀ z, (t.zone z).opMode = (s.zone z).opMode) ∧
        ∀ z, (t.zone z).timer = (s.zone z).timer)
end

