-- ==== Sys2Proof/Laws/State.lean ====
section
/-! SUPPORT. One lemma for each field under each update of `State`, and for the records reached through it: reading after
writing. -/

namespace Sys2Proof.Machine

/-! ### setPartTime -/

@[simp] theorem State.setPartTime_partTime (s : State) (v : Nat) : (s.setPartTime v).partTime = v := rfl
@[simp] theorem State.setPartTime_freeCount (s : State) (v : Nat) : (s.setPartTime v).freeCount = s.freeCount := rfl
@[simp] theorem State.setPartTime_pins (s : State) (v : Nat) : (s.setPartTime v).pins = s.pins := rfl
@[simp] theorem State.setPartTime_ssu (s : State) (v : Nat) : (s.setPartTime v).ssu = s.ssu := rfl
@[simp] theorem State.setPartTime_zc (s : State) (v : Nat) : (s.setPartTime v).zc = s.zc := rfl
@[simp] theorem State.setPartTime_ca (s : State) (v : Nat) : (s.setPartTime v).ca = s.ca := rfl
@[simp] theorem State.setPartTime_la (s : State) (v : Nat) : (s.setPartTime v).la = s.la := rfl
@[simp] theorem State.setPartTime_cs (s : State) (v : Nat) : (s.setPartTime v).cs = s.cs := rfl
@[simp] theorem State.setPartTime_hs (s : State) (v : Nat) : (s.setPartTime v).hs = s.hs := rfl
@[simp] theorem State.setPartTime_apc (s : State) (v : Nat) : (s.setPartTime v).apc = s.apc := rfl
@[simp] theorem State.setPartTime_scm (s : State) (v : Nat) : (s.setPartTime v).scm = s.scm := rfl
@[simp] theorem State.setPartTime_psc (s : State) (v : Nat) : (s.setPartTime v).psc = s.psc := rfl
@[simp] theorem State.setPartTime_hlu (s : State) (v : Nat) : (s.setPartTime v).hlu = s.hlu := rfl
@[simp] theorem State.setPartTime_ps (s : State) (v : Nat) : (s.setPartTime v).ps = s.ps := rfl
@[simp] theorem State.setPartTime_pending (s : State) (v : Nat) : (s.setPartTime v).pending = s.pending := rfl

/-! ### setFreeCount -/

@[simp] theorem State.setFreeCount_partTime (s : State) (v : Nat) : (s.setFreeCount v).partTime = s.partTime := rfl
@[simp] theorem State.setFreeCount_freeCount (s : State) (v : Nat) : (s.setFreeCount v).freeCount = v := rfl
@[simp] theorem State.setFreeCount_pins (s : State) (v : Nat) : (s.setFreeCount v).pins = s.pins := rfl
@[simp] theorem State.setFreeCount_ssu (s : State) (v : Nat) : (s.setFreeCount v).ssu = s.ssu := rfl
@[simp] theorem State.setFreeCount_zc (s : State) (v : Nat) : (s.setFreeCount v).zc = s.zc := rfl
@[simp] theorem State.setFreeCount_ca (s : State) (v : Nat) : (s.setFreeCount v).ca = s.ca := rfl
@[simp] theorem State.setFreeCount_la (s : State) (v : Nat) : (s.setFreeCount v).la = s.la := rfl
@[simp] theorem State.setFreeCount_cs (s : State) (v : Nat) : (s.setFreeCount v).cs = s.cs := rfl
@[simp] theorem State.setFreeCount_hs (s : State) (v : Nat) : (s.setFreeCount v).hs = s.hs := rfl
@[simp] theorem State.setFreeCount_apc (s : State) (v : Nat) : (s.setFreeCount v).apc = s.apc := rfl
@[simp] theorem State.setFreeCount_scm (s : State) (v : Nat) : (s.setFreeCount v).scm = s.scm := rfl
@[simp] theorem State.setFreeCount_psc (s : State) (v : Nat) : (s.setFreeCount v).psc = s.psc := rfl
@[simp] theorem State.setFreeCount_hlu (s : State) (v : Nat) : (s.setFreeCount v).hlu = s.hlu := rfl
@[simp] theorem State.setFreeCount_ps (s : State) (v : Nat) : (s.setFreeCount v).ps = s.ps := rfl
@[simp] theorem State.setFreeCount_pending (s : State) (v : Nat) : (s.setFreeCount v).pending = s.pending := rfl

/-! ### setPins -/

@[simp] theorem State.setPins_partTime (s : State) (v : Pins) : (s.setPins v).partTime = s.partTime := rfl
@[simp] theorem State.setPins_freeCount (s : State) (v : Pins) : (s.setPins v).freeCount = s.freeCount := rfl
@[simp] theorem State.setPins_pins (s : State) (v : Pins) : (s.setPins v).pins = v := rfl
@[simp] theorem State.setPins_ssu (s : State) (v : Pins) : (s.setPins v).ssu = s.ssu := rfl
@[simp] theorem State.setPins_zc (s : State) (v : Pins) : (s.setPins v).zc = s.zc := rfl
@[simp] theorem State.setPins_ca (s : State) (v : Pins) : (s.setPins v).ca = s.ca := rfl
@[simp] theorem State.setPins_la (s : State) (v : Pins) : (s.setPins v).la = s.la := rfl
@[simp] theorem State.setPins_cs (s : State) (v : Pins) : (s.setPins v).cs = s.cs := rfl
@[simp] theorem State.setPins_hs (s : State) (v : Pins) : (s.setPins v).hs = s.hs := rfl
@[simp] theorem State.setPins_apc (s : State) (v : Pins) : (s.setPins v).apc = s.apc := rfl
@[simp] theorem State.setPins_scm (s : State) (v : Pins) : (s.setPins v).scm = s.scm := rfl
@[simp] theorem State.setPins_psc (s : State) (v : Pins) : (s.setPins v).psc = s.psc := rfl
@[simp] theorem State.setPins_hlu (s : State) (v : Pins) : (s.setPins v).hlu = s.hlu := rfl
@[simp] theorem State.setPins_ps (s : State) (v : Pins) : (s.setPins v).ps = s.ps := rfl
@[simp] theorem State.setPins_pending (s : State) (v : Pins) : (s.setPins v).pending = s.pending := rfl

/-! ### setSsu -/

@[simp] theorem State.setSsu_partTime (s : State) (v : Channels) : (s.setSsu v).partTime = s.partTime := rfl
@[simp] theorem State.setSsu_freeCount (s : State) (v : Channels) : (s.setSsu v).freeCount = s.freeCount := rfl
@[simp] theorem State.setSsu_pins (s : State) (v : Channels) : (s.setSsu v).pins = s.pins := rfl
@[simp] theorem State.setSsu_ssu (s : State) (v : Channels) : (s.setSsu v).ssu = v := rfl
@[simp] theorem State.setSsu_zc (s : State) (v : Channels) : (s.setSsu v).zc = s.zc := rfl
@[simp] theorem State.setSsu_ca (s : State) (v : Channels) : (s.setSsu v).ca = s.ca := rfl
@[simp] theorem State.setSsu_la (s : State) (v : Channels) : (s.setSsu v).la = s.la := rfl
@[simp] theorem State.setSsu_cs (s : State) (v : Channels) : (s.setSsu v).cs = s.cs := rfl
@[simp] theorem State.setSsu_hs (s : State) (v : Channels) : (s.setSsu v).hs = s.hs := rfl
@[simp] theorem State.setSsu_apc (s : State) (v : Channels) : (s.setSsu v).apc = s.apc := rfl
@[simp] theorem State.setSsu_scm (s : State) (v : Channels) : (s.setSsu v).scm = s.scm := rfl
@[simp] theorem State.setSsu_psc (s : State) (v : Channels) : (s.setSsu v).psc = s.psc := rfl
@[simp] theorem State.setSsu_hlu (s : State) (v : Channels) : (s.setSsu v).hlu = s.hlu := rfl
@[simp] theorem State.setSsu_ps (s : State) (v : Channels) : (s.setSsu v).ps = s.ps := rfl
@[simp] theorem State.setSsu_pending (s : State) (v : Channels) : (s.setSsu v).pending = s.pending := rfl

/-! ### setZc -/

@[simp] theorem State.setZc_partTime (s : State) (v : ZoneCtl) : (s.setZc v).partTime = s.partTime := rfl
@[simp] theorem State.setZc_freeCount (s : State) (v : ZoneCtl) : (s.setZc v).freeCount = s.freeCount := rfl
@[simp] theorem State.setZc_pins (s : State) (v : ZoneCtl) : (s.setZc v).pins = s.pins := rfl
@[simp] theorem State.setZc_ssu (s : State) (v : ZoneCtl) : (s.setZc v).ssu = s.ssu := rfl
@[simp] theorem State.setZc_zc (s : State) (v : ZoneCtl) : (s.setZc v).zc = v := rfl
@[simp] theorem State.setZc_ca (s : State) (v : ZoneCtl) : (s.setZc v).ca = s.ca := rfl
@[simp] theorem State.setZc_la (s : State) (v : ZoneCtl) : (s.setZc v).la = s.la := rfl
@[simp] theorem State.setZc_cs (s : State) (v : ZoneCtl) : (s.setZc v).cs = s.cs := rfl
@[simp] theorem State.setZc_hs (s : State) (v : ZoneCtl) : (s.setZc v).hs = s.hs := rfl
@[simp] theorem State.setZc_apc (s : State) (v : ZoneCtl) : (s.setZc v).apc = s.apc := rfl
@[simp] theorem State.setZc_scm (s : State) (v : ZoneCtl) : (s.setZc v).scm = s.scm := rfl
@[simp] theorem State.setZc_psc (s : State) (v : ZoneCtl) : (s.setZc v).psc = s.psc := rfl
@[simp] theorem State.setZc_hlu (s : State) (v : ZoneCtl) : (s.setZc v).hlu = s.hlu := rfl
@[simp] theorem State.setZc_ps (s : State) (v : ZoneCtl) : (s.setZc v).ps = s.ps := rfl
@[simp] theorem State.setZc_pending (s : State) (v : ZoneCtl) : (s.setZc v).pending = s.pending := rfl

/-! ### setCa -/

@[simp] theorem State.setCa_partTime (s : State) (v : Arbiter) : (s.setCa v).partTime = s.partTime := rfl
@[simp] theorem State.setCa_freeCount (s : State) (v : Arbiter) : (s.setCa v).freeCount = s.freeCount := rfl
@[simp] theorem State.setCa_pins (s : State) (v : Arbiter) : (s.setCa v).pins = s.pins := rfl
@[simp] theorem State.setCa_ssu (s : State) (v : Arbiter) : (s.setCa v).ssu = s.ssu := rfl
@[simp] theorem State.setCa_zc (s : State) (v : Arbiter) : (s.setCa v).zc = s.zc := rfl
@[simp] theorem State.setCa_ca (s : State) (v : Arbiter) : (s.setCa v).ca = v := rfl
@[simp] theorem State.setCa_la (s : State) (v : Arbiter) : (s.setCa v).la = s.la := rfl
@[simp] theorem State.setCa_cs (s : State) (v : Arbiter) : (s.setCa v).cs = s.cs := rfl
@[simp] theorem State.setCa_hs (s : State) (v : Arbiter) : (s.setCa v).hs = s.hs := rfl
@[simp] theorem State.setCa_apc (s : State) (v : Arbiter) : (s.setCa v).apc = s.apc := rfl
@[simp] theorem State.setCa_scm (s : State) (v : Arbiter) : (s.setCa v).scm = s.scm := rfl
@[simp] theorem State.setCa_psc (s : State) (v : Arbiter) : (s.setCa v).psc = s.psc := rfl
@[simp] theorem State.setCa_hlu (s : State) (v : Arbiter) : (s.setCa v).hlu = s.hlu := rfl
@[simp] theorem State.setCa_ps (s : State) (v : Arbiter) : (s.setCa v).ps = s.ps := rfl
@[simp] theorem State.setCa_pending (s : State) (v : Arbiter) : (s.setCa v).pending = s.pending := rfl

/-! ### setLa -/

@[simp] theorem State.setLa_partTime (s : State) (v : LoadAccount) : (s.setLa v).partTime = s.partTime := rfl
@[simp] theorem State.setLa_freeCount (s : State) (v : LoadAccount) : (s.setLa v).freeCount = s.freeCount := rfl
@[simp] theorem State.setLa_pins (s : State) (v : LoadAccount) : (s.setLa v).pins = s.pins := rfl
@[simp] theorem State.setLa_ssu (s : State) (v : LoadAccount) : (s.setLa v).ssu = s.ssu := rfl
@[simp] theorem State.setLa_zc (s : State) (v : LoadAccount) : (s.setLa v).zc = s.zc := rfl
@[simp] theorem State.setLa_ca (s : State) (v : LoadAccount) : (s.setLa v).ca = s.ca := rfl
@[simp] theorem State.setLa_la (s : State) (v : LoadAccount) : (s.setLa v).la = v := rfl
@[simp] theorem State.setLa_cs (s : State) (v : LoadAccount) : (s.setLa v).cs = s.cs := rfl
@[simp] theorem State.setLa_hs (s : State) (v : LoadAccount) : (s.setLa v).hs = s.hs := rfl
@[simp] theorem State.setLa_apc (s : State) (v : LoadAccount) : (s.setLa v).apc = s.apc := rfl
@[simp] theorem State.setLa_scm (s : State) (v : LoadAccount) : (s.setLa v).scm = s.scm := rfl
@[simp] theorem State.setLa_psc (s : State) (v : LoadAccount) : (s.setLa v).psc = s.psc := rfl
@[simp] theorem State.setLa_hlu (s : State) (v : LoadAccount) : (s.setLa v).hlu = s.hlu := rfl
@[simp] theorem State.setLa_ps (s : State) (v : LoadAccount) : (s.setLa v).ps = s.ps := rfl
@[simp] theorem State.setLa_pending (s : State) (v : LoadAccount) : (s.setLa v).pending = s.pending := rfl

/-! ### setCs -/

@[simp] theorem State.setCs_partTime (s : State) (v : Cooling) : (s.setCs v).partTime = s.partTime := rfl
@[simp] theorem State.setCs_freeCount (s : State) (v : Cooling) : (s.setCs v).freeCount = s.freeCount := rfl
@[simp] theorem State.setCs_pins (s : State) (v : Cooling) : (s.setCs v).pins = s.pins := rfl
@[simp] theorem State.setCs_ssu (s : State) (v : Cooling) : (s.setCs v).ssu = s.ssu := rfl
@[simp] theorem State.setCs_zc (s : State) (v : Cooling) : (s.setCs v).zc = s.zc := rfl
@[simp] theorem State.setCs_ca (s : State) (v : Cooling) : (s.setCs v).ca = s.ca := rfl
@[simp] theorem State.setCs_la (s : State) (v : Cooling) : (s.setCs v).la = s.la := rfl
@[simp] theorem State.setCs_cs (s : State) (v : Cooling) : (s.setCs v).cs = v := rfl
@[simp] theorem State.setCs_hs (s : State) (v : Cooling) : (s.setCs v).hs = s.hs := rfl
@[simp] theorem State.setCs_apc (s : State) (v : Cooling) : (s.setCs v).apc = s.apc := rfl
@[simp] theorem State.setCs_scm (s : State) (v : Cooling) : (s.setCs v).scm = s.scm := rfl
@[simp] theorem State.setCs_psc (s : State) (v : Cooling) : (s.setCs v).psc = s.psc := rfl
@[simp] theorem State.setCs_hlu (s : State) (v : Cooling) : (s.setCs v).hlu = s.hlu := rfl
@[simp] theorem State.setCs_ps (s : State) (v : Cooling) : (s.setCs v).ps = s.ps := rfl
@[simp] theorem State.setCs_pending (s : State) (v : Cooling) : (s.setCs v).pending = s.pending := rfl

/-! ### setHs -/

@[simp] theorem State.setHs_partTime (s : State) (v : Heating) : (s.setHs v).partTime = s.partTime := rfl
@[simp] theorem State.setHs_freeCount (s : State) (v : Heating) : (s.setHs v).freeCount = s.freeCount := rfl
@[simp] theorem State.setHs_pins (s : State) (v : Heating) : (s.setHs v).pins = s.pins := rfl
@[simp] theorem State.setHs_ssu (s : State) (v : Heating) : (s.setHs v).ssu = s.ssu := rfl
@[simp] theorem State.setHs_zc (s : State) (v : Heating) : (s.setHs v).zc = s.zc := rfl
@[simp] theorem State.setHs_ca (s : State) (v : Heating) : (s.setHs v).ca = s.ca := rfl
@[simp] theorem State.setHs_la (s : State) (v : Heating) : (s.setHs v).la = s.la := rfl
@[simp] theorem State.setHs_cs (s : State) (v : Heating) : (s.setHs v).cs = s.cs := rfl
@[simp] theorem State.setHs_hs (s : State) (v : Heating) : (s.setHs v).hs = v := rfl
@[simp] theorem State.setHs_apc (s : State) (v : Heating) : (s.setHs v).apc = s.apc := rfl
@[simp] theorem State.setHs_scm (s : State) (v : Heating) : (s.setHs v).scm = s.scm := rfl
@[simp] theorem State.setHs_psc (s : State) (v : Heating) : (s.setHs v).psc = s.psc := rfl
@[simp] theorem State.setHs_hlu (s : State) (v : Heating) : (s.setHs v).hlu = s.hlu := rfl
@[simp] theorem State.setHs_ps (s : State) (v : Heating) : (s.setHs v).ps = s.ps := rfl
@[simp] theorem State.setHs_pending (s : State) (v : Heating) : (s.setHs v).pending = s.pending := rfl

/-! ### setApc -/

@[simp] theorem State.setApc_partTime (s : State) (v : AirPath) : (s.setApc v).partTime = s.partTime := rfl
@[simp] theorem State.setApc_freeCount (s : State) (v : AirPath) : (s.setApc v).freeCount = s.freeCount := rfl
@[simp] theorem State.setApc_pins (s : State) (v : AirPath) : (s.setApc v).pins = s.pins := rfl
@[simp] theorem State.setApc_ssu (s : State) (v : AirPath) : (s.setApc v).ssu = s.ssu := rfl
@[simp] theorem State.setApc_zc (s : State) (v : AirPath) : (s.setApc v).zc = s.zc := rfl
@[simp] theorem State.setApc_ca (s : State) (v : AirPath) : (s.setApc v).ca = s.ca := rfl
@[simp] theorem State.setApc_la (s : State) (v : AirPath) : (s.setApc v).la = s.la := rfl
@[simp] theorem State.setApc_cs (s : State) (v : AirPath) : (s.setApc v).cs = s.cs := rfl
@[simp] theorem State.setApc_hs (s : State) (v : AirPath) : (s.setApc v).hs = s.hs := rfl
@[simp] theorem State.setApc_apc (s : State) (v : AirPath) : (s.setApc v).apc = v := rfl
@[simp] theorem State.setApc_scm (s : State) (v : AirPath) : (s.setApc v).scm = s.scm := rfl
@[simp] theorem State.setApc_psc (s : State) (v : AirPath) : (s.setApc v).psc = s.psc := rfl
@[simp] theorem State.setApc_hlu (s : State) (v : AirPath) : (s.setApc v).hlu = s.hlu := rfl
@[simp] theorem State.setApc_ps (s : State) (v : AirPath) : (s.setApc v).ps = s.ps := rfl
@[simp] theorem State.setApc_pending (s : State) (v : AirPath) : (s.setApc v).pending = s.pending := rfl

/-! ### setScm -/

@[simp] theorem State.setScm_partTime (s : State) (v : ScreenMonitor) : (s.setScm v).partTime = s.partTime := rfl
@[simp] theorem State.setScm_freeCount (s : State) (v : ScreenMonitor) : (s.setScm v).freeCount = s.freeCount := rfl
@[simp] theorem State.setScm_pins (s : State) (v : ScreenMonitor) : (s.setScm v).pins = s.pins := rfl
@[simp] theorem State.setScm_ssu (s : State) (v : ScreenMonitor) : (s.setScm v).ssu = s.ssu := rfl
@[simp] theorem State.setScm_zc (s : State) (v : ScreenMonitor) : (s.setScm v).zc = s.zc := rfl
@[simp] theorem State.setScm_ca (s : State) (v : ScreenMonitor) : (s.setScm v).ca = s.ca := rfl
@[simp] theorem State.setScm_la (s : State) (v : ScreenMonitor) : (s.setScm v).la = s.la := rfl
@[simp] theorem State.setScm_cs (s : State) (v : ScreenMonitor) : (s.setScm v).cs = s.cs := rfl
@[simp] theorem State.setScm_hs (s : State) (v : ScreenMonitor) : (s.setScm v).hs = s.hs := rfl
@[simp] theorem State.setScm_apc (s : State) (v : ScreenMonitor) : (s.setScm v).apc = s.apc := rfl
@[simp] theorem State.setScm_scm (s : State) (v : ScreenMonitor) : (s.setScm v).scm = v := rfl
@[simp] theorem State.setScm_psc (s : State) (v : ScreenMonitor) : (s.setScm v).psc = s.psc := rfl
@[simp] theorem State.setScm_hlu (s : State) (v : ScreenMonitor) : (s.setScm v).hlu = s.hlu := rfl
@[simp] theorem State.setScm_ps (s : State) (v : ScreenMonitor) : (s.setScm v).ps = s.ps := rfl
@[simp] theorem State.setScm_pending (s : State) (v : ScreenMonitor) : (s.setScm v).pending = s.pending := rfl

/-! ### setPsc -/

@[simp] theorem State.setPsc_partTime (s : State) (v : PowerCtl) : (s.setPsc v).partTime = s.partTime := rfl
@[simp] theorem State.setPsc_freeCount (s : State) (v : PowerCtl) : (s.setPsc v).freeCount = s.freeCount := rfl
@[simp] theorem State.setPsc_pins (s : State) (v : PowerCtl) : (s.setPsc v).pins = s.pins := rfl
@[simp] theorem State.setPsc_ssu (s : State) (v : PowerCtl) : (s.setPsc v).ssu = s.ssu := rfl
@[simp] theorem State.setPsc_zc (s : State) (v : PowerCtl) : (s.setPsc v).zc = s.zc := rfl
@[simp] theorem State.setPsc_ca (s : State) (v : PowerCtl) : (s.setPsc v).ca = s.ca := rfl
@[simp] theorem State.setPsc_la (s : State) (v : PowerCtl) : (s.setPsc v).la = s.la := rfl
@[simp] theorem State.setPsc_cs (s : State) (v : PowerCtl) : (s.setPsc v).cs = s.cs := rfl
@[simp] theorem State.setPsc_hs (s : State) (v : PowerCtl) : (s.setPsc v).hs = s.hs := rfl
@[simp] theorem State.setPsc_apc (s : State) (v : PowerCtl) : (s.setPsc v).apc = s.apc := rfl
@[simp] theorem State.setPsc_scm (s : State) (v : PowerCtl) : (s.setPsc v).scm = s.scm := rfl
@[simp] theorem State.setPsc_psc (s : State) (v : PowerCtl) : (s.setPsc v).psc = v := rfl
@[simp] theorem State.setPsc_hlu (s : State) (v : PowerCtl) : (s.setPsc v).hlu = s.hlu := rfl
@[simp] theorem State.setPsc_ps (s : State) (v : PowerCtl) : (s.setPsc v).ps = s.ps := rfl
@[simp] theorem State.setPsc_pending (s : State) (v : PowerCtl) : (s.setPsc v).pending = s.pending := rfl

/-! ### setHlu -/

@[simp] theorem State.setHlu_partTime (s : State) (v : HostLink) : (s.setHlu v).partTime = s.partTime := rfl
@[simp] theorem State.setHlu_freeCount (s : State) (v : HostLink) : (s.setHlu v).freeCount = s.freeCount := rfl
@[simp] theorem State.setHlu_pins (s : State) (v : HostLink) : (s.setHlu v).pins = s.pins := rfl
@[simp] theorem State.setHlu_ssu (s : State) (v : HostLink) : (s.setHlu v).ssu = s.ssu := rfl
@[simp] theorem State.setHlu_zc (s : State) (v : HostLink) : (s.setHlu v).zc = s.zc := rfl
@[simp] theorem State.setHlu_ca (s : State) (v : HostLink) : (s.setHlu v).ca = s.ca := rfl
@[simp] theorem State.setHlu_la (s : State) (v : HostLink) : (s.setHlu v).la = s.la := rfl
@[simp] theorem State.setHlu_cs (s : State) (v : HostLink) : (s.setHlu v).cs = s.cs := rfl
@[simp] theorem State.setHlu_hs (s : State) (v : HostLink) : (s.setHlu v).hs = s.hs := rfl
@[simp] theorem State.setHlu_apc (s : State) (v : HostLink) : (s.setHlu v).apc = s.apc := rfl
@[simp] theorem State.setHlu_scm (s : State) (v : HostLink) : (s.setHlu v).scm = s.scm := rfl
@[simp] theorem State.setHlu_psc (s : State) (v : HostLink) : (s.setHlu v).psc = s.psc := rfl
@[simp] theorem State.setHlu_hlu (s : State) (v : HostLink) : (s.setHlu v).hlu = v := rfl
@[simp] theorem State.setHlu_ps (s : State) (v : HostLink) : (s.setHlu v).ps = s.ps := rfl
@[simp] theorem State.setHlu_pending (s : State) (v : HostLink) : (s.setHlu v).pending = s.pending := rfl

/-! ### setPs -/

@[simp] theorem State.setPs_partTime (s : State) (v : ProfileStore) : (s.setPs v).partTime = s.partTime := rfl
@[simp] theorem State.setPs_freeCount (s : State) (v : ProfileStore) : (s.setPs v).freeCount = s.freeCount := rfl
@[simp] theorem State.setPs_pins (s : State) (v : ProfileStore) : (s.setPs v).pins = s.pins := rfl
@[simp] theorem State.setPs_ssu (s : State) (v : ProfileStore) : (s.setPs v).ssu = s.ssu := rfl
@[simp] theorem State.setPs_zc (s : State) (v : ProfileStore) : (s.setPs v).zc = s.zc := rfl
@[simp] theorem State.setPs_ca (s : State) (v : ProfileStore) : (s.setPs v).ca = s.ca := rfl
@[simp] theorem State.setPs_la (s : State) (v : ProfileStore) : (s.setPs v).la = s.la := rfl
@[simp] theorem State.setPs_cs (s : State) (v : ProfileStore) : (s.setPs v).cs = s.cs := rfl
@[simp] theorem State.setPs_hs (s : State) (v : ProfileStore) : (s.setPs v).hs = s.hs := rfl
@[simp] theorem State.setPs_apc (s : State) (v : ProfileStore) : (s.setPs v).apc = s.apc := rfl
@[simp] theorem State.setPs_scm (s : State) (v : ProfileStore) : (s.setPs v).scm = s.scm := rfl
@[simp] theorem State.setPs_psc (s : State) (v : ProfileStore) : (s.setPs v).psc = s.psc := rfl
@[simp] theorem State.setPs_hlu (s : State) (v : ProfileStore) : (s.setPs v).hlu = s.hlu := rfl
@[simp] theorem State.setPs_ps (s : State) (v : ProfileStore) : (s.setPs v).ps = v := rfl
@[simp] theorem State.setPs_pending (s : State) (v : ProfileStore) : (s.setPs v).pending = s.pending := rfl

/-! ### setPending -/

@[simp] theorem State.setPending_partTime (s : State) (v : List Instr) : (s.setPending v).partTime = s.partTime := rfl
@[simp] theorem State.setPending_freeCount (s : State) (v : List Instr) : (s.setPending v).freeCount = s.freeCount := rfl
@[simp] theorem State.setPending_pins (s : State) (v : List Instr) : (s.setPending v).pins = s.pins := rfl
@[simp] theorem State.setPending_ssu (s : State) (v : List Instr) : (s.setPending v).ssu = s.ssu := rfl
@[simp] theorem State.setPending_zc (s : State) (v : List Instr) : (s.setPending v).zc = s.zc := rfl
@[simp] theorem State.setPending_ca (s : State) (v : List Instr) : (s.setPending v).ca = s.ca := rfl
@[simp] theorem State.setPending_la (s : State) (v : List Instr) : (s.setPending v).la = s.la := rfl
@[simp] theorem State.setPending_cs (s : State) (v : List Instr) : (s.setPending v).cs = s.cs := rfl
@[simp] theorem State.setPending_hs (s : State) (v : List Instr) : (s.setPending v).hs = s.hs := rfl
@[simp] theorem State.setPending_apc (s : State) (v : List Instr) : (s.setPending v).apc = s.apc := rfl
@[simp] theorem State.setPending_scm (s : State) (v : List Instr) : (s.setPending v).scm = s.scm := rfl
@[simp] theorem State.setPending_psc (s : State) (v : List Instr) : (s.setPending v).psc = s.psc := rfl
@[simp] theorem State.setPending_hlu (s : State) (v : List Instr) : (s.setPending v).hlu = s.hlu := rfl
@[simp] theorem State.setPending_ps (s : State) (v : List Instr) : (s.setPending v).ps = s.ps := rfl
@[simp] theorem State.setPending_pending (s : State) (v : List Instr) : (s.setPending v).pending = v := rfl

/-! ### Collections of a fixed size -/

@[simp] theorem PerZone.get_set_self {α : Type} (p : PerZone α) (z : Zone) (v : α) : (p.set z v).get z = v := by
  cases z <;> rfl

theorem PerZone.get_set_of_ne {α : Type} (p : PerZone α) {z y : Zone} (v : α) (h : y ≠ z) :
    (p.set z v).get y = p.get y := by
  cases z <;> cases y <;> first | rfl | exact absurd rfl h

@[simp] theorem PerZone.get_map {α β : Type} (f : Zone → α → β) (p : PerZone α) (z : Zone) :
    (p.map f).get z = f z (p.get z) := by
  cases z <;> rfl

@[simp] theorem PerZone.get_const {α : Type} (v : α) (z : Zone) : (PerZone.const v).get z = v := by
  cases z <;> rfl

theorem PerZone.ext_get {α : Type} {p q : PerZone α} (h : ∀ z, p.get z = q.get z) : p = q := by
  have h1 := h .e
  have h2 := h .l1
  have h3 := h .l2
  have h4 := h .u1
  have h5 := h .u2
  have h6 := h .u3
  cases p
  cases q
  simp_all [PerZone.get]

@[simp] theorem PerZone.set_get_self {α : Type} (p : PerZone α) (z : Zone) : p.set z (p.get z) = p := by
  cases z <;> rfl

@[simp] theorem PerComp.get_set_self {α : Type} (p : PerComp α) (c : Comp) (v : α) : (p.set c v).get c = v := by
  cases c <;> rfl

theorem PerComp.get_set_of_ne {α : Type} (p : PerComp α) {c d : Comp} (v : α) (h : d ≠ c) :
    (p.set c v).get d = p.get d := by
  cases c <;> cases d <;> first | rfl | exact absurd rfl h

@[simp] theorem PerComp.get_map {α β : Type} (f : α → β) (p : PerComp α) (c : Comp) : (p.map f).get c = f (p.get c) := by
  cases c <;> rfl

@[simp] theorem PerComp.set_get_self {α : Type} (p : PerComp α) (c : Comp) : p.set c (p.get c) = p := by
  cases c <;> rfl

@[simp] theorem GrantTable.get_set_self (t : GrantTable) (i : EntryId) (v : GrantEntry) : (t.set i v).get i = v := by
  cases i with
  | scc => rfl
  | sch => rfl
  | zone z => exact PerZone.get_set_self t.zones z v

theorem GrantTable.get_set_of_ne (t : GrantTable) {i j : EntryId} (v : GrantEntry) (h : j ≠ i) :
    (t.set i v).get j = t.get j := by
  cases i with
  | scc => cases j <;> first | rfl | exact absurd rfl h
  | sch => cases j <;> first | rfl | exact absurd rfl h
  | zone z =>
    cases j with
    | scc => rfl
    | sch => rfl
    | zone y => exact PerZone.get_set_of_ne t.zones v (fun e => h (e ▸ rfl))

@[simp] theorem Channels.get_set_self (ch : Channels) (i : Channel) (r : ChannelRec) : (ch.set i r).get i = r := by
  cases i with
  | zoneTemp z => cases z <;> rfl
  | co2 d => cases d <;> rfl
  | pressureHigh c => cases c <;> rfl
  | pressureLow c => cases c <;> rfl
  | coil c => cases c <;> rfl
  | outdoor => rfl
  | coolant => rfl
  | glass => rfl
  | humidity => rfl
  | solar => rfl

theorem Channels.get_set_of_ne (ch : Channels) {i j : Channel} (r : ChannelRec) (h : j ≠ i) :
    (ch.set i r).get j = ch.get j := by
  cases i <;> cases j <;> first
    | rfl
    | exact absurd rfl h
    | exact PerZone.get_set_of_ne _ _ (fun e => h (e ▸ rfl))
    | exact PerComp.get_set_of_ne _ _ (fun e => h (e ▸ rfl))
    | (rename_i x y; cases x <;> cases y <;> first | rfl | exact absurd rfl h)
    | (rename_i x; cases x <;> rfl)

/-! ### Records of the state -/

@[simp] theorem State.zone_setZone_self (s : State) (z : Zone) (r : ZoneRec) : (s.setZone z r).zone z = r := by
  simp [State.setZone, State.zone]

theorem State.zone_setZone_of_ne (s : State) {z y : Zone} (r : ZoneRec) (h : y ≠ z) :
    (s.setZone z r).zone y = s.zone y := by
  simp [State.setZone, State.zone, PerZone.get_set_of_ne _ _ h]

@[simp] theorem State.comp_setComp_self (s : State) (c : Comp) (r : CompRec) : (s.setComp c r).comp c = r := by
  simp [State.setComp, State.comp]

theorem State.comp_setComp_of_ne (s : State) {c d : Comp} (r : CompRec) (h : d ≠ c) :
    (s.setComp c r).comp d = s.comp d := by
  simp [State.setComp, State.comp, PerComp.get_set_of_ne _ _ h]

@[simp] theorem State.blower_setBlower_self (s : State) (z : Zone) (r : BlowerRec) : (s.setBlower z r).blower z = r := by
  simp [State.setBlower, State.blower]

theorem State.blower_setBlower_of_ne (s : State) {z y : Zone} (r : BlowerRec) (h : y ≠ z) :
    (s.setBlower z r).blower y = s.blower y := by
  simp [State.setBlower, State.blower, PerZone.get_set_of_ne _ _ h]

end Sys2Proof.Machine
end

