-- ==== Sys2Proof/Laws/Frames.lean ====
section
/-! SUPPORT. What each shared operation leaves alone: `OutsideKept` or `PlantOnly` of the state before and after it. -/

namespace Sys2Proof.Machine

/-! ## The two relations -/

theorem OutsideKept.refl (s : State) : OutsideKept s s := ⟨rfl, rfl, rfl, rfl, rfl, rfl, rfl⟩

theorem OutsideKept.trans {s t u : State} (h : OutsideKept s t) (k : OutsideKept t u) : OutsideKept s u :=
  ⟨k.1.trans h.1, k.2.trans h.2, k.3.trans h.3, k.4.trans h.4, k.5.trans h.5, k.6.trans h.6, k.7.trans h.7⟩

theorem PlantOnly.refl (s : State) : PlantOnly s s := ⟨.refl s, rfl, rfl, rfl⟩

theorem PlantOnly.trans {s t u : State} (h : PlantOnly s t) (k : PlantOnly t u) : PlantOnly s u :=
  ⟨h.1.trans k.1, k.2.trans h.2, k.3.trans h.3, k.4.trans h.4⟩

theorem OutsideKept.ite {s t u : State} {c : Prop} [Decidable c] (h : OutsideKept s t) (k : OutsideKept s u) :
    OutsideKept s (if c then t else u) := by
  split <;> assumption

theorem PlantOnly.ite {s t u : State} {c : Prop} [Decidable c] (h : PlantOnly s t) (k : PlantOnly s u) :
    PlantOnly s (if c then t else u) := by
  split <;> assumption

theorem OutsideKept.foldl {α : Type} {f : State → α → State} (h : ∀ s x, OutsideKept s (f s x)) (l : List α) (s : State) :
    OutsideKept s (l.foldl f s) := by
  induction l generalizing s with
  | nil => exact .refl s
  | cons x rest ih => exact (h s x).trans (ih _)

theorem PlantOnly.foldl {α : Type} {f : State → α → State} (h : ∀ s x, PlantOnly s (f s x)) (l : List α) (s : State) :
    PlantOnly s (l.foldl f s) := by
  induction l generalizing s with
  | nil => exact .refl s
  | cons x rest ih => exact (h s x).trans (ih _)

/-! ## Updates of one block -/

theorem setCa_plantOnly (s : State) (v : Arbiter) : PlantOnly s (s.setCa v) := ⟨⟨rfl, rfl, rfl, rfl, rfl, rfl, rfl⟩, rfl, rfl, rfl⟩
theorem setLa_plantOnly (s : State) (v : LoadAccount) : PlantOnly s (s.setLa v) :=
  ⟨⟨rfl, rfl, rfl, rfl, rfl, rfl, rfl⟩, rfl, rfl, rfl⟩
theorem setCs_plantOnly (s : State) (v : Cooling) : PlantOnly s (s.setCs v) := ⟨⟨rfl, rfl, rfl, rfl, rfl, rfl, rfl⟩, rfl, rfl, rfl⟩
theorem setHs_plantOnly (s : State) (v : Heating) : PlantOnly s (s.setHs v) := ⟨⟨rfl, rfl, rfl, rfl, rfl, rfl, rfl⟩, rfl, rfl, rfl⟩
theorem setApc_plantOnly (s : State) (v : AirPath) : PlantOnly s (s.setApc v) := ⟨⟨rfl, rfl, rfl, rfl, rfl, rfl, rfl⟩, rfl, rfl, rfl⟩
theorem setComp_plantOnly (s : State) (c : Comp) (r : CompRec) : PlantOnly s (s.setComp c r) := setCs_plantOnly s _
theorem setBlower_plantOnly (s : State) (z : Zone) (r : BlowerRec) : PlantOnly s (s.setBlower z r) := setApc_plantOnly s _
theorem setZc_outside (s : State) (v : ZoneCtl) : OutsideKept s (s.setZc v) := ⟨rfl, rfl, rfl, rfl, rfl, rfl, rfl⟩
theorem setScm_outside (s : State) (v : ScreenMonitor) : OutsideKept s (s.setScm v) := ⟨rfl, rfl, rfl, rfl, rfl, rfl, rfl⟩
theorem setPsc_outside (s : State) (v : PowerCtl) : OutsideKept s (s.setPsc v) := ⟨rfl, rfl, rfl, rfl, rfl, rfl, rfl⟩
theorem setZone_outside (s : State) (z : Zone) (r : ZoneRec) : OutsideKept s (s.setZone z r) := setZc_outside s _

theorem linkOf_setFlag (f : Flag) (h : HostLink) : linkOf (setFlag f h) = linkOf h := by
  unfold setFlag
  split <;> rfl

theorem raise_plantOnly (f : Flag) (s : State) : PlantOnly s (raise f s) :=
  ⟨⟨rfl, rfl, rfl, rfl, rfl, rfl, linkOf_setFlag f s.hlu⟩, rfl, rfl, rfl⟩

/-! ## Load account, blowers, arbiter, shedding -/

theorem popWhileFits_plantOnly (es : List ShedEntry) (s : State) : PlantOnly s (popWhileFits es s) := by
  induction es generalizing s with
  | nil => exact .refl s
  | cons e rest ih =>
    unfold popWhileFits
    exact .ite ((setLa_plantOnly s _).trans (ih _)) (.refl s)

theorem restoreAttempt_plantOnly (s : State) : PlantOnly s (restoreAttempt s) := popWhileFits_plantOnly _ s

theorem restoreIfFell_plantOnly (n : Nat) (s : State) : PlantOnly s (restoreIfFell n s) :=
  .ite (restoreAttempt_plantOnly s) (.refl s)

theorem computeBlower_plantOnly (z : Zone) (s : State) : PlantOnly s (computeBlower z s) := by
  unfold computeBlower
  dsimp only
  split
  · exact .refl s
  · exact .ite ((setBlower_plantOnly s z _).trans (restoreIfFell_plantOnly _ _))
      (.ite (setBlower_plantOnly s z _) (.refl s))

theorem computeAllBlowers_plantOnly (s : State) : PlantOnly s (computeAllBlowers s) :=
  .foldl (fun s z => computeBlower_plantOnly z s) _ s

theorem handMode_plantOnly (z : Zone) (s : State) : PlantOnly s (handMode z s) :=
  (setBlower_plantOnly s z _).trans (computeBlower_plantOnly z _)

theorem handTotals_plantOnly (s : State) : PlantOnly s (handTotals s) :=
  (setCs_plantOnly s _).trans (setHs_plantOnly _ _)

theorem handHeld_plantOnly (a : Arbiter) (s : State) (z : Zone) : PlantOnly s (handHeld a s z) :=
  .ite (.refl s) ((setBlower_plantOnly s z _).trans (computeBlower_plantOnly z _))

theorem arbEvent_plantOnly (f : Arbiter → ArbResult) (s : State) : PlantOnly s (arbEvent f s) := by
  have h1 : PlantOnly s (s.setCa (f s.ca).arb) := setCa_plantOnly s _
  have h2 := h1.trans (PlantOnly.ite (c := (f s.ca).preempted = true) (raise_plantOnly .preempt (s.setCa (f s.ca).arb)) (.refl _))
  have h3 := h2.trans (PlantOnly.ite (c := (f s.ca).reclaimed = true) (raise_plantOnly .reclaim _) (.refl _))
  exact (h3.trans (handTotals_plantOnly _)).trans (.foldl (handHeld_plantOnly s.ca) _ _)

theorem reportPool_plantOnly (k : TokenKind) (n : Nat) (s : State) : PlantOnly s (reportPool k n s) :=
  .ite (.refl s) (arbEvent_plantOnly _ s)

theorem reportCool_plantOnly (s : State) : PlantOnly s (reportCool s) := reportPool_plantOnly _ _ s

theorem reportHeat_plantOnly (s : State) : PlantOnly s (reportHeat s) := reportPool_plantOnly _ _ s

theorem workDampers_plantOnly (b : Bool) (s : State) : PlantOnly s (workDampers b s) := setApc_plantOnly s _

theorem dampersToFreshMin_plantOnly (s : State) : PlantOnly s (dampersToFreshMin s) := setApc_plantOnly s _

theorem applyFreshMin_plantOnly (s : State) : PlantOnly s (applyFreshMin s) :=
  .ite (workDampers_plantOnly false s) (dampersToFreshMin_plantOnly s)

theorem shedItem_plantOnly (i : LoadItem) (s : State) : PlantOnly s (shedItem i s) := by
  have h := (setLa_plantOnly s { s.la with stack := ⟨i, s.partTime⟩ :: s.la.stack }).trans (raise_plantOnly .shed _)
  cases i with
  | comp c => exact h.trans (setComp_plantOnly _ c _)
  | pump => exact h.trans (setHs_plantOnly _ _)
  | heater => exact h.trans (setHs_plantOnly _ _)
  | blower z => exact h.trans (setBlower_plantOnly _ z _)

theorem shedLoop_plantOnly (n : Nat) (s : State) : PlantOnly s (shedLoop n s).1 := by
  induction n generalizing s with
  | zero => exact .refl s
  | succ n ih =>
    unfold shedLoop
    split
    · exact .refl s
    · split
      · exact .refl s
      · exact (shedItem_plantOnly _ s).trans (ih _)

theorem shedTest_plantOnly (s : State) : PlantOnly s (shedTest s) :=
  (shedLoop_plantOnly 10 s).trans
    (PlantOnly.foldl (f := fun s (c : TokenKind × Nat) => reportPool c.1 c.2 s) (fun s c => reportPool_plantOnly c.1 c.2 s) _ _)

/-! ## Zone Controller -/

theorem requestTokens_plantOnly (z : Zone) (k : ReqKind) (n : Nat) (s : State) : PlantOnly s (requestTokens z k n s) :=
  arbEvent_plantOnly _ s

theorem handOnRequest_plantOnly (z : Zone) (b k : ReqKind) (n : Nat) (s : State) : PlantOnly s (handOnRequest z b k n s) :=
  (PlantOnly.ite (requestTokens_plantOnly z .none 0 s) (.refl s)).trans (requestTokens_plantOnly z k n _)

theorem withdraw_outside (z : Zone) (s : State) : OutsideKept s (withdraw z s) :=
  (setZone_outside s z _).trans (requestTokens_plantOnly z .none 0 _).1

theorem evaluateZone_outside (z : Zone) (s : State) : OutsideKept s (evaluateZone z s) :=
  (setZone_outside s z _).trans
    ((handOnRequest_plantOnly z _ _ _ _).1.trans ((handMode_plantOnly z _).1.trans (shedTest_plantOnly _).1))

theorem takeMode_outside (z : Zone) (m : OpMode) (s : State) : OutsideKept s (takeMode z m s) :=
  (setZone_outside s z _).trans (handMode_plantOnly z _).1

theorem enterStandby_outside (z : Zone) (s : State) : OutsideKept s (enterStandby z s) :=
  .ite (.refl s) ((setZone_outside s z _).trans ((withdraw_outside z _).trans (handMode_plantOnly z _).1))

theorem applyHostMode_outside (z : Zone) (s : State) : OutsideKept s (applyHostMode z s) := by
  unfold applyHostMode
  refine .ite (.refl s) ?_
  split
  · have h := (setZone_outside s z { s.zone z with opMode := .auto, timer := autoLength (s.zone z) }).trans
      (OutsideKept.ite (c := (s.zone z).opMode = .off ∨ (s.zone z).opMode = .vent) (withdraw_outside z _) (.refl _))
    exact .ite h (h.trans (handMode_plantOnly z _).1)
  all_goals
    exact .ite (setZone_outside s z _) ((setZone_outside s z _).trans ((withdraw_outside z _).trans (handMode_plantOnly z _).1))

theorem reloadEffect_outside (z : Zone) (s : State) : OutsideKept s (reloadEffect z s) := by
  unfold reloadEffect
  dsimp only
  split
  · exact setZone_outside s z _
  · exact takeMode_outside z _ s
  · exact .ite (takeMode_outside z _ s) (.refl s)
  · exact .refl s
  · exact .refl s

theorem reloadEvent_outside (e : ReloadEvent) (z : Zone) (s : State) : OutsideKept s (reloadEvent e z s) :=
  .ite ((reloadEffect_outside z s).trans (shedTest_plantOnly _).1) (.refl s)

theorem seatCount_outside (z : Zone) (n : Nat) (s : State) : OutsideKept s (seatCount z n s) :=
  .ite (.refl s) ((setZone_outside s z _).trans (reloadEvent_outside .seat z _))

theorem enterSetback_outside (z : Zone) (s : State) : OutsideKept s (enterSetback z s) :=
  (setZone_outside s z _).trans ((raise_plantOnly _ _).1.trans (handMode_plantOnly z _).1)

theorem loseSensor_outside (z : Zone) (s : State) : OutsideKept s (loseSensor z s) :=
  (setZone_outside s z _).trans
    ((withdraw_outside z _).trans ((handMode_plantOnly z _).1.trans (shedTest_plantOnly _).1))

theorem deriveSensor_outside (s : State) (z : Zone) : OutsideKept s (deriveSensor s z) :=
  .ite ((setZone_outside s z _).trans (loseSensor_outside z _)) (setZone_outside s z _)

theorem deriveSensors_outside (s : State) : OutsideKept s (deriveSensors s) := .foldl deriveSensor_outside _ s

/-! ## Sequencers -/

theorem unloadComp_plantOnly (c : Comp) (s : State) : PlantOnly s (unloadComp c s) :=
  (setComp_plantOnly s c _).trans (reportCool_plantOnly _)

theorem tripComp_plantOnly (c : Comp) (s : State) : PlantOnly s (tripComp c s) := by
  have h := (setComp_plantOnly s c (tripRec s.partTime (s.comp c))).trans (raise_plantOnly .compTrip _)
  have h2 := h.trans (PlantOnly.ite (c := (tripRec s.partTime (s.comp c)).state = .lockout) (raise_plantOnly .compLock _) (.refl _))
  exact (h2.trans (restoreIfFell_plantOnly _ _)).trans (reportCool_plantOnly _)

theorem throttleComp_plantOnly (c : Comp) (s : State) : PlantOnly s (throttleComp c s) :=
  .ite ((setComp_plantOnly s c _).trans (reportCool_plantOnly _)) (.refl s)

theorem protectComp_plantOnly (c : Comp) (l t f : Bool) (s : State) : PlantOnly s (protectComp c l t f s) := by
  have h : PlantOnly s (if l then s.setComp c (chargeRec s.partTime (lowUsed s c) (s.comp c)) else s) :=
    .ite (setComp_plantOnly s c _) (.refl s)
  exact h.trans (.ite (tripComp_plantOnly c _) (.ite (throttleComp_plantOnly c _) (.refl _)))

theorem askStart_plantOnly (c : Comp) (s : State) : PlantOnly s (askStart c s) :=
  .ite (setComp_plantOnly s c _) (setComp_plantOnly s c _)

theorem refuseStart_plantOnly (c : Comp) (k : StartCondition) (s : State) : PlantOnly s (refuseStart c k s) :=
  .ite (.ite (setComp_plantOnly s c _) ((setComp_plantOnly s c _).trans (raise_plantOnly _ _))) (setComp_plantOnly s c _)

theorem tryStarts_plantOnly (s : State) : PlantOnly s (tryStarts s) := by
  unfold tryStarts
  split
  · exact askStart_plantOnly _ s
  · dsimp only
    split
    · exact (refuseStart_plantOnly .a _ s).trans (askStart_plantOnly _ _)
    · exact (refuseStart_plantOnly .a _ s).trans (refuseStart_plantOnly _ _ _)

theorem releaseTripped_plantOnly (c : Comp) (s : State) : PlantOnly s (releaseTripped c s) :=
  .ite (setComp_plantOnly s c _) (.refl s)

theorem stopDisabled_plantOnly (c : Comp) (s : State) : PlantOnly s (stopDisabled c s) :=
  .ite (unloadComp_plantOnly c s) (.refl s)

theorem stagingStop_plantOnly (c : Comp) (s : State) : PlantOnly s (stagingStop c s) :=
  .ite ((unloadComp_plantOnly c s).trans (setCs_plantOnly _ _)) (.refl s)

theorem stopForSurplus_plantOnly (s : State) : PlantOnly s (stopForSurplus s) := by
  unfold stopForSurplus
  refine .ite ?_ (.refl s)
  split
  · exact stagingStop_plantOnly _ s
  · exact .refl s

theorem stopForIdle_plantOnly (s : State) : PlantOnly s (stopForIdle s) :=
  .ite ((stagingStop_plantOnly .a s).trans (stagingStop_plantOnly .b _)) (.refl s)

theorem stagingUpdate_plantOnly (s : State) : PlantOnly s (stagingUpdate s) := by
  have h1 : PlantOnly s (s.setCs { s.cs with comps := s.cs.comps.map (ageRec s.partTime), checkedAt := some s.partTime }) :=
    setCs_plantOnly s _
  exact h1.trans
    ((PlantOnly.ite (tripComp_plantOnly .a _) (.refl _)).trans
      ((PlantOnly.ite (tripComp_plantOnly .b _) (.refl _)).trans
        ((releaseTripped_plantOnly .a _).trans (releaseTripped_plantOnly .b _))))

theorem stagingStretches_plantOnly (s : State) : PlantOnly s (stagingStretches s) := setCs_plantOnly s _

/-- A staging check leaves zones, screen monitor, power state and everything outside alone (R100). -/
theorem stagingWork_plantOnly (s : State) : PlantOnly s (stagingWork s) := by
  have h := (stagingUpdate_plantOnly s).trans (stagingStretches_plantOnly _)
  have h2 := h.trans
    ((stopDisabled_plantOnly .a _).trans
      ((stopDisabled_plantOnly .b _).trans ((stopForSurplus_plantOnly _).trans (stopForIdle_plantOnly _))))
  exact h2.trans (.ite (tryStarts_plantOnly _) (.refl _))

theorem stopPumpNow_plantOnly (s : State) : PlantOnly s (stopPumpNow s) :=
  .ite ((setHs_plantOnly s _).trans ((restoreIfFell_plantOnly _ _).trans (reportHeat_plantOnly _))) (.refl s)

theorem pumpStart_plantOnly (s : State) : PlantOnly s (pumpStart s) :=
  .ite (.ite ((setHs_plantOnly s _).trans (reportHeat_plantOnly _)) (setHs_plantOnly s _)) (.refl s)

theorem pumpDecision_plantOnly (s : State) : PlantOnly s (pumpDecision s) :=
  .ite (.ite (stopPumpNow_plantOnly s) (.refl s)) (pumpStart_plantOnly s)

theorem latchStart_plantOnly (s : State) : PlantOnly s (latchStart s) := by
  unfold latchStart
  split
  · exact setHs_plantOnly s _
  · exact setHs_plantOnly s _
  all_goals exact .refl s

theorem heaterStart_plantOnly (s : State) : PlantOnly s (heaterStart s) :=
  .ite (.ite (.ite (setHs_plantOnly s _) (setHs_plantOnly s _)) (.refl s)) (setHs_plantOnly s _)

theorem heaterDecision_plantOnly (s : State) : PlantOnly s (heaterDecision s) :=
  (PlantOnly.ite (setHs_plantOnly s _) (.refl s)).trans ((latchStart_plantOnly _).trans (heaterStart_plantOnly _))

/-- A heating check leaves zones, screen monitor, power state and everything outside alone (R114). -/
theorem heatingWork_plantOnly (s : State) : PlantOnly s (heatingWork s) :=
  (setHs_plantOnly s _).trans ((pumpDecision_plantOnly _).trans (heaterDecision_plantOnly _))

theorem coolantSampled_plantOnly (f : Bool) (s : State) : PlantOnly s (coolantSampled f s) := by
  have h : PlantOnly s (reportHeat (s.setHs { s.hs with band := bandAfter s.hs.band (coolantUsed s) })) :=
    (setHs_plantOnly s _).trans (reportHeat_plantOnly _)
  exact .ite (h.trans (setHs_plantOnly _ _)) h

theorem windDownPump_plantOnly (s : State) : PlantOnly s (windDownPump s) :=
  .ite (stopPumpNow_plantOnly s) (.refl s)

theorem endPurge_plantOnly (s : State) : PlantOnly s (endPurge s) :=
  .ite (setHs_plantOnly s _) ((setHs_plantOnly s _).trans ((restoreIfFell_plantOnly _ _).trans (windDownPump_plantOnly _)))

theorem endIgnition_plantOnly (s : State) : PlantOnly s (endIgnition s) :=
  .ite (setHs_plantOnly s _)
    ((setHs_plantOnly s _).trans
      ((restoreIfFell_plantOnly _ _).trans ((raise_plantOnly _ _).trans (raise_plantOnly _ _))))

theorem flameGoes_plantOnly (s : State) : PlantOnly s (flameGoes s) :=
  .ite
    (.ite ((raise_plantOnly _ s).trans (setHs_plantOnly _ _))
      ((raise_plantOnly _ s).trans ((setHs_plantOnly _ _).trans ((restoreIfFell_plantOnly _ _).trans (raise_plantOnly _ _)))))
    (.refl s)

/-! ## Screen monitor and power states -/

theorem assertScreen_outside (s : State) : OutsideKept s (assertScreen s) := by
  unfold assertScreen
  generalize hs1 : raise .screen (s.setScm _) = s1
  have h1 : OutsideKept s s1 := hs1 ▸ (setScm_outside s _).trans (raise_plantOnly .screen _).1
  have h2 : OutsideKept s1 (arbEvent (assertScreenEntries s.partTime) s1) := (arbEvent_plantOnly _ s1).1
  exact h1.trans (h2.trans ((setApc_plantOnly _ _).1.trans (shedTest_plantOnly _).1))

theorem releaseScreen_outside (s : State) : OutsideKept s (releaseScreen s) :=
  (setScm_outside s _).trans
    ((arbEvent_plantOnly _ _).1.trans ((shedTest_plantOnly _).1.trans (restoreAttempt_plantOnly _).1))

theorem screenWork_outside (s : State) : OutsideKept s (screenWork s) :=
  (setScm_outside s _).trans
    (.ite (.ite (releaseScreen_outside _) (.refl _)) (.ite (assertScreen_outside _) (.refl _)))

theorem enterPower_outside (p : PowerState) (s : State) : OutsideKept s (enterPower p s) :=
  (setPsc_outside s _).trans (raise_plantOnly _ _).1

theorem bringToAuto_outside (z : Zone) (s : State) : OutsideKept s (bringToAuto z s) :=
  .ite (.ite (setZone_outside s z _) (takeMode_outside z _ s)) (.refl s)

theorem layoverZone_outside (s : State) (z : Zone) : OutsideKept s (layoverZone s z) :=
  .ite (.ite (bringToAuto_outside z s) (enterStandby_outside z s)) (.refl s)

theorem enterLayover_outside (s : State) : OutsideKept s (enterLayover s) :=
  (enterPower_outside .layover s).trans (.foldl layoverZone_outside _ _)

theorem releaseZone_outside (s : State) (z : Zone) : OutsideKept s (releaseZone s z) :=
  .ite (.refl s) (takeMode_outside z _ s)

theorem preconditionZones_outside (s : State) : OutsideKept s (preconditionZones s) :=
  .ite (.foldl (fun s z => bringToAuto_outside z s) _ _) (.refl s)

/-! ## The end of an event in every power state (R157, R158) -/

@[simp] theorem takeMode_psc (z : Zone) (m : OpMode) (s : State) : (takeMode z m s).psc = s.psc := (handMode_plantOnly z _).psc

@[simp] theorem withdraw_psc (z : Zone) (s : State) : (withdraw z s).psc = s.psc := (requestTokens_plantOnly z .none 0 _).psc

@[simp] theorem enterStandby_psc (z : Zone) (s : State) : (enterStandby z s).psc = s.psc := by
  unfold enterStandby
  dsimp only
  split
  · rfl
  · exact (handMode_plantOnly z _).psc.trans (withdraw_psc z _)

@[simp] theorem bringToAuto_psc (z : Zone) (s : State) : (bringToAuto z s).psc = s.psc := by
  unfold bringToAuto
  dsimp only
  split
  · split
    · rfl
    · exact takeMode_psc z _ s
  · rfl

@[simp] theorem releaseZone_psc (s : State) (z : Zone) : (releaseZone s z).psc = s.psc := by
  unfold releaseZone
  dsimp only
  split
  · rfl
  · exact takeMode_psc z _ s

@[simp] theorem layoverZone_psc (s : State) (z : Zone) : (layoverZone s z).psc = s.psc := by
  unfold layoverZone
  dsimp only
  split
  · split
    · exact bringToAuto_psc z s
    · exact enterStandby_psc z s
  · rfl

/-- A fold of steps that each keep the Power State Controller keeps it. -/
theorem foldl_psc {α : Type} {f : State → α → State} (h : ∀ s x, (f s x).psc = s.psc) (l : List α) (s : State) :
    (l.foldl f s).psc = s.psc := by
  induction l generalizing s with
  | nil => rfl
  | cons x l ih => exact (ih _).trans (h s x)

theorem leaveRest_outside {s : State} (h : s.psc.power ≠ .parked) : OutsideKept s (leaveRest s) := by
  simp only [leaveRest, if_neg h]
  exact ⟨rfl, rfl, rfl, rfl, rfl, rfl, rfl⟩

theorem leaveForRun_outside {s : State} (h : s.psc.power ≠ .parked) : OutsideKept s (leaveForRun s) :=
  (leaveRest_outside h).trans
    ((enterPower_outside .run _).trans ((OutsideKept.foldl releaseZone_outside _ _).trans (preconditionZones_outside _)))

theorem leaveForRun_power (s : State) : (leaveForRun s).psc.power = .run := by
  unfold leaveForRun preconditionZones
  split
  · rw [foldl_psc (fun s z => bringToAuto_psc z s), foldl_psc releaseZone_psc]; rfl
  · rw [foldl_psc releaseZone_psc]; rfl

theorem leaveForLayover_outside {s : State} (h : s.psc.power ≠ .parked) : OutsideKept s (leaveForLayover s) :=
  (leaveRest_outside h).trans
    ((enterPower_outside .layover _).trans ((OutsideKept.foldl releaseZone_outside _ _).trans (.foldl layoverZone_outside _ _)))

theorem leaveForLayover_power (s : State) : (leaveForLayover s).psc.power = .layover := by
  unfold leaveForLayover
  rw [foldl_psc layoverZone_psc, foldl_psc releaseZone_psc]; rfl

theorem PlantOnly.plantStep {s t : State} (h : PlantOnly s t) : PlantStep s t :=
  ⟨h.1, fun _ => ⟨h.zc, h.scm, h.psc⟩, fun _ => ⟨h.zc, h.scm, by rw [h.psc]⟩, fun hw ht => absurd (h.psc ▸ hw) ht⟩

/-- A wind-down that ends, for the power state of R158. -/
theorem plantStep_of_ended {s t : State} (h : OutsideKept s t) (hs : s.psc.power = .windingDown)
    (ht : t.psc.power = if s.pins.ignition then .run else if s.psc.precondition then .layover else .parked) : PlantStep s t := by
  refine ⟨h, fun hn => absurd hs hn, fun hw => ?_, fun _ _ => ht⟩
  rw [ht] at hw
  split at hw
  · cases hw
  · split at hw <;> cases hw

theorem enterParked_outside (s : State) : OutsideKept s (enterParked s) :=
  (show OutsideKept s (s.setZc { s.zc with periodTimer := none }) from ⟨rfl, rfl, rfl, rfl, rfl, rfl, rfl⟩).trans
    (enterPower_outside .parked _)

/-- The stopped reports of a wind-down, and its end (R157, R158). -/
theorem windDownReports_plantStep (s : State) : PlantStep s (windDownReports s) := by
  by_cases hw : s.psc.power = .windingDown
  · generalize h1 : s.setPsc { s.psc with stopped := reportStopped s } = s1
    have ho : OutsideKept s s1 := h1 ▸ setPsc_outside s _
    have hp : s1.psc.power ≠ .parked := by
      rw [← h1]
      show s.psc.power ≠ .parked
      rw [hw]; decide
    have hq : s1.zc = s.zc ∧ s1.scm = s.scm ∧ { s1.psc with stopped := s.psc.stopped } = s.psc := by
      rw [← h1]; exact ⟨rfl, rfl, rfl⟩
    simp only [windDownReports, if_pos hw, h1]
    split
    · split
      · rename_i hi
        exact plantStep_of_ended (ho.trans ((leaveForRun_outside hp).trans (shedTest_plantOnly _).1)) hw
          (by rw [(shedTest_plantOnly _).psc, leaveForRun_power, if_pos hi])
      · rename_i hi
        split
        · rename_i hc
          exact plantStep_of_ended (ho.trans ((leaveForLayover_outside hp).trans (shedTest_plantOnly _).1)) hw
            (by rw [(shedTest_plantOnly _).psc, leaveForLayover_power, if_neg hi, if_pos hc])
        · rename_i hc
          exact plantStep_of_ended (ho.trans (enterParked_outside _)) hw (by rw [if_neg hi, if_neg hc]; rfl)
    · exact ⟨ho, fun h => absurd hw h, fun _ => hq, fun _ h => absurd (by rw [← h1]; exact hw) h⟩
  · simp only [windDownReports, if_neg hw]
    exact (PlantOnly.refl s).plantStep

/-- Work on arbiter, loads, plant and air, followed by whatever may follow such work, is one step of them. -/
theorem PlantOnly.then_plantStep {s t u : State} (h : PlantOnly s t) (k : PlantStep t u) : PlantStep s u where
  toOutsideKept := h.1.trans k.1
  other hs := by
    obtain ⟨a, b, c⟩ := k.other (by rw [h.psc]; exact hs)
    exact ⟨a.trans h.zc, b.trans h.scm, c.trans h.psc⟩
  winding hu := by
    obtain ⟨a, b, c⟩ := k.winding hu
    refine ⟨a.trans h.zc, b.trans h.scm, ?_⟩
    rw [h.psc] at c
    exact c
  ended hs hu := by
    have e := k.ended (by rw [h.psc]; exact hs) hu
    rw [h.pins, h.psc] at e
    exact e

/-- An event whose work keeps to arbiter, loads, plant and air ends as one step of them, in every power state. -/
theorem endEvent_plantStep {s t : State} (h : PlantOnly s t) : PlantStep s (endEvent t) :=
  (h.trans (shedTest_plantOnly t)).then_plantStep (windDownReports_plantStep _)

end Sys2Proof.Machine
end

