-- ==== Sys2Proof/Laws/Calls.lean ====
section
/-! SUPPORT. Once for each, what the operations that every command passes through can do: taking a frame, the test of shedding, the end of
an event, a restore, and setting a flag. -/

namespace Sys2Proof.Machine

/-! ## Taking a frame (R159, R165) -/

/-- Outside Parked a frame wakes nothing. -/
theorem wakeByFrame_awake {s : State} (h : s.psc.power ≠ .parked) : wakeByFrame s = s := by simp [wakeByFrame, h]

theorem readyForCommand_iff (s : State) : readyForCommand s = true ↔ s.hlu.inHand = none ∧ s.psc.power ≠ .parked := by
  cases h : s.hlu.inHand <;> simp [readyForCommand, h]

/-- A command that is taken acts, and its formed reply is put in hand. -/
theorem completeFrame_ready {s : State} (h : readyForCommand s = true) (rtype : Byte) (body : CommandBody) :
    completeFrame rtype body s = (body s).1.setHlu (formReply rtype (body s).2 (body s).1.hlu) := by
  obtain ⟨hi, hp⟩ := (readyForCommand_iff s).1 h
  simp [completeFrame, wakeByFrame_awake hp, hi]

/-- A frame that finds a command in hand is discarded. -/
theorem completeFrame_busy {s : State} (h : s.hlu.inHand.isSome = true) (hp : s.psc.power ≠ .parked) (rtype : Byte)
    (body : CommandBody) : completeFrame rtype body s = s := by
  simp [completeFrame, wakeByFrame_awake hp, h]

/-- In every power state a frame is completed on the state its wake leaves. -/
theorem completeFrame_woken (s : State) (rtype : Byte) (body : CommandBody) (h : (wakeByFrame s).psc.power ≠ .parked) :
    completeFrame rtype body s = completeFrame rtype body (wakeByFrame s) := by
  simp [completeFrame, wakeByFrame_awake h]

/-- A reply's fields, for a body that changes the state by `f` and answers `r`. -/
theorem formReply_eq (rtype : Byte) (r : Reply) (s : State) :
    s.setHlu (formReply rtype r s.hlu) = s.setHlu { s.hlu with inHand := some ⟨rtype, replyPayload r, false, asksReset rtype r⟩ } :=
  rfl

/-! ## Shedding and the end of an event (R84, R157) -/

theorem settled_iff (s : State) : settled s = true ↔ committedLoad s ≤ loadBound s := by simp [settled]

/-- With nothing above the bound nothing is shed. -/
theorem shedTest_settled {s : State} (h : settled s = true) : shedTest s = s := by
  have hl : shedLoop 10 s = (s, []) := by rw [shedLoop, if_pos ((settled_iff s).1 h)]
  simp [shedTest, hl]

/-- Outside Winding-down an event ends with the test of shedding alone. -/
theorem endEvent_awake {s : State} (h : s.psc.power ≠ .windingDown) : endEvent s = shedTest s := by
  simp [endEvent, windDownReports, (shedTest_plantOnly s).psc, h]

/-- Outside Winding-down, with nothing to shed, an event ends where it is. -/
theorem endEvent_settled {s : State} (h : settled s = true) (hp : s.psc.power ≠ .windingDown) : endEvent s = s := by
  rw [endEvent_awake hp, shedTest_settled h]

/-- In a wind-down in which nothing comes due an event ends with nothing more. -/
theorem endEvent_windDownAtRest {s : State} (h : windDownAtRest s = true) : endEvent s = s := by
  simp only [windDownAtRest, Bool.and_eq_true, beq_iff_eq, bne_iff_ne, ne_eq] at h
  obtain ⟨⟨⟨⟨hw, hs⟩, -⟩, hr⟩, hn⟩ := h
  have hf : (s.psc.stopped.cs && s.psc.stopped.hs && s.psc.stopped.apc) = false := by
    generalize s.psc.stopped = r at hn
    obtain ⟨_ | _, _ | _, _ | _⟩ := r <;> first | rfl | exact absurd rfl hn
  rw [endEvent, shedTest_settled hs]
  simp only [windDownReports, if_pos hw, hr, hf]
  rfl

/-! ## Restore (R88) -/

/-- Popping leaves everything but the stack, which becomes one of its own ends. -/
theorem popWhileFits_stack (es : List ShedEntry) (s : State) (h : s.la.stack = es) :
    ∃ k, k <:+ es ∧ popWhileFits es s = s.setLa { s.la with stack := k } := by
  induction es generalizing s with
  | nil => exact ⟨[], List.suffix_rfl, by (conv_rhs => rw [← h]); rfl⟩
  | cons e rest ih =>
    unfold popWhileFits
    split
    · obtain ⟨k, hk, he⟩ := ih (s.setLa { s.la with stack := rest }) rfl
      exact ⟨k, hk.trans (List.suffix_cons e rest), by rw [he]; rfl⟩
    · exact ⟨e :: rest, List.suffix_rfl, by (conv_rhs => rw [← h]); rfl⟩

theorem restoreAttempt_stack (s : State) : ∃ k, k <:+ s.la.stack ∧ restoreAttempt s = s.setLa { s.la with stack := k } :=
  popWhileFits_stack _ s rfl

theorem restoreIfFell_stack (n : Nat) (s : State) :
    ∃ k, k <:+ s.la.stack ∧ restoreIfFell n s = s.setLa { s.la with stack := k } := by
  unfold restoreIfFell
  split
  · exact restoreAttempt_stack s
  · exact ⟨s.la.stack, List.suffix_rfl, rfl⟩

/-! ## Flags (R168) -/

/-- Setting a flag leaves it latched. -/
theorem hasFlag_setFlag_self (f : Flag) (h : HostLink) : hasFlag (setFlag f h).latched f = true := by
  unfold setFlag
  split
  · assumption
  · cases f <;> simp [hasFlag, flagMask, flagBit]

/-- Setting a flag leaves every other one as it was. -/
theorem hasFlag_setFlag_other {f g : Flag} (hfg : f ≠ g) (h : HostLink) :
    hasFlag (setFlag f h).latched g = hasFlag h.latched g := by
  unfold setFlag
  split
  · rfl
  · cases f <;> cases g <;> first | exact absurd rfl hfg | simp [hasFlag, flagMask, flagBit]

end Sys2Proof.Machine
end

