-- ==== Sys2Proof/Laws/Memory.lean ====
section
/-! SUPPORT. The laws of the profile store's memory: reading after writing, and the canonical form kept by every operation. -/

namespace Sys2Proof.Machine

theorem Memory.read_erase_self (m : Memory) (a : Nat) : (Memory.erase m a).read a = factoryWord a := by
  induction m with
  | nil => rfl
  | cons c rest ih =>
    by_cases h : c.1 = a
    · simpa [Memory.erase, h] using ih
    · simpa [Memory.erase, Memory.read, h] using ih

theorem Memory.read_erase_of_ne (m : Memory) {a b : Nat} (h : b ≠ a) : (Memory.erase m a).read b = m.read b := by
  induction m with
  | nil => rfl
  | cons c rest ih =>
    by_cases hc : c.1 = a
    · have : c.1 ≠ b := fun e => h (e ▸ hc)
      simpa [Memory.erase, Memory.read, hc, this, Ne.symm h] using ih
    · by_cases hb : c.1 = b
      · simp [Memory.erase, Memory.read, hb, h]
      · simpa [Memory.erase, Memory.read, hc, hb] using ih

theorem Memory.read_insert_self (m : Memory) (a : Nat) (v : Half) (h : ∀ c ∈ m, c.1 ≠ a) :
    (Memory.insert m (a, v)).read a = v := by
  induction m with
  | nil => simp [Memory.insert, Memory.read]
  | cons c rest ih =>
    by_cases hc : a < c.1
    · simp [Memory.insert, Memory.read, hc]
    · have hne : c.1 ≠ a := h c (by simp)
      simpa [Memory.insert, Memory.read, hc, hne] using ih (fun d hd => h d (by simp [hd]))

theorem Memory.read_insert_of_ne (m : Memory) {a b : Nat} (v : Half) (h : b ≠ a) :
    (Memory.insert m (a, v)).read b = m.read b := by
  induction m with
  | nil => simp [Memory.insert, Memory.read, Ne.symm h]
  | cons c rest ih =>
    by_cases hc : a < c.1
    · simp [Memory.insert, Memory.read, hc, Ne.symm h]
    · simp [Memory.insert, Memory.read, hc, ih]

/-- A word written reads back. -/
@[simp] theorem Memory.read_write_self (m : Memory) (a : Nat) (v : Half) : (m.write a v).read a = v := by
  by_cases h : v = factoryWord a
  · simp [Memory.write, h, Memory.read_erase_self]
  · simp only [Memory.write, h, if_false]
    exact Memory.read_insert_self _ a v (fun c hc => by simpa [Memory.erase] using (List.mem_filter.mp hc).2)

/-- A write leaves every other word alone. -/
theorem Memory.read_write_of_ne (m : Memory) {a b : Nat} (v : Half) (h : b ≠ a) : (m.write a v).read b = m.read b := by
  by_cases hv : v = factoryWord a
  · simp [Memory.write, hv, Memory.read_erase_of_ne m h]
  · simp [Memory.write, hv, Memory.read_insert_of_ne _ v h, Memory.read_erase_of_ne m h]

theorem Memory.wf_iff (m : Memory) :
    m.wf = true ↔ (m.map Prod.fst).Pairwise (· < ·) ∧ ∀ c ∈ m, c.1 < 128 ∧ c.2 ≠ factoryWord c.1 := by
  simp [Memory.wf]

theorem Memory.wf_erase (m : Memory) (a : Nat) (h : m.wf = true) : (Memory.erase m a).wf = true := by
  rw [Memory.wf_iff] at h ⊢
  refine ⟨?_, fun c hc => h.2 c (List.mem_filter.mp hc).1⟩
  exact h.1.sublist (List.Sublist.map _ List.filter_sublist)

theorem Memory.mem_insert (m : Memory) (x c : Nat × Half) : c ∈ Memory.insert m x ↔ c = x ∨ c ∈ m := by
  induction m with
  | nil => simp [Memory.insert]
  | cons d rest ih =>
    by_cases hd : x.1 < d.1
    · simp [Memory.insert, hd]
    · simp only [Memory.insert, hd, if_false, List.mem_cons, ih]
      tauto

theorem Memory.pairwise_insert (m : Memory) (x : Nat × Half) (h : (m.map Prod.fst).Pairwise (· < ·))
    (hx : ∀ c ∈ m, c.1 ≠ x.1) : ((Memory.insert m x).map Prod.fst).Pairwise (· < ·) := by
  induction m with
  | nil => simp [Memory.insert]
  | cons d rest ih =>
    simp only [List.map_cons, List.pairwise_cons] at h
    by_cases hd : x.1 < d.1
    · simp only [Memory.insert, hd, if_true, List.map_cons, List.pairwise_cons]
      refine ⟨?_, h⟩
      intro b hb
      rcases List.mem_cons.mp hb with rfl | hb
      · exact hd
      · exact lt_trans hd (h.1 b hb)
    · have hne : d.1 ≠ x.1 := hx d (by simp)
      simp only [Memory.insert, hd, if_false, List.map_cons, List.pairwise_cons]
      refine ⟨?_, ih h.2 (fun c hc => hx c (by simp [hc]))⟩
      intro b hb
      obtain ⟨c, hc, rfl⟩ := List.mem_map.mp hb
      rcases (Memory.mem_insert rest x c).mp hc with rfl | hc
      · omega
      · exact h.1 c.1 (List.mem_map_of_mem hc)

/-- A write to one of the 128 addresses keeps the canonical form. -/
theorem Memory.wf_write (m : Memory) (a : Nat) (v : Half) (h : m.wf = true) (ha : a < 128) : (m.write a v).wf = true := by
  have he := Memory.wf_erase m a h
  by_cases hv : v = factoryWord a
  · simpa [Memory.write, hv] using he
  · simp only [Memory.write, hv, if_false]
    rw [Memory.wf_iff] at he ⊢
    refine ⟨Memory.pairwise_insert _ _ he.1 (fun c hc => by simpa [Memory.erase] using (List.mem_filter.mp hc).2), ?_⟩
    intro c hc
    rcases (Memory.mem_insert _ _ c).mp hc with rfl | hc
    · exact ⟨ha, hv⟩
    · exact he.2 c hc

/-- The factory store, with nothing listed, is in canonical form. -/
theorem Memory.wf_nil : Memory.wf [] = true := rfl

end Sys2Proof.Machine
end

