-- ==== Sys2Proof/Laws/Settings.lean ====
section
/-! SUPPORT. Which stored words a load has to adjust, loader by loader, and the count that PROFILE LOAD answers with (R176). -/

namespace Sys2Proof.Machine

/-! ## One word -/

theorem adjustedCount_quantity {lo hi : Nat} (_ : lo ≤ hi) (w : Half) :
    adjustedCount (loadQuantity lo hi w) = if decide (lo ≤ w.toNat) && decide (w.toNat ≤ hi) then 0 else 1 := by
  have : (clampNat lo hi w.toNat != w.toNat) = !(decide (lo ≤ w.toNat) && decide (w.toNat ≤ hi)) := by
    rw [Bool.eq_iff_iff]; simp [clampNat]; split <;> [skip; split] <;> omega
  simp only [adjustedCount, loadQuantity, this]
  cases (decide (lo ≤ w.toNat) && decide (w.toNat ≤ hi)) <;> rfl

theorem adjustedCount_int {lo hi : Nat} (h : lo ≤ hi) (w : Half) :
    adjustedCount (loadInt lo hi w) = if decide (lo ≤ w.toNat) && decide (w.toNat ≤ hi) then 0 else 1 :=
  adjustedCount_quantity h w

theorem adjustedCount_named {α : Type} (d : α) (o : Option α) : adjustedCount (loadNamed d o) = if o.isSome then 0 else 1 := by
  cases o <;> rfl

theorem adjustedCount_setpoint (w : Half) :
    adjustedCount (loadSetpoint w) = if (decide (170 ≤ w.toNat) && decide (w.toNat ≤ 280)) && w.toNat % 5 == 0 then 0 else 1 := by
  have : (stepSetpoint w.toNat != w.toNat) = !((decide (170 ≤ w.toNat) && decide (w.toNat ≤ 280)) && w.toNat % 5 == 0) := by
    rw [Bool.eq_iff_iff]; simp [stepSetpoint, clampInt]; omega
  simp only [adjustedCount, loadSetpoint, this]
  cases ((decide (170 ≤ w.toNat) && decide (w.toNat ≤ 280)) && w.toNat % 5 == 0) <;> rfl

theorem adjustedCount_allowance (w : Half) :
    adjustedCount (loadAllowance w) = if (decide (0 ≤ w.toNat) && decide (w.toNat ≤ 15000)) && w.toNat % 50 == 0 then 0 else 1 := by
  have : (stepAllowance w.toNat != w.toNat) = !((decide (0 ≤ w.toNat) && decide (w.toNat ≤ 15000)) && w.toNat % 50 == 0) := by
    rw [Bool.eq_iff_iff]; simp [stepAllowance]; omega
  simp only [adjustedCount, loadAllowance, this]
  cases ((decide (0 ≤ w.toNat) && decide (w.toNat ≤ 15000)) && w.toNat % 50 == 0) <;> rfl

/-! ## Orders, digit by digit -/

theorem orderOfCodes_three : ∀ a b c : Fin 16,
    (orderOfCodes .saloon [a.val, b.val, c.val]).isSome =
        [0x012, 0x021, 0x102, 0x120, 0x201, 0x210].contains (256 * a.val + 16 * b.val + c.val) ∧
      (orderOfCodes .upper [a.val, b.val, c.val]).isSome =
        [0x567, 0x576, 0x657, 0x675, 0x756, 0x765].contains (256 * a.val + 16 * b.val + c.val) := by
  decide +kernel

theorem orderOfCodes_two : ∀ a b : Fin 16,
    (orderOfCodes .lower [a.val, b.val]).isSome = [0x34, 0x43].contains (16 * a.val + b.val) := by
  decide +kernel

theorem adjustedCount_order_saloon (w : Half) :
    adjustedCount (loadOrder .saloon w) = if [0x012, 0x021, 0x102, 0x120, 0x201, 0x210].contains w.toNat then 0 else 1 := by
  rw [loadOrder, adjustedCount_named]
  congr 1
  rw [eq_iff_iff, Bool.coe_iff_coe]
  by_cases h : w.toNat < 4096
  · have e := (orderOfCodes_three ⟨w.toNat / 256, by omega⟩ ⟨w.toNat / 16 % 16, by omega⟩ ⟨w.toNat % 16, by omega⟩).1
    simp only [orderCodes, if_pos h, Option.bind_some] at e ⊢
    rw [e]; congr 1; omega
  · simp only [orderCodes, if_neg h, Option.bind_none, Option.isSome_none]
    simp; omega

theorem adjustedCount_order_upper (w : Half) :
    adjustedCount (loadOrder .upper w) = if [0x567, 0x576, 0x657, 0x675, 0x756, 0x765].contains w.toNat then 0 else 1 := by
  rw [loadOrder, adjustedCount_named]
  congr 1
  rw [eq_iff_iff, Bool.coe_iff_coe]
  by_cases h : w.toNat < 4096
  · have e := (orderOfCodes_three ⟨w.toNat / 256, by omega⟩ ⟨w.toNat / 16 % 16, by omega⟩ ⟨w.toNat % 16, by omega⟩).2
    simp only [orderCodes, if_pos h, Option.bind_some] at e ⊢
    rw [e]; congr 1; omega
  · simp only [orderCodes, if_neg h, Option.bind_none, Option.isSome_none]
    simp; omega

theorem adjustedCount_order_lower (w : Half) :
    adjustedCount (loadOrder .lower w) = if [0x34, 0x43].contains w.toNat then 0 else 1 := by
  rw [loadOrder, adjustedCount_named]
  congr 1
  rw [eq_iff_iff, Bool.coe_iff_coe]
  by_cases h : w.toNat < 256
  · have e := orderOfCodes_two ⟨w.toNat / 16, by omega⟩ ⟨w.toNat % 16, by omega⟩
    simp only [orderCodes, if_pos h, Option.bind_some] at e ⊢
    rw [e]; congr 1; omega
  · simp only [orderCodes, if_neg h, Option.bind_none, Option.isSome_none]
    simp; omega

/-! ## Codes -/

theorem hostModeOfCode_isSome (n : Nat) : (hostModeOfCode n).isSome = (decide (0 ≤ n) && decide (n ≤ 2)) := by
  match n with
  | 0 | 1 | 2 => rfl
  | n + 3 => simp [hostModeOfCode]

theorem curveOfCode_isSome (n : Nat) :
    (curveOfCode n).isSome = ((decide (0 ≤ n) && decide (n ≤ 5)) || (decide (8 ≤ n) && decide (n ≤ 11))) := by
  match n with
  | 0 | 1 | 2 | 3 | 4 | 5 | 6 | 7 | 8 | 9 | 10 | 11 => rfl
  | n + 12 => simp [curveOfCode]

theorem priorityOfCode_isSome (n : Nat) : (priorityOfCode n).isSome = (decide (0 ≤ n) && decide (n ≤ 1)) := by
  match n with
  | 0 | 1 => rfl
  | n + 2 => simp [priorityOfCode]

theorem nestingOfCode_isSome (n : Nat) : (nestingOfCode n).isSome = (decide (0 ≤ n) && decide (n ≤ 2)) := by
  match n with
  | 0 | 1 | 2 => rfl
  | n + 3 => simp [nestingOfCode]

theorem permitOfCode_isSome (n : Nat) : (permitOfCode n).isSome = (decide (0 ≤ n) && decide (n ≤ 1)) := by
  match n with
  | 0 | 1 => rfl
  | n + 2 => simp [permitOfCode]

theorem compSetOfCode_isSome (n : Nat) : (compSetOfCode n).isSome = (decide (0 ≤ n) && decide (n ≤ 3)) := by
  unfold compSetOfCode; split <;> simp <;> omega

theorem reloadMaskOfCode_isSome (n : Nat) : (reloadMaskOfCode n).isSome = (decide (0 ≤ n) && decide (n ≤ 15)) := by
  unfold reloadMaskOfCode; split <;> simp <;> omega

theorem flagSet_isSome (w : Half) :
    (if flagSetValid w then some w else none).isSome = (decide (0 ≤ w.toNat) && decide (w.toNat ≤ 0x7FFF)) := by
  have : flagSetValid w = (decide (0 ≤ w.toNat) && decide (w.toNat ≤ 0x7FFF)) := by
    simp only [flagSetValid, BitVec.getLsbD, Nat.testBit_eq_decide_div_mod_eq]
    rw [Bool.eq_iff_iff]; simp; omega
  rw [← this]
  cases flagSetValid w <;> rfl

/-! ## The count -/

/-- One word's share in the count of a load, as `wordValid` has it. -/
def wordAdjusted (m : Memory) (p : Nat × Nat) : Nat := if wordValid p.1 p.2 (Memory.read m (p.1 * 8 + p.2)).toNat then 0 else 1

theorem countP_wordValid (m : Memory) (l : List (Nat × Nat)) :
    l.countP (fun p => !wordValid p.1 p.2 (Memory.read m (p.1 * 8 + p.2)).toNat) = (l.map (wordAdjusted m)).sum := by
  induction l with
  | nil => rfl
  | cons p l ih =>
    rw [List.countP_cons, ih, List.map_cons, List.sum_cons, wordAdjusted]
    cases wordValid p.1 p.2 (Memory.read m (p.1 * 8 + p.2)).toNat <;> simp [Nat.add_comm]

theorem loadZone_count (m : Memory) (z : Zone) :
    (loadZone m z).2 = (([0, 1, 2, 3, 4, 5].map (fun c => (codeOfZone z, c))).map (wordAdjusted m)).sum := by
  simp only [loadZone, adjustedCount_setpoint, adjustedCount_named, adjustedCount_quantity (show 1 ≤ 60 by decide),
    adjustedCount_quantity (show 1 ≤ 240 by decide), hostModeOfCode_isSome, curveOfCode_isSome, reloadMaskOfCode_isSome,
    List.map_cons, List.map_nil, List.sum_cons, List.sum_nil, Nat.add_assoc, Nat.add_zero]
  cases z <;> rfl

theorem loadPoints_count (m : Memory) :
    ((loadPoints m).map adjustedCount).sum = (((List.range 54).map (fun a => (9 + a / 8, a - 8 * (a / 8)))).map (wordAdjusted m)).sum := by
  rw [loadPoints, List.map_map, List.map_map]
  refine congrArg List.sum (List.map_congr_left fun a ha => ?_)
  have ha : a / 8 ≤ 6 := by have := List.mem_range.1 ha; omega
  simp only [Function.comp_apply, adjustedCount_quantity (Nat.zero_le 100)]
  generalize a - 8 * (a / 8) = c
  obtain h | h | h | h | h | h | h : a / 8 = 0 ∨ a / 8 = 1 ∨ a / 8 = 2 ∨ a / 8 = 3 ∨ a / 8 = 4 ∨ a / 8 = 5 ∨ a / 8 = 6 := by omega
  all_goals rw [h]; rfl

/-- The rest of row 6 to row 8, as a load counts it. -/
theorem loadRows_count (m : Memory) :
    (adjustedCount (loadInt 1 40 (wordAt m 6 0)) + adjustedCount (loadInt 0 32 (wordAt m 6 1)) + adjustedCount (loadInt 0 10 (wordAt m 6 2))
        + adjustedCount (loadQuantity 0 30 (wordAt m 6 3)) + adjustedCount (loadInt 10 50 (wordAt m 6 4))
        + adjustedCount (loadQuantity 10 120 (wordAt m 6 5)) + adjustedCount (loadQuantity 10 60 (wordAt m 6 6))
        + adjustedCount (loadQuantity 0 100 (wordAt m 6 7)) =
      (([0, 1, 2, 3, 4, 5, 6, 7].map (fun c => (6, c))).map (wordAdjusted m)).sum) ∧
    (adjustedCount (loadNamed PriorityMode.fixed (priorityOfCode (wordAt m 7 0).toNat))
        + adjustedCount (loadNamed PriorityMode.fixed (priorityOfCode (wordAt m 7 1).toNat))
        + adjustedCount (loadNamed PriorityMode.fixed (priorityOfCode (wordAt m 7 2).toNat))
        + adjustedCount (loadNamed Nesting.strict (nestingOfCode (wordAt m 7 3).toNat)) + adjustedCount (loadOrder .saloon (wordAt m 7 4))
        + adjustedCount (loadOrder .lower (wordAt m 7 5)) + adjustedCount (loadOrder .upper (wordAt m 7 6))
        + adjustedCount (loadNamed (0x7FFF : Half) (if flagSetValid (wordAt m 7 7) then some (wordAt m 7 7) else none)) =
      (([0, 1, 2, 3, 4, 5, 6, 7].map (fun c => (7, c))).map (wordAdjusted m)).sum) ∧
    (adjustedCount (loadAllowance (wordAt m 8 0)) + adjustedCount (loadQuantity 10 90 (wordAt m 8 1))
        + adjustedCount (loadNamed (⟨true, true⟩ : PerComp Bool) (compSetOfCode (wordAt m 8 2).toNat))
        + adjustedCount (loadNamed true (permitOfCode (wordAt m 8 3).toNat)) + adjustedCount (loadQuantity 0 60 (wordAt m 8 4)) =
      (([0, 1, 2, 3, 4].map (fun c => (8, c))).map (wordAdjusted m)).sum) := by
  refine ⟨?_, ?_, ?_⟩
  · simp only [adjustedCount_int (show 1 ≤ 40 by decide), adjustedCount_int (show 0 ≤ 32 by decide),
      adjustedCount_int (show 0 ≤ 10 by decide), adjustedCount_int (show 10 ≤ 50 by decide),
      adjustedCount_quantity (show 0 ≤ 30 by decide), adjustedCount_quantity (show 10 ≤ 120 by decide),
      adjustedCount_quantity (show 10 ≤ 60 by decide), adjustedCount_quantity (show 0 ≤ 100 by decide),
      List.map_cons, List.map_nil, List.sum_cons, List.sum_nil, Nat.add_assoc, Nat.add_zero]
    rfl
  · simp only [adjustedCount_named, priorityOfCode_isSome, nestingOfCode_isSome, flagSet_isSome, adjustedCount_order_saloon,
      adjustedCount_order_lower, adjustedCount_order_upper, List.map_cons, List.map_nil, List.sum_cons, List.sum_nil, Nat.add_assoc,
      Nat.add_zero]
    rfl
  · simp only [adjustedCount_allowance, adjustedCount_quantity (show 10 ≤ 90 by decide), adjustedCount_quantity (show 0 ≤ 60 by decide),
      adjustedCount_named, compSetOfCode_isSome, permitOfCode_isSome, List.map_cons, List.map_nil, List.sum_cons, List.sum_nil,
      Nat.add_assoc, Nat.add_zero]
    rfl

/-- The number of settings that a load has to clamp or default (R176) is the number of words that are not valid as they stand. -/
theorem loadSettings_count (m : Memory) :
    (loadSettings m).2 = settingsAdjusted (fun r c => (Memory.read m (r * 8 + c)).toNat) := by
  have hl : settingWords = Zone.all.flatMap (fun z => [0, 1, 2, 3, 4, 5].map (fun c => (codeOfZone z, c))) ++
      ([0, 1, 2, 3, 4, 5, 6, 7].map (fun c => (6, c)) ++ ([0, 1, 2, 3, 4, 5, 6, 7].map (fun c => (7, c)) ++
        ([0, 1, 2, 3, 4].map (fun c => (8, c)) ++ (List.range 54).map (fun a => (9 + a / 8, a - 8 * (a / 8)))))) := by decide +kernel
  obtain ⟨h6, h7, h8⟩ := loadRows_count m
  rw [settingsAdjusted, countP_wordValid, hl]
  simp only [Zone.all, List.flatMap_cons, List.flatMap_nil, List.append_nil, List.map_append, List.sum_append, ← loadPoints_count, ← h6,
    ← h7, ← h8]
  simp only [← loadZone_count]
  simp only [loadSettings, Nat.add_assoc]

end Sys2Proof.Machine
end

