-- ==== Sys2Proof/Tests/Slice0.lean ====
section
/-! SUPPORT. Smoke tests of well-formedness, worked examples of the chapters, and for each statement with hypotheses a witness: a
concrete state and operands that meet them, clause by clause at the ends of their ranges. -/

open Sys2Proof Sys2Proof.Machine

namespace Sys2Proof.Tests

/-! ## Well-formedness and frames -/

theorem test_wellFormed_refuses :
    (Instr.arbOrder 0 [0]).wellFormed = false ∧ (Instr.arbOrder 2 [5, 6, 7, 5]).wellFormed = false ∧
      (Instr.curveWrite []).wellFormed = false ∧ (Instr.curveWrite (List.replicate 10 0)).wellFormed = false ∧
      (Instr.frameComplete 1 (List.replicate 61 0)).wellFormed = false := by decide

theorem test_wellFormed_accepts :
    (Instr.arbOrder 1 [4, 3]).wellFormed = true ∧ (Instr.arbOrder 2 [5, 6, 7]).wellFormed = true ∧
      (Instr.curveWrite [0]).wellFormed = true ∧ (Instr.curveWrite (List.replicate 9 0)).wellFormed = true ∧
      (Instr.frameComplete 1 (List.replicate 60 0)).wellFormed = true := by decide

/-- The check value of the CRC of R164 (generator 0x1021 from 0xFFFF) over the digits 1 to 9, as it is published for it. -/
theorem test_crc_check_value : crcOf [0x31, 0x32, 0x33, 0x34, 0x35, 0x36, 0x37, 0x38, 0x39] = 0x29B1 := by decide +kernel

/-- The frame of IDENTIFY, with its CRC worked out by hand. -/
theorem test_frame_identify : frameBytes 0x23 [] = [0xA5, 0x01, 0x23, 0x3A, 0x3F] := by decide +kernel

/-- Payloads written out from R179: ZONE SET, SEATS, ARB ORDER, ALLOWANCE of 7,230 W and PROFILE WRITE. -/
theorem test_decode_payloads :
    decodeFrame 0x01 [3, 1, 0x00, 0xDC] = .command (.zoneSet 3 1 220) ∧
      decodeFrame 0x05 [1, 2, 3, 4, 5, 6] = .command (.seats 1 2 3 4 5 6) ∧
      decodeFrame 0x0C [2, 7, 5, 6] = .command (.arbOrder 2 [7, 5, 6]) ∧
      decodeFrame 0x11 [0x1C, 0x3E] = .command (.allowance 7230) ∧
      decodeFrame 0x25 [6, 5, 0x00, 0x2D] = .command (.profileWrite 6 5 45) ∧
      decodeFrame 0x29 [] = .unknownType ∧ decodeFrame 0x00 [] = .unknownType ∧ decodeFrame 0x0C [2, 7] = .badLength ∧
      decodeFrame 0x18 [] = .badLength := by decide +kernel

/-- The table gives its rows no bits. -/
theorem test_no_table_word : decodeTableWord 16 0x2301 = none := by decide

/-! ## Small states -/

/-- Part time `n` with one cool token wanted. -/
def shortOfCoolingAt (n : Nat) : State := (State.reset.setPartTime n).setCs { State.reset.cs with wantedTotal := 1 }

def inPower (p : PowerState) : State := State.reset.setPsc { State.reset.psc with power := p }

def atTime (n : Nat) (s : State) : State := s.setPartTime n

def withHeater (h : HeaterState) (attempt : Nat) (s : State) : State :=
  s.setHs { s.hs with heater := h, pump := true, attempt := attempt }

def withComp (c : Comp) (st : CompState) (s : State) : State := s.setComp c { s.comp c with state := st, onSince := some 0 }

/-- A Good channel with a value. -/
def goodChannel (v : Int) : ChannelRec := ⟨.good, some v, none, none⟩

def withChannel (c : Channel) (v : Int) (s : State) : State := s.setSsu (s.ssu.set c (goodChannel v))

/-- Auto in one zone, its timer started. -/
def withMode (z : Zone) (m : OpMode) (s : State) : State := s.setZone z { s.zone z with opMode := m, timer := 600 }

/-- Four cool tokens, two of them held by E and one, short of two, by U1. -/
def sharing : State :=
  State.reset.setCa
    { State.reset.ca with
      coolCap := 4
      queue := [.zone .u1]
      table :=
        { State.reset.ca.table with
          zones :=
            (State.reset.ca.table.zones.set .e ⟨.cool, 2, 2, some 0, false, true⟩).set .u1
              ⟨.cool, 2, 1, some 0, true, true⟩ } }

/-- 4,200 W of host allowance in force. -/
def allowed (n : Nat) (s : State) : State := s.setLa { s.la with hostValue := some n, lastRefresh := some 0, status := .fresh }

/-! ## Worked examples of the chapters -/

/-- State.reset is the power-on reset of a part with its pins off (R153, log entry 7). -/
theorem test_reset_is_power_on : powerOnWork State.reset.pins State.reset = State.reset := by decide +kernel

/-- Section 1.6, summer afternoon in U1, with the integrator running and then starved. -/
theorem test_evaluation_summer :
    effectiveSetpoint { State.reset.zc with shift := 5 } .u1 { ZoneRec.atReset false with opMode := .auto } 314 650 = 244 ∧
      deadbandError 3 244 273 = -26 ∧ integrate 4 (-9600) (-26) false .cool = -9704 ∧ demandOf 12 (-26) (-9704) = -463 ∧
      nextKind .cool (-463) = .cool ∧ wantedFor .cool (-463) = 2 ∧
      integrate 4 (-9704) (-24) true .cool = -9704 ∧ demandOf 12 (-24) (-9704) = -439 ∧
      demandOf 12 (-24) (integrate 4 (-9704) (-24) false .cool) = -441 := by decide +kernel

/-- Section 1.6, winter night in L2 in Setback, both evaluations. -/
theorem test_evaluation_winter :
    effectiveSetpoint State.reset.zc .l2 { ZoneRec.atReset false with opMode := .setback, setpoint := 210 } (-85) 0 = 180 ∧
      deadbandError 3 180 172 = 5 ∧ demandOf 12 5 (integrate 4 1920 5 false .none) = 90 ∧ nextKind .none 90 = .none ∧
      demandOf 12 12 (integrate 4 1940 12 false .none) = 175 ∧ nextKind .none 175 = .heat ∧ wantedFor .heat 175 = 1 := by
  decide +kernel

/-- R70's examples from band 2, and the return at 62.0 °C from band 0. -/
theorem test_heat_band :
    bandAfter 2 (some 540) = 2 ∧ bandAfter 2 (some 525) = 1 ∧ bandAfter 2 (some 360) = 0 ∧ bandAfter 2 (some 710) = 3 ∧
      bandAfter 0 (some 620) = 2 ∧ bandAfter 2 none = 0 := by decide

/-- Section 7.8: curve 8 at demand 463 with two tokens gives 46%, and the nine values written from address 18. -/
theorem test_curves :
    targetSpeed 25 State.reset.apc.curveTable .linear .auto 463 2 = 46 ∧
      targetSpeed 25 State.reset.apc.curveTable .linear .auto 463 1 = 25 ∧
      (writePoints [0, 20, 35, 48, 58, 66, 72, 76, 130] { State.reset.apc with pointer := ⟨18, .increment, .curve⟩ }).pointer =
        ⟨18, .increment, .curve⟩ ∧
      ((writePoints [0, 20, 35, 48, 58, 66, 72, 76, 130]
            { State.reset.apc with pointer := ⟨18, .increment, .curve⟩ }).curveTable.drop 18).take 9 =
        [0, 20, 35, 48, 58, 66, 72, 76, 100] := by decide +kernel

/-- Section 5.8: the throttle over the four samples of a hot climb. -/
theorem test_throttle :
    throttleAfter CompRec.atReset (some 236) (some 80) = false ∧ throttleAfter CompRec.atReset (some 240) (some 81) = true ∧
      throttleAfter { CompRec.atReset with throttle := true } (some 225) (some 80) = true ∧
      throttleAfter { CompRec.atReset with throttle := true } (some 218) (some 79) = false := by decide

/-! ## Witnesses: steps, resets, queries and settings -/

theorem witness_StepRunsFrontCommand :
    (State.reset.setPending [.home, .gap]).pending = .home :: [.gap] ∧ State.reset.pending = [] := by decide

theorem witness_SoftReset :
    State.reset.hlu.resetDue = false ∧ (State.reset.setHlu { State.reset.hlu with resetDue := true }).hlu.resetDue = true := by
  decide

/-- The premise of every command taken in Run and Layover, with the first and last zone ids and the first id that is none. -/
theorem witness_taken :
    readyForCommand State.reset = true ∧ inUse State.reset.psc.power = true ∧ readyForCommand (inPower .run) = true ∧
      readyForCommand (inPower .windingDown) = true ∧ zoneOfCode 0 = some .e ∧ zoneOfCode 5 = some .u3 ∧ 5 < (6 : Byte).toNat := by
  decide

theorem witness_QueriesAnswer :
    readyForCommand State.reset = true ∧ zoneOfCode 5 = some .u3 ∧ 5 < (6 : Byte).toNat ∧
      ([.e, .lower, .upper] ++ [.l1, .l2] ++ [.u1, .u2, .u3] : List Line)[7]? = some .u3 ∧
      (∃ s, s = atTime 3600 (State.reset.setLa { State.reset.la with stack := [⟨.pump, 1⟩] }) ∧ readyForCommand s = true ∧
        s.la.stack[0]? = some ⟨.pump, 1⟩ ∧ s.la.stack.length ≤ 1) ∧
      ∃ s, s = atTime 3600 (State.reset.setComp .b { CompRec.atReset with startLog := [0, 1] }) ∧
        ((s.comp .b).startLog.filter (fun x => decide (s.partTime < x + 3600)))[0]? = some 1 :=
  ⟨by decide, by decide, by decide, by decide, ⟨_, rfl, by decide⟩, ⟨_, rfl, by decide⟩⟩

/-- R180: the first bytes of QUERY LOAD at reset are the fallback allowance of 2,000 W and status Fallback, and W_c and C of QUERY PLANT are
at bytes 37 and 38 of the reply. -/
theorem test_reply_bytes :
    (loadFields State.reset).take 3 = [0x07, 0xD0, 0x02] ∧ (loadFields (shortOfCoolingAt 300)).drop 54 = [0, 0, 1, 0x2C] ∧
      (plantFields (shortOfCoolingAt 300)).getD 36 9 = 1 ∧ (arbiterFields State.reset).drop 52 = [0x05, 0x39, 0x77, 0, 30, 0, 0] := by
  decide +kernel

theorem witness_IdentifyAnswers :
    State.reset.hlu.inHand = none ∧ State.reset.psc.power ≠ .parked ∧ (inPower .parked).hlu.inHand = none := by decide

theorem witness_HomeClearsShift : State.reset.hlu.inHand = none ∧ (inPower .parked).hlu.inHand = none := by decide

theorem witness_SaloonAndLinkSettings :
    readyForCommand State.reset = true ∧ 1 < (2 : Byte).toNat ∧ (0x7FFF : Half).getLsbD 15 = false ∧
      (0x8000 : Half).getLsbD 15 = true := by decide

theorem witness_ZoneAndPlantSettings :
    readyForCommand State.reset = true ∧ zoneOfCode 0 = some .e ∧ (15 : Byte).toNat < 16 ∧ 15 < (16 : Byte).toNat ∧
      5 < (6 : Byte).toNat ∧ codeOfCurve (.user 5) = (5 : Byte).toNat ∧ codeOfCurve .linear = (8 : Byte).toNat ∧
      codeOfCurve .constant = (11 : Byte).toNat ∧ (6 : Byte).toNat = 6 ∧ (7 : Byte).toNat = 7 ∧ 11 < (12 : Byte).toNat ∧
      (3 : Byte).toNat < 4 ∧ 3 < (4 : Byte).toNat := by decide

/-! ## Witnesses: the Zone Controller's commands -/

theorem witness_ZoneSetActs :
    readyForCommand State.reset = true ∧ inUse State.reset.psc.power = true ∧ zoneOfCode 5 = some .u3 ∧
      hostModeOfCode (2 : Byte).toNat = some .vent ∧
      (∃ s, s = withComp .a .unloading (inPower .windingDown) ∧ readyForCommand s = true ∧ s.psc.power = .windingDown ∧
        settled (allowed 4200 s) = true ∧ reportStopped s ≠ ⟨true, true, true⟩) ∧
      5 < (6 : Byte).toNat ∧ 2 < (3 : Byte).toNat :=
  ⟨by decide, by decide, by decide, by decide, ⟨_, rfl, by decide +kernel⟩, by decide, by decide⟩

/-- A wind-down whose compressor B is still in Unloading, the other two blocks having reported. -/
def unloadingB : State :=
  let s := withComp .b .unloading (inPower .windingDown)
  allowed 4200 (s.setPsc { s.psc with stopped := ⟨false, true, true⟩ })

theorem witness_SeatsAct :
    readyForCommand State.reset = true ∧ inUse State.reset.psc.power = true ∧ windingDownQuietly unloadingB = true := by
  decide +kernel

theorem witness_NudgeAndTouchAct :
    readyForCommand State.reset = true ∧ inUse State.reset.psc.power = true ∧ zoneOfCode 0 = some .e ∧ 5 < (6 : Byte).toNat ∧
      1 < (2 : Byte).toNat ∧ (1 : Byte) ≠ 0 ∧ (63 : Byte).toNat < 64 ∧ (63 : Byte) ≠ 0 ∧ 63 < (64 : Byte).toNat ∧
      readyForCommand unloadingB = true ∧ windingDownQuietly unloadingB = true := by decide +kernel

/-- The premises of the commands and events of the arbiter, the load account, the air path, the profile and the sequencers in
Winding-down, with wind-downs that go on after them. -/
theorem witness_windingDown :
    (readyForCommand unloadingB = true ∧ unloadingB.psc.power = .windingDown ∧ windingDownQuietly unloadingB = true ∧
        unloadingB.ps.state = .idle ∧ unloadingB.psc.departTime = none ∧ unloadingB.cs.checkedAt ≠ some unloadingB.partTime ∧
        unloadingB.hs.checkedAt ≠ some unloadingB.partTime) ∧
      (∃ t, exec (.mask 63) unloadingB = .next t ∧ t.psc.power = unloadingB.psc.power) ∧
      (∃ t, exec (.ventLimits 26 16) unloadingB = .next t ∧ t.psc.power = unloadingB.psc.power) ∧
      (∃ t, exec .profileLoad unloadingB = .next t ∧ t.psc.power = unloadingB.psc.power) ∧
      (∃ t, exec .stagingCheck unloadingB = .next t ∧ t.psc.power = unloadingB.psc.power) ∧
      ∃ s t, s = atTime 10 unloadingB ∧ (s.comp .b).state = .unloading ∧ (s.comp .b).stateSince + 10 ≤ s.partTime ∧
        exec (.unloadingExpiry .b) s = .next t ∧ t.psc.power = .parked :=
  ⟨by decide +kernel, ⟨_, rfl, by decide +kernel⟩, ⟨_, rfl, by decide +kernel⟩, ⟨_, rfl, by decide +kernel⟩,
    ⟨_, rfl, by decide +kernel⟩, ⟨_, _, rfl, by decide, by decide, rfl, by decide +kernel⟩⟩

/-! ## Witnesses: the Capacity Arbiter's commands -/

theorem witness_ArbiterSettings :
    readyForCommand State.reset = true ∧ inUse State.reset.psc.power = true ∧ (1 : Byte).toNat ≤ 1 ∧ (2 : Byte).toNat ≤ 2 ∧
      1 < (2 : Byte).toNat ∧ 2 < (3 : Byte).toNat ∧
      (arbiterOfCode 2 = some .upper ∧
        ([7, 5, 6] : List Byte) = ([.u3, .u1, .u2] : List Line).map (fun l => BitVec.ofNat 8 (codeOfLine l)) ∧
        ([.u3, .u1, .u2] : List Line).Perm (arbiterLines .upper)) ∧
      (arbiterOfCode 1 = some .lower ∧ lineOfCode (4 : Byte).toNat = some .l2 ∧ Line.l2 ∈ arbiterLines .lower ∧
        State.reset.ca.orders.get .lower = [.l1] ++ .l2 :: [] ∧ Line.l2 ∉ [Line.l1]) ∧
      arbiterOfCode 3 = none ∧ lineOfCode (8 : Byte).toNat = none := by decide

theorem witness_sharing_lawful : tableLawful sharing.ca ∧ poolsLawful sharing.ca ∧ queueLawful sharing.ca := by
  refine ⟨⟨fun i => ?_, by decide, by decide⟩, fun k => ?_, by decide, fun i => ?_⟩
  · unfold entryLawful
    cases i with
    | scc => decide
    | sch => decide
    | zone z => cases z <;> decide
  · cases k <;> decide
  · cases i with
    | scc => decide
    | sch => decide
    | zone z => cases z <;> decide

theorem witness_MaskAndReleaseAct :
    readyForCommand sharing = true ∧ inUse sharing.psc.power = true ∧ (63 : Byte).toNat < 64 ∧ 63 < (64 : Byte).toNat ∧
      zoneOfCode 3 = some .u1 ∧ tableLawful sharing.ca ∧ queueLawful sharing.ca ∧ 5 < (6 : Byte).toNat :=
  ⟨by decide, by decide, by decide, by decide, by decide, witness_sharing_lawful.1, witness_sharing_lawful.2.2, by decide⟩

/-! ## Witnesses: allowance, lockouts and permit -/

theorem witness_AllowanceActs :
    readyForCommand State.reset = true ∧ inUse State.reset.psc.power = true ∧
      allowanceInForce State.reset.la ≤ min (2000 : Half).toNat 15000 / 50 * 50 ∧
      (∃ s, s = atTime 6 (allowed 4200 State.reset) ∧ s.la.lastRefresh = some 0 ∧ s.la.status = .fresh ∧ 0 + 6 ≤ s.partTime) ∧
      State.reset.la.status ≠ .fresh ∧ (atTime 5 (allowed 4200 State.reset)).partTime < 0 + 6 ∧
      (∃ s, s = atTime 31 (State.reset.setLa ⟨some 1000, some 0, .stale, 2000, []⟩) ∧ s.la.lastRefresh = some 0 ∧
        s.la.status = .stale ∧ 0 + 31 ≤ s.partTime ∧ s.psc.power ≠ .windingDown ∧ allowanceInForce s.la ≤ s.la.fallback) ∧
      State.reset.la.status ≠ .stale := by
  refine ⟨by decide, by decide, by decide +kernel, ⟨_, rfl, by decide⟩, by decide, by decide, ⟨_, rfl, by decide⟩, by decide⟩

theorem witness_LockoutAndPermit :
    readyAndSettled State.reset = true ∧ readyAndSettled (withComp .b .lockout State.reset) = true ∧
      readyAndSettled (withHeater .burning 1 State.reset) = true ∧ 2 < (3 : Byte).toNat ∧ 1 < (2 : Byte).toNat := by
  decide +kernel

/-! ## Witnesses: the Air Path Controller's commands -/

theorem witness_CurvePointerSet : State.reset.hlu.inHand = none ∧ (53 : Byte).toNat ≤ 53 ∧ ¬(54 : Byte).toNat ≤ 53 := by decide

theorem witness_CurveWriteWrites :
    (⟨53, .increment, .curve⟩ : CurvePtr).address = 9 * 5 + 8 ∧ (⟨0, .decrement, .curve⟩ : CurvePtr).address = 9 * 0 + 0 ∧
      (⟨53, .increment, .table⟩ : CurvePtr).scope = .table ∧
    readyForCommand State.reset = true ∧ 1 ≤ ([7] : List Byte).length ∧ (List.replicate 9 (101 : Byte)).length ≤ 9 ∧
      State.reset.apc.pointer.address ≤ 53 ∧ State.reset.apc.curveTable.length = 54 ∧ ([] : List Byte).length = 0 ∧
      9 < (List.replicate 10 (0 : Byte)).length := by decide

theorem witness_CurveReadReads : State.reset.hlu.inHand = none ∧ (inPower .parked).hlu.inHand = none := by decide

theorem witness_VentLimitsAct :
    readyForCommand State.reset = true ∧ inUse State.reset.psc.power = true ∧ max 10 (min 60 (26 : Byte).toNat) ≠ 25 ∧
      min 100 (16 : Byte).toNat ≠ 15 ∧ State.reset.apc.ventMin = 25 ∧ State.reset.apc.freshMin = 15 ∧
      settled State.reset = true ∧
      ((State.reset.setBlower .e ⟨some .vent, 0, 0, 25⟩).blower .e).mode = some .vent ∧ inService .vent = true ∧
      (State.reset.setBlower .e ⟨none, 0, 0, 0⟩ |>.blower .e).mode = none := by
  decide +kernel

/-- Section 7.8's 46% as a target above, at and below the present speed, and at the vent minimum on the shed stack. -/
theorem test_computeBlower :
    ∃ s : Nat → State, s = (fun c => State.reset.setBlower .e ⟨some .auto, 463, 2, c⟩) ∧
      ((s 30).blower .e).mode = some .auto ∧ ((computeBlower .e (s 30)).blower .e).speed = 46 ∧ computeBlower .e (s 46) = s 46 ∧
      ((computeBlower .e (s 60)).blower .e).speed = 46 ∧
      ((computeBlower .e ((s 60).setLa { (s 60).la with stack := [⟨.blower .e, 0⟩] })).blower .e).speed = 25 :=
  ⟨_, rfl, by decide +kernel⟩

/-! ## Witnesses: screen clear and power states -/

def screenOn (n : Nat) (s : State) : State := s.setScm { s.scm with active := true, activeSince := some n }

theorem witness_ScreenActs :
    readyForCommand State.reset = true ∧ inUse State.reset.psc.power = true ∧ State.reset.scm.active = false ∧
      inUse (inPower .windingDown).psc.power = false ∧ (screenOn 0 State.reset).scm.active = true ∧ 2 < (3 : Byte).toNat := by
  decide

theorem witness_ParkActs :
    readyForCommand (inPower .run) = true ∧ (inPower .run).psc.power = .run ∧
      (∃ s, s = inPower .windingDown ∧ readyForCommand s = true ∧ s.psc.power = .windingDown ∧ s.pins.ignition = false) ∧
      (∃ s, s = withMode .u1 .auto (withComp .a .running State.reset) ∧ readyForCommand s = true ∧ s.psc.power = .layover ∧
        s.pins.ignition = false ∧ s.psc.precondition = false ∧ (s.zone .u1).opMode ≠ .standby) ∧
      (∃ s, s = State.reset.setPsc { State.reset.psc with precondition := true } ∧ readyForCommand s = true ∧
        s.psc.power = .layover ∧ s.pins.ignition = false ∧ s.psc.precondition = true) :=
  ⟨by decide, by decide, ⟨_, rfl, by decide⟩, ⟨_, rfl, by decide⟩, ⟨_, rfl, by decide⟩⟩

theorem witness_reset_loadLawful : loadLawful State.reset := by
  refine ⟨by unfold stackLawful; decide, fun z => ?_, ⟨fun c => ?_, by decide, by decide⟩, by decide +kernel⟩
  · unfold blowerLawful; cases z <;> decide
  · cases c <;> decide

/-- With all plant stopped PARK ends in Parked, and with the precondition flag set in Layover with E, of host mode Auto, in Auto. -/
theorem witness_ParkActs_stopped :
    (∃ t, exec .park State.reset = .next t ∧ csStopped t = true ∧ hsStopped t = true ∧ t.psc.power = .parked) ∧
      ∃ s t, s = State.reset.setPsc { State.reset.psc with precondition := true } ∧ exec .park s = .next t ∧
        csStopped t = true ∧ hsStopped t = true ∧ t.psc.power = .layover ∧ (s.zone .e).hostMode = .auto :=
  ⟨⟨_, rfl, by decide +kernel⟩, ⟨_, _, rfl, rfl, by decide +kernel⟩⟩

def departing (lead : Int) (s : State) : State :=
  s.setPsc { s.psc with departTime := some 3600, leadPoint := some lead, leadArmed := true }

theorem witness_DepartActs :
    readyForCommand State.reset = true ∧ inUse State.reset.psc.power = true ∧ (720 : Half) ≠ 0 ∧
      State.reset.psc.departLead < min (31 : Half).toNat 720 ∧ min (30 : Half).toNat 720 ≤ State.reset.psc.departLead ∧
      (departing 0 State.reset).psc.leadPoint = some 0 ∧ (departing 0 State.reset).psc.leadArmed = true ∧
      (0 : Int) ≤ (departing 0 State.reset).partTime ∧ (State.reset.zone .e).hostMode = .auto ∧
      State.reset.psc.leadArmed = false ∧ ((departing 1 State.reset).partTime : Int) < 1 ∧
      (departing 0 State.reset).psc.departTime = some 3600 ∧ State.reset.psc.departTime = none ∧
      readyForCommand (inPower .windingDown) = true ∧ (inPower .windingDown).psc.power = .windingDown := by decide

/-- DEPART 30 in Winding-down reaches its lead at once and abandons the wind-down; DEPART 31 lets it run on. -/
theorem test_depart_winding_down :
    (∃ t, exec (.depart 30) unloadingB = .next t ∧ t.psc.power = .layover ∧ t.psc.precondition = true) ∧
      ∃ t, exec (.depart 31) unloadingB = .next t ∧ t.psc.power = .windingDown ∧ t.psc.precondition = false :=
  ⟨⟨_, rfl, by decide +kernel⟩, ⟨_, rfl, by decide +kernel⟩⟩

/-! ## Witnesses: the profile store -/

def storing (st : StoreState) : State := State.reset.setPs { State.reset.ps with state := st }

theorem witness_ProfileStoreWrites :
    readyForCommand State.reset = true ∧ (15 : Byte).toNat ≤ 15 ∧ (7 : Byte).toNat ≤ 7 ∧ State.reset.ps.state = .idle ∧
      (storing (.erasing 15 7 9)).ps.state ≠ .idle ∧ 15 < (16 : Byte).toNat ∧ 7 < (8 : Byte).toNat ∧
      (storing (.erasing 15 7 9)).ps.state = .erasing 15 7 9 ∧ (storing (.writing 6 5 45)).ps.state = .writing 6 5 45 := by decide

/-- E's setpoint 172 is rounded and the saloon order 0 defaulted; curve point 0 and the free word of row 0, column 6, are valid. -/
theorem test_profile_load_count :
    (∃ s t, s = State.reset.setPs { State.reset.ps with cells := [(0, 172), (6, 9), (60, 0), (72, 1)] } ∧ exec .profileLoad s = .next t ∧
      fieldsInHand t = some [2]) ∧ ∃ t, exec .profileLoad State.reset = .next t ∧ fieldsInHand t = some [0] :=
  ⟨⟨_, _, rfl, rfl, by decide +kernel⟩, _, rfl, by decide +kernel⟩

theorem witness_ProfileLoadTakes :
    readyForCommand State.reset = true ∧ inUse State.reset.psc.power = true ∧ State.reset.ps.state = .idle ∧
      (storing (.writing 0 0 1)).ps.state ≠ .idle ∧ State.reset.psc.departTime = none ∧
      (departing 0 State.reset).psc.departTime = some 3600 ∧ inUse (departing 0 State.reset).psc.power = true := by decide

/-- A lead point still to come at a load, the loaded lead being 30 minutes, and one that has come, in Layover and in Winding-down. -/
theorem witness_ProfileLoadTakes_lead :
    (∃ s t, s = atTime 1799 (departing 0 State.reset) ∧ exec .profileLoad s = .next t ∧ t.psc.departLead = 30 ∧
        (s.partTime : Int) < (3600 : Int) - 60 * 30 ∧ t.psc.power = s.psc.power) ∧
      ∃ s t, s = atTime 1800 (departing 0 (inPower .windingDown)) ∧ exec .profileLoad s = .next t ∧ t.psc.departLead = 30 ∧
        (3600 : Int) - 60 * 30 ≤ s.partTime ∧ s.psc.power = .windingDown ∧ (t.zone .e).hostMode = .auto :=
  ⟨⟨_, _, rfl, rfl, by decide +kernel⟩, ⟨_, _, rfl, rfl, by decide +kernel⟩⟩

/-! ## Witnesses: the host line -/

def inHandWith (sending : Bool) (s : State) : State := s.setHlu { s.hlu with inHand := some ⟨0x8A, [0, 0], sending, false⟩ }

def sendingFrame (k : FrameKind) (s : State) : State := s.setHlu { s.hlu with sending := some ⟨k, [0xA5]⟩ }

theorem witness_TransmitterSends :
    ((inHandWith false State.reset).hlu.inHand = some ⟨0x8A, [0, 0], false, false⟩ ∧
        (inHandWith false State.reset).hlu.sending = none) ∧
      (sendingFrame .event State.reset).hlu.sending.isSome = true ∧
      (State.reset.hlu.sending = none ∧ State.reset.hlu.inHand = none ∧ State.reset.hlu.resetDue = false ∧
        State.reset.hlu.unreported ≠ 0) ∧
      (∃ s, s = State.reset.setHlu { State.reset.hlu with unreported := 0, snapshotWaiting := true } ∧
        s.hlu.unreported = 0 ∧ s.hlu.snapshotWaiting = true) ∧
      (sendingFrame .reply (inHandWith true State.reset)).hlu.sending = some ⟨.reply, [0xA5]⟩ :=
  ⟨by decide, by decide, by decide, ⟨_, rfl, by decide⟩, by decide⟩

def framing (f : Framer) : State := State.reset.setHlu { State.reset.hlu with framer := f }

theorem witness_FramerFollowsTable :
    State.reset.hlu.framer = .hunt ∧ (framing .length).hlu.framer = .length ∧
      (framing (.body 61 [0x18])).hlu.framer = .body 61 [0x18] ∧ (framing (.check 1 [0x0A] none)).hlu.framer = .check 1 [0x0A] none ∧
      (framing (.check 1 [0x23] (some 0x3A))).hlu.framer = .check 1 (0x23 :: []) (some 0x3A) ∧
      joinBytes 0x3A 0x3F = crcOf (BitVec.ofNat 8 1 :: 0x23 :: []) ∧ joinBytes 0x3A 0x3E ≠ crcOf (BitVec.ofNat 8 1 :: [0x23]) := by
  decide +kernel

theorem witness_FrameRunsCommand :
    (Instr.curveWrite (List.replicate 9 0)).wellFormed = true ∧ encodeFrame (.curveWrite [1, 2]) = some (0x18, [1, 2]) ∧
      readyForCommand State.reset = true ∧ (0 : Byte).toNat = 0 ∧ 0x28 < (0x29 : Byte).toNat ∧ 1 ≤ (0x01 : Byte).toNat ∧
      (0x28 : Byte).toNat ≤ 0x28 := by decide

/-- HOME has no payload, so a byte in its payload is none of its forms. -/
theorem witness_FrameRunsCommand_length (i : Instr) : encodeFrame i ≠ some (0x0A, [0]) := by cases i <;> simp [encodeFrame]

theorem witness_FramesDecodeToTheirCommands :
    (Instr.arbOrder 2 [7, 5, 6]).wellFormed = true ∧ encodeFrame (.arbOrder 2 [7, 5, 6]) = some (0x0C, [2, 7, 5, 6]) ∧
      decodeFrame 0x0C [1, 4, 3] = .command (.arbOrder 1 [4, 3]) := by decide +kernel

theorem witness_LineDeliversFrames :
    (List.replicate 60 (0 : Byte)).length ≤ 60 ∧ State.reset.hlu.framer = .hunt ∧
      joinBytes 0x3A 0x3E ≠ crcOf (BitVec.ofNat 8 (([] : List Byte).length + 1) :: 0x23 :: []) := by decide +kernel

theorem witness_RefusalsChangeNothing :
    isHostCommand .park = true ∧ readyForCommand (inPower .run) = true ∧
      (inHandWith false State.reset).hlu.inHand.isSome = true ∧ (inHandWith false State.reset).psc.power ≠ .parked := by decide

theorem witness_CommandFrameWakes :
    isWholeFrame .home = true ∧ isWholeFrame (.frameComplete 0xFF []) = true ∧ (inPower .parked).psc.power = .parked := by decide

/-! ## Witnesses: part time, pins and sensors -/

theorem witness_TickCounts :
    (atTime 4294967294 State.reset).partTime < 4294967295 ∧ 4294967295 ≤ (atTime 4294967295 State.reset).partTime := by decide

def ignitionOn (s : State) : State := s.setPins { s.pins with ignition := true }

theorem witness_IgnitionActs :
    (∃ s, s = ignitionOn (inPower .run) ∧ s.pins.ignition = true ∧ settled s = true ∧ s.psc.power = .run) ∧
      (∃ s, s = ignitionOn State.reset ∧ s.pins.ignition = true ∧ settled s = true ∧ s.psc.power = .layover) ∧
      ((inPower .run).pins.ignition = false ∧ settled (inPower .run) = true ∧ (inPower .run).psc.power = .run) ∧
      (State.reset.pins.ignition = false ∧ State.reset.psc.power ≠ .run) ∧
      (∃ s, s = (inPower .windingDown).setPsc { (inPower .windingDown).psc with precondition := true } ∧
        s.pins.ignition = false ∧ s.psc.power = .windingDown ∧ (s.zone .e).seats = 0 ∧ (s.zone .e).hostMode = .auto) ∧
      (∃ s, s = atTime 60 ((inPower .run).setPsc { (inPower .run).psc with ignitionOffSince := some 0 }) ∧
        s.psc.ignitionOffSince = some 0 ∧ s.psc.power = .run ∧ 0 + 60 ≤ s.partTime ∧ (s.zone .e).seats = 0) :=
  ⟨⟨_, rfl, by decide +kernel⟩, ⟨_, rfl, by decide +kernel⟩, by decide +kernel, by decide, ⟨_, rfl, by decide⟩, ⟨_, rfl, by decide⟩⟩

theorem witness_DoorEdgesAct : inUse State.reset.psc.power = true ∧ inUse (inPower .parked).psc.power = false := by decide

def heldChannel (since : Nat) : ChannelRec := ⟨.held, none, some since, none⟩

theorem witness_SampleMovesChannel :
    (inPower .parked).psc.power = .parked ∧
      (State.reset.psc.power ≠ .parked ∧ (State.reset.ssu.get .outdoor).sampledAt ≠ some State.reset.partTime) ∧
      (channelRange .outdoor = (-400, 600)) ∧ settled State.reset = true ∧ State.reset.psc.power ≠ .windingDown ∧
      (State.reset.ssu.get .outdoor).status ≠ .failed ∧ 0 + 60 ≤ (atTime 60 State.reset).partTime ∧
      windDownAtRest unloadingB = true := by decide +kernel

theorem witness_SensorUsersFollow :
    inUse State.reset.psc.power = true ∧ (State.reset.ssu.get (.zoneTemp .u1)).sampledAt ≠ some State.reset.partTime ∧
      (State.reset.ssu.get .coolant).sampledAt ≠ some State.reset.partTime ∧ State.reset.hs.band ≤ 3 ∧
      valueUsed (State.reset.ssu.get .coolant) = none ∧ valueUsed (goodChannel 750) = some 750 ∧
      (inPower .windingDown).psc.power ≠ .parked := by decide

/-- The sample that takes the coolant channel to Failed is a stop request (R122). -/
theorem test_coolant_failed :
    ∃ s t, s = atTime 60 ((withHeater .burning 1 State.reset).setSsu (State.reset.ssu.set .coolant (heldChannel 0))) ∧
      exec (.sample .coolant (-9999)) s = .next t ∧ (s.ssu.get .coolant).status ≠ .failed ∧ (t.ssu.get .coolant).status = .failed ∧
      t.hs.heater = .afterRun ∧ t.hs.cause = some .stop :=
  ⟨_, _, rfl, rfl, by decide, by decide +kernel⟩

/-! ## Witnesses: zone evaluation, timers and hold ends -/

theorem witness_PeriodEvaluates :
    (∃ s, s = State.reset.setZc { State.reset.zc with periodTimer := none } ∧ s.zc.periodTimer = none) ∧
      (∃ s, s = withMode .u1 .auto ((State.reset.setSsu (State.reset.ssu.set (.zoneTemp .u1) (goodChannel 273))).setZone .u1
          { State.reset.zone .u1 with sensor := .good }) ∧
        s.zc.periodTimer ≠ none ∧ inUse s.psc.power = true ∧ (s.zone .u1).opMode = .auto ∧
        temperatureFor s.ssu .u1 (s.zone .u1).sensor = some 273) :=
  ⟨⟨_, rfl, rfl⟩, ⟨_, rfl, by decide⟩⟩

/-- U1's own channel Failed, U2 and U3 Good at 0.0 and -0.3 degrees: the mean -0.15 is rounded toward zero (R7). -/
theorem test_borrowed_mean :
    ∃ s t, s = (State.reset.setSsu (((State.reset.ssu.set (.zoneTemp .u1) ⟨.failed, some 200, none, none⟩).set (.zoneTemp .u2)
          (goodChannel 0)).set (.zoneTemp .u3) (goodChannel (-3)))).setZone .u1 { State.reset.zone .u1 with sensor := .borrowed } ∧
      exec .periodExpiry s = .next t ∧ (t.zone .u1).tempUsed = some (-1) :=
  ⟨_, _, rfl, rfl, by decide +kernel⟩

/-- The timer runs on in Winding-down, where an expiry restarts it (R9). -/
theorem witness_PeriodEvaluates_windingDown :
    unloadingB.zc.periodTimer ≠ none ∧ ∃ t, exec .periodExpiry unloadingB = .next t ∧ t.psc.power = unloadingB.psc.power :=
  ⟨by decide, _, rfl, by decide +kernel⟩

theorem witness_InactivityExpires :
    (∃ s r, s = State.reset.setZone .l1 { State.reset.zone .l1 with opMode := .auto, timer := 0 } ∧ r = s.zone .l1 ∧
        (decide (r.timer = 0) && decide (r.seats = 0) && decide (s.psc.power ≠ .parked) &&
          (decide (r.opMode = .setback) || (decide (r.opMode = .auto) && !s.psc.precondition))) = true ∧
        inUse s.psc.power = true) :=
  ⟨_, _, rfl, rfl, by decide⟩

theorem witness_HoldEndServes :
    (∃ s, s = atTime 30 sharing ∧ (s.ca.entry (.zone .e)).since = some 0 ∧ (s.ca.entry (.zone .e)).holdPending = true ∧
        0 + s.ca.modes.hold ≤ s.partTime ∧ s.psc.power ≠ .windingDown) ∧
      (ordersLawful sharing.ca.orders ∧ tableLawful sharing.ca ∧ poolsLawful sharing.ca ∧ queueLawful sharing.ca) ∧
      (sharing.ca.entry .scc).holdPending = false ∧ (atTime 29 sharing).partTime < 0 + sharing.ca.modes.hold :=
  ⟨⟨_, rfl, by decide⟩, ⟨by unfold ordersLawful; decide, witness_sharing_lawful⟩, by decide, by decide⟩

/-! ## Witnesses: cooling plant -/

/-- A state with allowance for its loads is lawful: nothing is on the stack, and every blower stands still. -/
theorem loadLawful_of_still (s : State) (hst : s.la.stack = []) (hb : ∀ z, s.blower z = ⟨some (s.zone z).opMode, 0, 0, 0⟩)
    (hz : ∀ z, inService (s.zone z).opMode = false) (hl : committedLoad s ≤ loadBound s) : loadLawful s := by
  refine ⟨by simp [stackLawful, hst], fun z => ?_, by simp [shedPlantLawful, onStack, hst], hl⟩
  refine ⟨.inr (by rw [hb z]), fun _ => by rw [hb z], fun _ h => ?_, fun h => ?_⟩
  · rw [hz z] at h; cases h
  · simp [onStack, hst] at h

def startingA : State := atTime 5 (allowed 4200 (withComp .a .starting State.reset))

theorem witness_CompressorEventsAct :
    ((startingA.comp .a).state = .starting ∧ (startingA.comp .a).stateSince + 5 ≤ startingA.partTime ∧
        startingA.psc.power ≠ .windingDown ∧ loadLawful startingA) ∧
      ((startingA.comp .b).state ≠ .starting ∧ 4 < (startingA.comp .a).stateSince + 5) ∧
      (∃ s, s = atTime 10 (withComp .b .unloading State.reset) ∧ (s.comp .b).state = .unloading ∧
        (s.comp .b).stateSince + 10 ≤ s.partTime ∧ s.psc.power ≠ .windingDown) ∧
      (startingA.psc.power ≠ .parked ∧ startingA.psc.power ≠ .windingDown ∧ loadLawful startingA ∧
        (startingA.ssu.get (.coil .a)).sampledAt ≠ some startingA.partTime ∧
        (startingA.ssu.get (.pressureHigh .a)).sampledAt ≠ some startingA.partTime ∧
        compCounted (startingA.comp .a).state = true ∧
        3 ≤ (((CompRec.atReset.tripLog ++ [3000, 4000]).filter (fun x => decide (6599 < x + 3600))) ++ [6599]).length) := by
  have h : loadLawful startingA := by
    refine loadLawful_of_still _ rfl ?_ ?_ (by decide +kernel) <;> intro z <;> cases z <;> rfl
  exact ⟨⟨by decide, by decide, by decide, h⟩, by decide, ⟨_, rfl, by decide⟩, by decide, by decide, h, by decide⟩

/-- Both compressors Running since 0 at part time `n`, with 8,400 W and eight tokens of capacity for `wanted` tokens. -/
def bothRunning (n : Nat) (wanted : Nat) : State :=
  let s := atTime n (allowed 8400 (withComp .a .running (withComp .b .running State.reset)))
  (s.setCs { s.cs with wantedTotal := wanted, surplus := some 0, idle := some 0 }).setCa { s.ca with coolCap := 8 }

theorem witness_bothRunning_lawful : loadLawful (bothRunning 300 4) ∧ loadLawful (bothRunning 180 0) := by
  constructor <;> refine loadLawful_of_still _ rfl ?_ ?_ (by decide +kernel) <;> intro z <;> cases z <;> rfl

/-- Surplus and idle stretches at the ends of their lengths, with the stop made and with it waiting. -/
theorem witness_StagingCheckActs_stops :
    (∃ s, s = bothRunning 300 4 ∧ s.cs.checkedAt ≠ some s.partTime ∧ s.psc.power ≠ .windingDown ∧
        (s.comp .a).chargeStart = none ∧ (s.comp .b).chargeStart = none ∧ s.cs.wantedTotal + 4 ≤ s.ca.coolCap ∧
        s.cs.surplus = some 0 ∧ 0 + 300 ≤ s.partTime ∧ (s.comp .b).state = .running ∧ (s.comp .b).enable = true ∧
        (s.comp .b).onSince = some 0 ∧ 0 + 180 ≤ s.partTime) ∧
      (∃ s, s = (bothRunning 300 4).setComp .b { (bothRunning 300 4).comp .b with onSince := some 121 } ∧
        s.partTime < 121 + 180 ∧ (s.comp .b).onSince = some 121 ∧ (s.comp .a).state = .running) ∧
      (∃ s, s = bothRunning 180 0 ∧ s.cs.wantedTotal = 0 ∧ s.cs.idle = some 0 ∧ 0 + 120 ≤ s.partTime ∧
        (s.comp .a).state = .running ∧ (s.comp .a).onSince = some 0 ∧ 0 + 180 ≤ s.partTime) ∧
      (bothRunning 179 0).partTime < 0 + 180 ∧ (bothRunning 299 4).partTime < 0 + 300 :=
  ⟨⟨_, rfl, by decide +kernel⟩, ⟨_, rfl, by decide +kernel⟩, ⟨_, rfl, by decide +kernel⟩, by decide, by decide⟩

theorem witness_StagingCheckActs :
    (∃ s, s = State.reset.setCs { State.reset.cs with checkedAt := some 0 } ∧ s.cs.checkedAt = some s.partTime) ∧
      (∃ s, s = withChannel (.pressureHigh .a) 199 (atTime 600 (withComp .a .tripped State.reset)) ∧
        s.cs.checkedAt ≠ some s.partTime ∧ s.psc.power ≠ .windingDown ∧ (s.comp .a).state = .tripped ∧
        (s.comp .a).stateSince + 600 ≤ s.partTime ∧ valueUsed (s.ssu.pressureHigh.get .a) = some 199) ∧
      (∃ s, s = atTime 180 (State.reset.setComp .a
          { CompRec.atReset with state := .running, onSince := some 0, enable := false }) ∧
        (s.comp .a).onSince = some 0 ∧ (s.comp .a).state = .running ∧ (s.comp .a).enable = false ∧
        (s.comp .a).chargeStart = none ∧ 0 + 180 ≤ s.partTime) ∧
      ∃ s, s = atTime 30 (State.reset.setComp .a { CompRec.atReset with state := .running, chargeStart := some 0 }) ∧
        (s.comp .a).chargeStart = some 0 ∧ (s.comp .a).state = .running ∧ 0 + 30 ≤ s.partTime :=
  ⟨⟨_, rfl, by decide⟩, ⟨_, rfl, by decide⟩, ⟨_, rfl, by decide⟩, ⟨_, rfl, by decide⟩⟩

/-- A part in Layover at 300 s with both pressures of A known and a shortage of 10 s. -/
def shortOfCooling (n : Nat) : State :=
  let s := atTime 300 (allowed n (withChannel (.pressureLow .a) 20 (withChannel (.pressureHigh .a) 100 State.reset)))
  s.setCs { s.cs with wantedTotal := 1, excess := some 290 }

/-- Nothing to stop, trip or leave Tripped, and A startable: admitted at 4,200 W, refused at 4,150 W, and not due a second earlier. -/
theorem witness_StagingCheckStarts :
    ∃ s, s = shortOfCooling 4200 ∧ s.cs.checkedAt ≠ some s.partTime ∧ inUse s.psc.power = true ∧ settled s = true ∧
      s.ca.coolCap < s.cs.wantedTotal ∧ (s.comp .a).state = .off ∧ (s.comp .b).state = .off ∧
      s.cs.excess.getD s.partTime + 10 ≤ s.partTime ∧ firstFailing s .a = none ∧
      committedLoad s + 4200 ≤ allowanceInForce s.la ∧
      allowanceInForce (shortOfCooling 4150).la < committedLoad (shortOfCooling 4150) + 4200 :=
  ⟨_, rfl, by decide +kernel⟩

/-- R100: B, with A disabled; B beside a running A after 60 s and not after 59 s; at once, and at 4.9 °C outdoors, with SCc short; and a
full start log, which opens a limit episode. -/
theorem test_staging_starts_b :
    ∃ base : State, base = withChannel (.pressureLow .b) 20 (withChannel (.pressureHigh .b) 100 (shortOfCooling 8400)) ∧
      (∃ t, exec .stagingCheck (base.setComp .a { base.comp .a with enable := false }) = .next t ∧
        (t.comp .a).reason = some .enable ∧ (t.comp .b).state = .starting) ∧
      (∃ f : Nat → State, f = (fun x => (base.setComp .a { base.comp .a with state := .running, onSince := some 0 }).setCs
          { (base.setComp .a { base.comp .a with state := .running, onSince := some 0 }).cs with excess := some x }) ∧
        (∃ t, exec .stagingCheck (f 240) = .next t ∧ (t.comp .a).reason = some .state ∧ (t.comp .b).state = .starting) ∧
        ∃ t, exec .stagingCheck (f 241) = .next t ∧ (t.comp .b).state = .off) ∧
      (∃ s t, s = withChannel .outdoor 49 (base.setCs { base.cs with excess := none, sccShort := true }) ∧
        exec .stagingCheck s = .next t ∧ (t.comp .a).state = .starting) ∧
      ∃ t, exec .stagingCheck (base.setComp .a { base.comp .a with startLog := [1, 2, 3, 4, 5, 6] }) = .next t ∧
        (t.comp .a).reason = some .startLog ∧ (t.comp .a).episodeOpen = true ∧ hasFlag t.hlu.latched .startLimit = true :=
  ⟨_, rfl, ⟨_, rfl, by decide +kernel⟩, ⟨_, rfl, ⟨_, rfl, by decide +kernel⟩, ⟨_, rfl, by decide +kernel⟩⟩,
    ⟨_, _, rfl, rfl, by decide +kernel⟩, ⟨_, rfl, by decide +kernel⟩⟩

/-! ## Witnesses: heating plant -/

/-- Heat wanted in Layover, with an allowance and the pump on or off. -/
def wantsHeat (pump : Bool) (n : Nat) : State :=
  let s := allowed n (withChannel .coolant 699 State.reset)
  s.setHs { s.hs with wantedTotal := 1, pump := pump }

theorem witness_HeatingCheckActs :
    (∃ s, s = State.reset.setHs { State.reset.hs with checkedAt := some 0 } ∧ s.hs.checkedAt = some s.partTime) ∧
      (∃ s, s = wantsHeat false 180 ∧ loadLawful s ∧ s.hs.checkedAt ≠ some s.partTime ∧ s.psc.power ≠ .windingDown ∧
        inUse s.psc.power = true ∧ s.hs.pump = false ∧ 0 < s.hs.wantedTotal ∧ onStack s.la .pump = false ∧
        committedLoad s + 180 ≤ allowanceInForce s.la ∧ allowanceInForce (wantsHeat false 150).la < 0 + 180) ∧
      (∃ s, s = wantsHeat true 320 ∧ valueUsed s.ssu.coolant = some 699 ∧ loadLawful s ∧ s.hs.heater = .off ∧
        0 < s.hs.wantedTotal ∧ s.hs.pump = true ∧ s.hs.permit = true ∧ onStack s.la .heater = false ∧ s.psc.power = .layover ∧
        committedLoad s + 140 ≤ allowanceInForce s.la) ∧
      (∃ s, s = atTime 300 (State.reset.setHs { (withHeater .burning 1 State.reset).hs with idleStretch := some 0 }) ∧
        s.hs.idleStretch = some 0 ∧ s.hs.wantedTotal = 0 ∧ 0 + 300 ≤ s.partTime ∧ runRequest s.hs = true) ∧
      ∃ s, s = atTime 120 (State.reset.setHs { State.reset.hs with pump := true, idleStretch := some 0 }) ∧
        s.hs.idleStretch = some 0 ∧ s.hs.pump = true ∧ 0 + 120 ≤ s.partTime ∧ heaterCounted s.hs.heater = false := by
  refine ⟨⟨_, rfl, by decide⟩, ⟨_, rfl, loadLawful_of_still _ rfl ?_ ?_ (by decide +kernel), by decide +kernel⟩,
    ⟨_, rfl, by decide, loadLawful_of_still _ rfl ?_ ?_ (by decide +kernel), by decide +kernel⟩, ⟨_, rfl, by decide⟩,
    ⟨_, rfl, by decide⟩⟩ <;> intro z <;> cases z <;> rfl

/-- A purging heater, its latched start clear, where the start condition of R118 holds or where heat is not wanted. -/
def purging (wanted : Nat) : State :=
  (wantsHeat true 320).setHs
    { (wantsHeat true 320).hs with heater := .afterRun, cause := some .stop, latched := false, wantedTotal := wanted }

/-- A check sets the latched start in a purge where the start condition holds (R121), and leaves it where it does not. -/
theorem witness_HeatingCheckActs_latch :
    (∃ s t, s = purging 1 ∧ loadLawful s ∧ s.hs.checkedAt ≠ some s.partTime ∧ exec .heatingCheck s = .next t ∧ t.hs.latched = true) ∧
      ∃ s t, s = purging 0 ∧ loadLawful s ∧ s.hs.checkedAt ≠ some s.partTime ∧ exec .heatingCheck s = .next t ∧ t.hs.latched = false := by
  refine ⟨⟨_, _, rfl, loadLawful_of_still _ rfl ?_ ?_ (by decide +kernel), by decide, rfl, by decide +kernel⟩,
    ⟨_, _, rfl, loadLawful_of_still _ rfl ?_ ?_ (by decide +kernel), by decide, rfl, by decide +kernel⟩⟩ <;>
    intro z <;> cases z <;> rfl

def flameOn (s : State) : State := s.setPins { s.pins with flame := true }

theorem witness_HeaterEventsAct :
    (flameOn State.reset).pins.flame = true ∧ State.reset.pins.flame = false ∧
      (∃ s, s = flameOn (withHeater .burning 1 State.reset) ∧ s.pins.flame = true ∧ settled s = true ∧
        s.psc.power ≠ .windingDown ∧ s.hs.heater = .burning ∧ s.hs.relight = 0) ∧
      (∃ s, s = atTime 90 (withHeater .ignition 2 State.reset) ∧ settled s = true ∧ s.hs.heater = .ignition ∧
        s.hs.heaterSince + 90 ≤ s.partTime ∧ s.hs.attempt ≠ 1) ∧
      (∃ s, s = atTime 120 ((wantsHeat true 320).setHs { (wantsHeat true 320).hs with heater := .afterRun, latched := true }) ∧
        settled s = true ∧ s.hs.heaterSince + 120 ≤ s.partTime ∧ s.hs.latched = true ∧ startCondition s = true) ∧
      ∃ s, s = atTime 60 (withHeater .retryPurge 1 (inPower .windingDown)) ∧ settled s = true ∧
        s.hs.heaterSince + 60 ≤ s.partTime ∧ s.hs.latched = false ∧ s.psc.power = .windingDown ∧
        (flameOn unloadingB).pins.flame = true ∧ (flameOn unloadingB).hs.heater ≠ .burning ∧ windDownAtRest (flameOn unloadingB) = true :=
  ⟨by decide, by decide, ⟨_, rfl, by decide +kernel⟩, ⟨_, rfl, by decide +kernel⟩, ⟨_, rfl, by decide +kernel⟩,
    ⟨_, rfl, by decide +kernel⟩⟩

/-! ## Witnesses: dampers, screen checks, serving and granting -/

theorem witness_DamperSteps :
    inUse (atTime 10 State.reset).psc.power = true ∧ (atTime 10 State.reset).partTime % 10 = 0 ∧
      (atTime 10 State.reset).apc.damperAt ≠ (atTime 10 State.reset).partTime ∧ (atTime 11 State.reset).partTime % 10 ≠ 0 ∧
      inUse (inPower .parked).psc.power = false := by decide

theorem witness_ScreenCheckActs :
    inUse State.reset.psc.power = true ∧ State.reset.scm.checkedAt ≠ some State.reset.partTime ∧ State.reset.scm.active = false ∧
      State.reset.scm.hostRequest = false ∧ settled State.reset = true ∧
      (∃ s, s = atTime 120 (screenOn 0 State.reset) ∧ s.scm.activeSince = some 0 ∧ s.scm.active = true ∧
        0 + 120 ≤ s.partTime ∧ s.scm.hostRequest = false) ∧
      (atTime 119 (screenOn 0 State.reset)).partTime < 0 + 120 :=
  ⟨by decide, by decide, by decide, by decide, by decide +kernel, ⟨_, rfl, by decide⟩, by decide⟩

/-- With lawful orders and table: a preemption by SCc from U1, the lowest-ranked holder, none by a zone, and a reclaim from U1. -/
theorem witness_FreeTokensServed :
    (ordersLawful sharing.ca.orders ∧ tableLawful sharing.ca ∧ poolsLawful sharing.ca ∧ queueLawful sharing.ca) ∧
      victimOf 0 .cool sharing.ca .scc = some (.zone .u1) ∧ victimOf 30 .cool sharing.ca (.zone .u1) = none ∧
      reclaimVictim .cool sharing.ca = .zone .u1 ∧ reclaimVictim .heat sharing.ca = .sch ∧
      requesterOf 30 .cool sharing.ca = none :=
  ⟨⟨by unfold ordersLawful; decide, witness_sharing_lawful⟩, by decide +kernel, by decide +kernel, by decide +kernel,
    by decide +kernel, by decide +kernel⟩

/-- Who takes the next free token: U1, the highest-ranked servable entry, once it is no longer masked; under Open SCc if short, and
otherwise the oldest of the queue, U2 before the higher-ranked U1. -/
theorem test_next_served :
    ∃ a, a = { (sharing.ca.setEntry (.zone .u1) ⟨.cool, 2, 1, some 0, false, true⟩).setEntry (.zone .u2)
        ⟨.cool, 1, 0, none, false, false⟩ with queue := [.zone .u2, .zone .u1] } ∧
      nextServed .cool a = some (.zone .u1) ∧ nextServed .heat a = none ∧
      nextServed .cool { a with modes := { a.modes with nesting := .openNest } } = some (.zone .u2) ∧
      nextServed .cool { a.setEntry .scc ⟨.cool, 2, 0, none, false, false⟩ with
          modes := { a.modes with nesting := .openNest }, queue := [.zone .u2, .zone .u1, .scc] } = some .scc :=
  ⟨_, rfl, by decide +kernel⟩

/-- A gain that fills U1 turns the Rotating upper order, and one that leaves it short does not. -/
theorem test_rotation :
    (gainToken 0 (.zone .u1) { sharing.ca with modes := ⟨.fixed, .fixed, .rotating, .strict, 30⟩ }).orders.upper =
        [.u2, .u3, .u1] ∧
      (gainToken 0 (.zone .u1) { (sharing.ca.setEntry (.zone .u1) ⟨.cool, 3, 1, some 0, true, true⟩) with
          modes := ⟨.fixed, .fixed, .rotating, .strict, 30⟩ }).orders.upper = [.u1, .u2, .u3] := by decide +kernel

/-- R31: a trim nudged in Standby stands when ZONE SET Auto takes the zone out of Standby. -/
theorem test_trim_nudged_in_standby_stands :
    ∃ s t, s = State.reset.setZone .e { ZoneRec.atReset false with opMode := .standby, trim := 5 } ∧
      exec (.zoneSet 0 1 220) s = .next t ∧ (t.zone .e).opMode = .auto ∧ (t.zone .e).trim = 5 :=
  ⟨_, _, rfl, rfl, by decide +kernel⟩

/-- R94: a Running compressor's fan set on its half output, and on both while throttled; an Off one on neither. -/
theorem test_fan_outputs :
    ∃ o, o = outputsOf (State.reset.setComp .a { CompRec.atReset with state := .running, throttle := true }) ∧
      (o.fanHalf.get .a = true ∧ o.fanFull.get .a = true) ∧ (o.fanHalf.get .b = false ∧ o.fanFull.get .b = false) ∧
      (outputsOf (withComp .a .running State.reset)).fanFull.get .a = false := ⟨_, rfl, by decide⟩

/-- After section 4.9 at 2050: with 7,000 W and nothing running, every entry of the stack pops against the same headroom; at 4,199 W the
compressor on top and all below it stay. -/
theorem test_restore_climb :
    (restoreAttempt ((allowed 7000 State.reset).setLa
        { (allowed 7000 State.reset).la with stack := [⟨.comp .a, 2039⟩, ⟨.blower .e, 2039⟩, ⟨.comp .b, 2000⟩] })).la.stack = [] ∧
      (restoreAttempt ((allowed 4199 State.reset).setLa
        { (allowed 4199 State.reset).la with stack := [⟨.comp .a, 2039⟩, ⟨.blower .e, 2039⟩] })).la.stack =
        [⟨.comp .a, 2039⟩, ⟨.blower .e, 2039⟩] := by decide +kernel

theorem witness_BlowerGrant :
    ordersLawful State.reset.ca.orders ∧ (shedLoop 10 (allowed 4200 (bothRunning 0 0))).1.la.stack = [⟨.comp .b, 0⟩] ∧
    (0 : Nat) = (State.reset.blower .e).speed ∧ 0 < 100 ∧ onStack State.reset.la (.blower .e) = false ∧
      (100 : Int) ≤ ((allowanceInForce State.reset.la : Int) - ((committedLoad State.reset : Int) - 5 * 0)).tdiv 5 ∧
      onStack (State.reset.setLa { State.reset.la with stack := [⟨.blower .e, 0⟩] }).la (.blower .e) = true ∧
      ((allowanceInForce (allowed 495 State.reset).la : Int) - ((committedLoad State.reset : Int) - 5 * 0)).tdiv 5 < 100 :=
  ⟨by unfold ordersLawful; decide, by decide +kernel⟩

/-! ## Witnesses: laws that every step keeps -/

theorem witness_ArbiterLawsKept :
    ∃ s t, s = (atTime 30 sharing).setPending [.holdEnd (.zone .e)] ∧ arbiterLawful s ∧ step s = .next t :=
  ⟨_, _, rfl,
    ⟨by unfold ordersLawful; decide, witness_sharing_lawful.1, witness_sharing_lawful.2.1, witness_sharing_lawful.2.2, by decide,
      by decide⟩,
    rfl⟩

theorem witness_ArbiterLawsKept_handoffs :
    ∃ s t, s = State.reset.setPending [.screen 1] ∧ arbiterLawful s ∧ handoffsLawful s ∧ step s = .next t := by
  refine ⟨_, _, rfl, ⟨by unfold ordersLawful; decide, ⟨fun i => ?_, by decide, by decide⟩, fun k => ?_, ⟨by decide, fun i => ?_⟩,
    by decide, by decide⟩, ⟨fun z => ?_, by decide, by decide⟩, rfl⟩
  · unfold entryLawful
    cases i with
    | scc => decide
    | sch => decide
    | zone z => cases z <;> decide
  · cases k <;> decide
  · cases i with
    | scc => decide
    | sch => decide
    | zone z => cases z <;> decide
  · cases z <;> decide

theorem witness_BlockLawsKept :
    ∃ s t, s = (withHeater .burning 1 (inPower .parked)).setPending [.partTimeTick] ∧ step s = .next t ∧ flagsLawful s.hlu ∧
      storeLawful s.ps ∧ airLawful s.apc ∧ heaterLawful s.hs :=
  ⟨_, _, rfl, rfl, by unfold flagsLawful; decide, ⟨by decide, trivial⟩, by unfold airLawful; decide +kernel, fun _ => rfl⟩

/-- The last compressor's stop in a wind-down in which the other two blocks have reported, which takes the part to Parked. -/
theorem witness_BlockLawsKept_rest :
    ∃ s t, s = (atTime 10 unloadingB).setPending [.unloadingExpiry .b] ∧ (∀ z, blowerLawful s z) ∧ restLawful s ∧ step s = .next t ∧
      s.psc.stopped = ⟨false, true, true⟩ ∧ t.psc.power = .parked := by
  refine ⟨_, _, rfl, fun z => ?_, ⟨fun _ => ⟨by decide, fun z => ?_, fun c => ?_, by decide, by decide, by decide⟩, fun _ => by decide,
    fun h => ?_⟩, rfl, by decide, by decide +kernel⟩
  · cases z <;> exact ⟨by decide, by decide, by decide, by decide⟩
  · cases z <;> decide
  · cases c <;> decide
  · exact absurd h (by decide)

theorem witness_LoadBoundKept :
    ∃ s t, s = startingA.setPending [.startingExpiry .a] ∧ ordersLawful s.ca.orders ∧ loadLawful s ∧ step s = .next t := by
  refine ⟨_, _, rfl, by unfold ordersLawful; decide, loadLawful_of_still _ rfl ?_ ?_ (by decide +kernel), rfl⟩ <;>
    intro z <;> cases z <;> rfl

theorem witness_PurgeRunsFully :
    ∃ s t, s = atTime 120 ((wantsHeat true 320).setHs { (wantsHeat true 320).hs with heater := .afterRun, latched := true }) ∧
      exec .purgeExpiry s = .next t ∧ runRequest t.hs = true ∧ s.hs.heater = .afterRun :=
  ⟨_, _, rfl, rfl, by decide +kernel, rfl⟩

theorem witness_CompressorStartsLawfully :
    ∃ s t, s = shortOfCooling 4200 ∧ exec .stagingCheck s = .next t ∧ (s.comp .a).state ≠ .starting ∧
      (t.comp .a).state = .starting :=
  ⟨_, _, rfl, rfl, by decide, by decide +kernel⟩

theorem witness_MaskedZonesNeverGain :
    ∃ s t, s = atTime 30 sharing ∧ exec (.holdEnd (.zone .e)) s = .next t ∧ (s.ca.entry (.zone .u1)).masked = true ∧
      (t.ca.entry (.zone .u1)).masked = true :=
  ⟨_, _, rfl, rfl, by decide, by decide +kernel⟩

theorem witness_FlagsComeFromTheirEvents :
    ∃ t, exec (.eventClear 0x1000) State.reset = .next t ∧ isReset (.eventClear 0x1000) = false ∧
      hasFlag State.reset.hlu.latched .power = true ∧ hasFlag t.hlu.latched .power = false ∧
      ∃ u, exec (.screen 1) State.reset = .next u ∧ hasFlag State.reset.hlu.latched .screen = false ∧
        hasFlag u.hlu.latched .screen = true :=
  ⟨_, rfl, by decide +kernel, by decide, by decide +kernel, _, rfl, by decide, by decide +kernel⟩

theorem witness_ScreenClearRunsItsMinimum :
    ∃ s t, s = atTime 119 (screenOn 0 State.reset) ∧ exec .park s = .next t ∧ s.scm.active = true ∧
      s.scm.activeSince = some 0 ∧ s.partTime < 0 + 120 ∧ t.scm.active = false :=
  ⟨_, _, rfl, rfl, by decide, by decide, by decide, by decide +kernel⟩

theorem witness_OnlyWakeSourcesWake :
    ∃ t, exec .partTimeTick (inPower .parked) = .next t ∧ (inPower .parked).psc.power = .parked := ⟨_, rfl, rfl⟩

end Sys2Proof.Tests
end

namespace Sys2Proof.Machine

/-! ## Entries of the grant table -/

@[simp] theorem Arbiter.entry_setEntry_self (a : Arbiter) (i : EntryId) (e : GrantEntry) : (a.setEntry i e).entry i = e :=
  GrantTable.get_set_self a.table i e

theorem Arbiter.entry_setEntry_of_ne (a : Arbiter) {i j : EntryId} (e : GrantEntry) (h : j ≠ i) :
    (a.setEntry i e).entry j = a.entry j :=
  GrantTable.get_set_of_ne a.table e h

theorem Arbiter.entry_setEntry (a : Arbiter) (i j : EntryId) (e : GrantEntry) :
    (a.setEntry i e).entry j = if j = i then e else a.entry j := by
  split
  next h => rw [h, entry_setEntry_self]
  next h => exact a.entry_setEntry_of_ne e h

theorem Arbiter.heldTotal_eq (a : Arbiter) (k : TokenKind) :
    a.heldTotal k = heldOfKind k (a.entry .scc) + heldOfKind k (a.entry .sch) + heldOfKind k (a.entry (.zone .e))
      + heldOfKind k (a.entry (.zone .l1)) + heldOfKind k (a.entry (.zone .l2)) + heldOfKind k (a.entry (.zone .u1))
      + heldOfKind k (a.entry (.zone .u2)) + heldOfKind k (a.entry (.zone .u3)) := by
  simp [heldTotal, allEntries]
  omega

/-- A rewritten entry moves the total of its kind by its own share. -/
theorem Arbiter.heldTotal_setEntry (a : Arbiter) (i : EntryId) (e : GrantEntry) (k : TokenKind) :
    (a.setEntry i e).heldTotal k + heldOfKind k (a.entry i) = a.heldTotal k + heldOfKind k e := by
  simp only [heldTotal_eq, entry_setEntry]
  cases i with
  | scc => simp; omega
  | sch => simp; omega
  | zone z => cases z <;> simp <;> omega

/-- A total depends on the table alone. -/
theorem Arbiter.heldTotal_congr {a b : Arbiter} (h : b.table = a.table) (k : TokenKind) : b.heldTotal k = a.heldTotal k := by
  simp [heldTotal, entry, h]

/-! ## The wait queue (R43) -/

/-- The queue once an entry has been rewritten: a short entry is in it, any other is not. -/
def requeue (i : EntryId) (e : GrantEntry) (q : List EntryId) : List EntryId :=
  if isShort e then joinQueue i q else leaveQueue i q

/-- An entry rewritten and the queue brought up to it: the shape of all the arbiter's moves of tokens and requests. -/
def Arbiter.rewrite (a : Arbiter) (i : EntryId) (e : GrantEntry) : Arbiter :=
  { a.setEntry i e with queue := requeue i e a.queue }

@[simp] theorem Arbiter.rewrite_orders (a : Arbiter) (i : EntryId) (e : GrantEntry) : (a.rewrite i e).orders = a.orders := rfl
@[simp] theorem Arbiter.rewrite_modes (a : Arbiter) (i : EntryId) (e : GrantEntry) : (a.rewrite i e).modes = a.modes := rfl
@[simp] theorem Arbiter.rewrite_queue (a : Arbiter) (i : EntryId) (e : GrantEntry) :
    (a.rewrite i e).queue = requeue i e a.queue := rfl
theorem Arbiter.rewrite_entry (a : Arbiter) (i j : EntryId) (e : GrantEntry) :
    (a.rewrite i e).entry j = if j = i then e else a.entry j := a.entry_setEntry i j e
@[simp] theorem Arbiter.rewrite_capacity (a : Arbiter) (i : EntryId) (e : GrantEntry) (k : TokenKind) :
    (a.rewrite i e).capacity k = a.capacity k := by cases k <;> rfl
theorem Arbiter.heldTotal_rewrite (a : Arbiter) (i : EntryId) (e : GrantEntry) (k : TokenKind) :
    (a.rewrite i e).heldTotal k + heldOfKind k (a.entry i) = a.heldTotal k + heldOfKind k e := a.heldTotal_setEntry i e k

theorem mem_joinQueue (i j : EntryId) (q : List EntryId) : j ∈ joinQueue i q ↔ j = i ∨ j ∈ q := by
  unfold joinQueue
  split
  next h => exact ⟨.inr, fun h' => h'.elim (fun e => e ▸ (List.contains_iff_mem.1 h)) id⟩
  next => simp [or_comm]

theorem mem_leaveQueue (i j : EntryId) (q : List EntryId) : j ∈ leaveQueue i q ↔ j ≠ i ∧ j ∈ q := by
  simp [leaveQueue, and_comm]

theorem nodup_joinQueue {q : List EntryId} (i : EntryId) (h : q.Nodup) : (joinQueue i q).Nodup := by
  unfold joinQueue
  split
  next => exact h
  next hi =>
    have hni : i ∉ q := fun hm => hi (List.contains_iff_mem.2 hm)
    exact List.nodup_append.2 ⟨h, List.nodup_singleton i, fun a ha b hb e => hni (by simp_all)⟩

theorem nodup_leaveQueue {q : List EntryId} (i : EntryId) (h : q.Nodup) : (leaveQueue i q).Nodup := h.filter _

theorem joinQueue_of_mem {i : EntryId} {q : List EntryId} (h : i ∈ q) : joinQueue i q = q :=
  if_pos (List.contains_iff_mem.2 h)

theorem leaveQueue_of_not_mem {i : EntryId} {q : List EntryId} (h : i ∉ q) : leaveQueue i q = q :=
  List.filter_eq_self.2 fun j hj => by simpa using fun e : j = i => h (e ▸ hj)

/-- Rewriting an entry keeps the law of the queue (R43). -/
theorem queueLawful_rewrite {a : Arbiter} (h : queueLawful a) (i : EntryId) (e : GrantEntry) : queueLawful (a.rewrite i e) := by
  obtain ⟨hn, hm⟩ := h
  refine ⟨?_, fun j => ?_⟩
  · rw [Arbiter.rewrite_queue, requeue]
    split
    · exact nodup_joinQueue i hn
    · exact nodup_leaveQueue i hn
  · rw [Arbiter.rewrite_queue, Arbiter.rewrite_entry, requeue]
    by_cases hj : j = i
    · cases hs : isShort e <;> simp [hj, hs, mem_joinQueue, mem_leaveQueue]
    · cases hs : isShort e <;> simp [hj, mem_joinQueue, mem_leaveQueue, hm j]

/-! ## Orders, table and queue together (R40, R43, R44) -/

/-- The laws of the arbiter's own books: orders, table and queue. The pools stand apart, since a reclaim passes through overdrawn ones. -/
structure BooksLawful (a : Arbiter) : Prop where
  orders : ordersLawful a.orders
  table : tableLawful a
  queue : queueLawful a

theorem BooksLawful.entry {a : Arbiter} (h : BooksLawful a) (i : EntryId) : entryLawful (a.entry i) := h.table.1 i

/-- An entry whose kind may stand at its place: the screen-clear entries have theirs fixed (R40). -/
def kindAllowed (i : EntryId) (k : ReqKind) : Prop := (i = .scc → k = .cool) ∧ (i = .sch → k = .heat)

theorem BooksLawful.kind_allowed {a : Arbiter} (h : BooksLawful a) (i : EntryId) : kindAllowed i (a.entry i).kind :=
  ⟨fun e => e ▸ h.table.2.1, fun e => e ▸ h.table.2.2⟩

theorem kindAllowed_zone (z : Zone) (k : ReqKind) : kindAllowed (.zone z) k := ⟨nofun, nofun⟩

theorem BooksLawful.rewrite {a : Arbiter} (h : BooksLawful a) {i : EntryId} {e : GrantEntry} (he : entryLawful e)
    (hk : kindAllowed i e.kind) : BooksLawful (a.rewrite i e) := by
  refine ⟨h.orders, ⟨fun j => ?_, ?_, ?_⟩, queueLawful_rewrite h.queue i e⟩
  · rw [Arbiter.rewrite_entry]
    split
    · exact he
    · exact h.entry j
  · rw [Arbiter.rewrite_entry]
    split
    next hi => exact hk.1 hi.symm
    next => exact h.table.2.1
  · rw [Arbiter.rewrite_entry]
    split
    next hi => exact hk.2 hi.symm
    next => exact h.table.2.2

/-- Books with other orders: the laws of table and queue do not read them. -/
theorem BooksLawful.withOrders {a : Arbiter} (h : BooksLawful a) {o : Orders} (ho : ordersLawful o) :
    BooksLawful { a with orders := o } := ⟨ho, h.table, h.queue⟩

/-! ## Orders (R44, R45, R54) -/

theorem moveToBottom_perm {l : Line} {order : List Line} (hn : order.Nodup) (h : l ∈ order) : (moveToBottom l order).Perm order := by
  have he : order.filter (· != l) = order.erase l := (hn.erase_eq_filter l).symm
  rw [moveToBottom, he]
  exact (List.perm_append_singleton l _).trans (List.perm_cons_erase h).symm

theorem moveToBottom_perm_of {l : Line} {order lines : List Line} (h : order.Perm lines) (hn : lines.Nodup) (hl : l ∈ lines) :
    (moveToBottom l order).Perm lines :=
  (moveToBottom_perm (h.nodup_iff.2 hn) (h.mem_iff.2 hl)).trans h

theorem rotateServed_lawful {o : Orders} (m : ArbModes) (z : Zone) (h : ordersLawful o) : ordersLawful (rotateServed m z o) := by
  have saloon : ∀ o1, ordersLawful o1 →
      ordersLawful (if m.saloon = .rotating then { o1 with saloon := moveToBottom (saloonLineOf z) o1.saloon } else o1) := by
    intro o1 h1
    split
    · exact ⟨moveToBottom_perm_of h1.1 (by decide) (by cases z <;> decide), h1.2⟩
    · exact h1
  obtain ⟨hs, hl, hu⟩ := h
  refine saloon _ ?_
  cases z with
  | e => exact ⟨hs, hl, hu⟩
  | l1 | l2 =>
    dsimp only
    split
    · exact ⟨hs, moveToBottom_perm_of hl (by decide) (by decide), hu⟩
    · exact ⟨hs, hl, hu⟩
  | u1 | u2 | u3 =>
    dsimp only
    split
    · exact ⟨hs, hl, moveToBottom_perm_of hu (by decide) (by decide)⟩
    · exact ⟨hs, hl, hu⟩

theorem rotateOrder_perm (l : Line) (order : List Line) : (rotateOrder l order).Perm order := by
  simpa [rotateOrder] using
    (List.perm_append_comm (l₁ := order.drop (order.idxOf l + 1)) (l₂ := order.take (order.idxOf l + 1)))

/-- Every entry stands in the ranking of lawful orders. -/
theorem mem_ranking {o : Orders} (h : ordersLawful o) (i : EntryId) : i ∈ ranking o := by
  obtain ⟨hs, hl, hu⟩ := h
  cases i with
  | scc => simp [ranking]
  | sch => simp [ranking]
  | zone z =>
    have hz : z ∈ zoneRanking o := by
      have hline : saloonLineOf z ∈ o.saloon := hs.mem_iff.2 (by cases z <;> decide)
      refine List.mem_flatMap.2 ⟨saloonLineOf z, hline, ?_⟩
      cases z with
      | e => simp [saloonLineOf, zonesOfLine]
      | l1 => exact List.mem_filterMap.2 ⟨.l1, hl.mem_iff.2 (by decide), rfl⟩
      | l2 => exact List.mem_filterMap.2 ⟨.l2, hl.mem_iff.2 (by decide), rfl⟩
      | u1 => exact List.mem_filterMap.2 ⟨.u1, hu.mem_iff.2 (by decide), rfl⟩
      | u2 => exact List.mem_filterMap.2 ⟨.u2, hu.mem_iff.2 (by decide), rfl⟩
      | u3 => exact List.mem_filterMap.2 ⟨.u3, hu.mem_iff.2 (by decide), rfl⟩
    simp [ranking, hz]

/-- A list that passes the check of R62 is a permutation of its arbiter's lines. -/
theorem perm_of_isOrderOf {id : ArbiterId} {ls : List Line} (h : isOrderOf id ls = true) : ls.Perm (arbiterLines id) := by
  simp only [isOrderOf, Bool.and_eq_true, beq_iff_eq, List.all_eq_true, List.contains_iff_mem] at h
  obtain ⟨hlen, hall⟩ := h
  have hn : (arbiterLines id).Nodup := by cases id <;> decide
  exact ((List.subperm_of_subset hn hall).perm_of_length_le hlen.le).symm

/-- An order that the arbiter's codes spell is a permutation of its lines (R62). -/
theorem orderOfCodes_perm {id : ArbiterId} {codes : List Nat} {ls : List Line} (h : orderOfCodes id codes = some ls) :
    ls.Perm (arbiterLines id) := by
  unfold orderOfCodes at h
  split at h
  · split at h
    next hc => cases h; exact perm_of_isOrderOf hc
    next => cases h
  · cases h

theorem ordersLawful_set {o : Orders} (h : ordersLawful o) {id : ArbiterId} {ls : List Line} (hls : ls.Perm (arbiterLines id)) :
    ordersLawful (o.set id ls) := by
  obtain ⟨hs, hl, hu⟩ := h
  cases id with
  | saloon => exact ⟨hls, hl, hu⟩
  | lower => exact ⟨hs, hls, hu⟩
  | upper => exact ⟨hs, hl, hls⟩

theorem Orders.get_perm {o : Orders} (h : ordersLawful o) (id : ArbiterId) : (o.get id).Perm (arbiterLines id) := by
  obtain ⟨hs, hl, hu⟩ := h
  cases id with
  | saloon => exact hs
  | lower => exact hl
  | upper => exact hu

end Sys2Proof.Machine

namespace Sys2Proof.Machine

/-! ## What the arbiter's moves leave standing -/

/-- Requests and pool capacities stand: only tokens, hold times, queue, masks and settings may move. -/
structure RequestsStand (a b : Arbiter) : Prop where
  request : ∀ i, (b.entry i).kind = (a.entry i).kind ∧ (b.entry i).wanted = (a.entry i).wanted
  capacity : ∀ k, b.capacity k = a.capacity k

/-- Masks, modes, and the orders of every arbiter whose mode is Fixed stand. -/
structure ArbSettingsStand (a b : Arbiter) : Prop where
  masked : ∀ i, (b.entry i).masked = (a.entry i).masked
  modes : b.modes = a.modes
  saloon : a.modes.saloon = .fixed → b.orders.saloon = a.orders.saloon
  lower : a.modes.lower = .fixed → b.orders.lower = a.orders.lower
  upper : a.modes.upper = .fixed → b.orders.upper = a.orders.upper

theorem RequestsStand.refl (a : Arbiter) : RequestsStand a a := ⟨fun _ => ⟨rfl, rfl⟩, fun _ => rfl⟩

theorem RequestsStand.trans {a b c : Arbiter} (h : RequestsStand a b) (k : RequestsStand b c) : RequestsStand a c :=
  ⟨fun i => ⟨(k.request i).1.trans (h.request i).1, (k.request i).2.trans (h.request i).2⟩,
    fun t => (k.capacity t).trans (h.capacity t)⟩

theorem ArbSettingsStand.refl (a : Arbiter) : ArbSettingsStand a a := ⟨fun _ => rfl, rfl, fun _ => rfl, fun _ => rfl, fun _ => rfl⟩

theorem ArbSettingsStand.trans {a b c : Arbiter} (h : ArbSettingsStand a b) (k : ArbSettingsStand b c) : ArbSettingsStand a c where
  masked i := (k.masked i).trans (h.masked i)
  modes := k.modes.trans h.modes
  saloon hf := (k.saloon (by rw [h.modes]; exact hf)).trans (h.saloon hf)
  lower hf := (k.lower (by rw [h.modes]; exact hf)).trans (h.lower hf)
  upper hf := (k.upper (by rw [h.modes]; exact hf)).trans (h.upper hf)

/-- An entry rewritten with the mask it had. -/
theorem arbSettingsStand_rewrite (a : Arbiter) {i : EntryId} {e : GrantEntry} (h : e.masked = (a.entry i).masked) :
    ArbSettingsStand a (a.rewrite i e) where
  masked j := by
    rw [Arbiter.rewrite_entry]
    split
    next hj => rw [h, hj]
    next => rfl
  modes := rfl
  saloon _ := rfl
  lower _ := rfl
  upper _ := rfl

/-- An entry rewritten with the kind and number wanted it had. -/
theorem requestsStand_rewrite (a : Arbiter) {i : EntryId} {e : GrantEntry} (hk : e.kind = (a.entry i).kind)
    (hw : e.wanted = (a.entry i).wanted) : RequestsStand a (a.rewrite i e) where
  request j := by
    rw [Arbiter.rewrite_entry]
    split
    next hj => rw [hk, hw, hj]; exact ⟨rfl, rfl⟩
    next => exact ⟨rfl, rfl⟩
  capacity k := a.rewrite_capacity i e k

theorem rotateServed_saloon {m : ArbModes} (h : m.saloon = .fixed) (z : Zone) (o : Orders) :
    (rotateServed m z o).saloon = o.saloon := by
  unfold rotateServed
  rw [if_neg (by rw [h]; decide)]
  cases z <;> dsimp only <;> split <;> rfl

theorem rotateServed_lower {m : ArbModes} (h : m.lower = .fixed) (z : Zone) (o : Orders) :
    (rotateServed m z o).lower = o.lower := by
  unfold rotateServed
  simp only [h, reduceCtorEq, if_false]
  split <;> cases z <;> dsimp only <;> split <;> rfl

theorem rotateServed_upper {m : ArbModes} (h : m.upper = .fixed) (z : Zone) (o : Orders) :
    (rotateServed m z o).upper = o.upper := by
  unfold rotateServed
  simp only [h, reduceCtorEq, if_false]
  split <;> cases z <;> dsimp only <;> split <;> rfl

/-! ## Gaining and losing a token (R42, R43) -/

theorem isShort_iff (e : GrantEntry) : isShort e = true ↔ e.held < e.wanted := decide_eq_true_iff

/-- The entry that `gainToken` leaves. -/
def gainedEntry (now : Nat) (e : GrantEntry) : GrantEntry := { e with held := e.held + 1, since := some now, holdPending := true }

/-- The entry that `loseToken` leaves. -/
def lostEntry (e : GrantEntry) : GrantEntry :=
  { e with
    held := e.held - 1
    since := if e.held - 1 = 0 then none else e.since
    holdPending := if e.held - 1 = 0 then false else e.holdPending }

/-- A gain changes table and capacities as a rewrite of the entry does, and the orders by the rotation of R54 at most. -/
theorem gainToken_cases (now : Nat) (i : EntryId) (a : Arbiter) :
    (gainToken now i a).table = (a.setEntry i (gainedEntry now (a.entry i))).table ∧ (gainToken now i a).modes = a.modes ∧
      (gainToken now i a).coolCap = a.coolCap ∧ (gainToken now i a).heatCap = a.heatCap ∧
      ((gainToken now i a).orders = a.orders ∨ ∃ z, (gainToken now i a).orders = rotateServed a.modes z a.orders) := by
  unfold gainToken
  dsimp only
  split
  · exact ⟨rfl, rfl, rfl, rfl, .inl rfl⟩
  · cases i with
    | scc => exact ⟨rfl, rfl, rfl, rfl, .inl rfl⟩
    | sch => exact ⟨rfl, rfl, rfl, rfl, .inl rfl⟩
    | zone z => exact ⟨rfl, rfl, rfl, rfl, .inr ⟨z, rfl⟩⟩

/-- A short entry that is in the queue gains as a rewrite of it, up to the orders. -/
theorem gainToken_queue {now : Nat} {i : EntryId} {a : Arbiter} (hq : queueLawful a) (hs : isShort (a.entry i) = true) :
    (gainToken now i a).queue = (a.rewrite i (gainedEntry now (a.entry i))).queue := by
  have hm : i ∈ a.queue := (hq.2 i).2 hs
  unfold gainToken
  rw [Arbiter.rewrite_queue, requeue]
  dsimp only
  split
  next h => rw [if_pos (by rw [isShort_iff]; exact h), joinQueue_of_mem hm]; rfl
  next h => rw [if_neg (by rw [isShort_iff]; exact h)]; cases i <;> rfl

theorem loseToken_eq_rewrite {i : EntryId} {a : Arbiter} (h : entryLawful (a.entry i)) (hp : 0 < (a.entry i).held) :
    loseToken i a = a.rewrite i (lostEntry (a.entry i)) := by
  have hs : isShort (lostEntry (a.entry i)) = true := by
    have hle := h.1
    rw [isShort_iff]
    change (a.entry i).held - 1 < (a.entry i).wanted
    omega
  simp only [Arbiter.rewrite, requeue, if_pos hs]
  rfl

theorem entryLawful_gained {now : Nat} {e : GrantEntry} (h : entryLawful e) (hs : isShort e = true) :
    entryLawful (gainedEntry now e) := by
  obtain ⟨-, h4, hn, -⟩ := h
  refine ⟨of_decide_eq_true hs, h4, hn, ?_⟩
  simp [gainedEntry]

theorem entryLawful_lost {e : GrantEntry} (h : entryLawful e) : entryLawful (lostEntry e) := by
  obtain ⟨hw, h4, hn, hs⟩ := h
  refine ⟨(Nat.sub_le _ _).trans hw, h4, hn, ?_⟩
  simp only [lostEntry]
  by_cases h0 : e.held - 1 = 0
  · simp [h0]
  · rw [if_neg h0, hs]
    exact ⟨fun h => by omega, fun h => absurd h h0⟩

theorem heldOfKind_of_ne {k : TokenKind} {e : GrantEntry} (h : e.kind ≠ kindOf k) : heldOfKind k e = 0 := if_neg h

theorem heldOfKind_of_eq {k : TokenKind} {e : GrantEntry} (h : e.kind = kindOf k) : heldOfKind k e = e.held := if_pos h

/-- A rewritten entry of the same kind moves the totals by the change of its tokens. -/
theorem heldOfKind_gained (k : TokenKind) (now : Nat) (e : GrantEntry) :
    heldOfKind k (gainedEntry now e) = heldOfKind k e + (if e.kind = kindOf k then 1 else 0) := by
  by_cases h : e.kind = kindOf k <;> simp [heldOfKind, gainedEntry, h]

theorem heldOfKind_lost (k : TokenKind) {e : GrantEntry} (hp : 0 < e.held) :
    heldOfKind k (lostEntry e) + (if e.kind = kindOf k then 1 else 0) = heldOfKind k e := by
  by_cases h : e.kind = kindOf k <;> simp [heldOfKind, lostEntry, h]
  omega

theorem heldTotal_gainToken (now : Nat) (i : EntryId) (a : Arbiter) (k : TokenKind) :
    (gainToken now i a).heldTotal k = a.heldTotal k + (if (a.entry i).kind = kindOf k then 1 else 0) := by
  have h := a.heldTotal_setEntry i (gainedEntry now (a.entry i)) k
  rw [heldOfKind_gained] at h
  rw [Arbiter.heldTotal_congr (gainToken_cases now i a).1]
  omega

theorem heldTotal_loseToken {i : EntryId} {a : Arbiter} (h : entryLawful (a.entry i)) (hp : 0 < (a.entry i).held) (k : TokenKind) :
    (loseToken i a).heldTotal k + (if (a.entry i).kind = kindOf k then 1 else 0) = a.heldTotal k := by
  have ht := a.heldTotal_rewrite i (lostEntry (a.entry i)) k
  have hl := heldOfKind_lost k hp
  rw [loseToken_eq_rewrite h hp]
  omega

theorem gainToken_entry (now : Nat) (i j : EntryId) (a : Arbiter) :
    (gainToken now i a).entry j = if j = i then gainedEntry now (a.entry i) else a.entry j := by
  rw [Arbiter.entry, (gainToken_cases now i a).1]
  exact a.entry_setEntry i j _

theorem loseToken_entry (i j : EntryId) (a : Arbiter) :
    (loseToken i a).entry j = if j = i then lostEntry (a.entry i) else a.entry j := a.entry_setEntry i j _

theorem gainToken_requests (now : Nat) (i : EntryId) (a : Arbiter) : RequestsStand a (gainToken now i a) := by
  obtain ⟨-, -, hc, hh, -⟩ := gainToken_cases now i a
  refine ⟨fun j => ?_, fun k => by cases k <;> assumption⟩
  rw [gainToken_entry]
  split
  next h => rw [h]; exact ⟨rfl, rfl⟩
  next => exact ⟨rfl, rfl⟩

theorem gainToken_settings (now : Nat) (i : EntryId) (a : Arbiter) : ArbSettingsStand a (gainToken now i a) := by
  obtain ⟨-, hm, -, -, ho⟩ := gainToken_cases now i a
  refine ⟨fun j => ?_, hm, fun hf => ?_, fun hf => ?_, fun hf => ?_⟩
  · rw [gainToken_entry]
    split
    next h => rw [h]; rfl
    next => rfl
  · rcases ho with h | ⟨z, h⟩ <;> rw [h]
    exact rotateServed_saloon hf z _
  · rcases ho with h | ⟨z, h⟩ <;> rw [h]
    exact rotateServed_lower hf z _
  · rcases ho with h | ⟨z, h⟩ <;> rw [h]
    exact rotateServed_upper hf z _

theorem loseToken_requests (i : EntryId) (a : Arbiter) : RequestsStand a (loseToken i a) := by
  refine ⟨fun j => ?_, fun k => by cases k <;> rfl⟩
  rw [loseToken_entry]
  split
  next h => rw [h]; exact ⟨rfl, rfl⟩
  next => exact ⟨rfl, rfl⟩

theorem loseToken_settings (i : EntryId) (a : Arbiter) : ArbSettingsStand a (loseToken i a) := by
  refine ⟨fun j => ?_, rfl, fun _ => rfl, fun _ => rfl, fun _ => rfl⟩
  rw [loseToken_entry]
  split
  next h => rw [h]; rfl
  next => rfl

theorem gainToken_books {now : Nat} {i : EntryId} {a : Arbiter} (h : BooksLawful a) (hs : isShort (a.entry i) = true) :
    BooksLawful (gainToken now i a) := by
  have hr : BooksLawful (a.rewrite i (gainedEntry now (a.entry i))) :=
    h.rewrite (entryLawful_gained (h.entry i) hs) (h.kind_allowed i)
  obtain ⟨ht, -, -, -, ho⟩ := gainToken_cases now i a
  have hentry : ∀ j, (gainToken now i a).entry j = (a.rewrite i (gainedEntry now (a.entry i))).entry j := fun j => by
    rw [gainToken_entry, Arbiter.rewrite_entry]
  refine ⟨?_, ?_, ?_⟩
  · rcases ho with ho | ⟨z, ho⟩ <;> rw [ho]
    · exact h.orders
    · exact rotateServed_lawful a.modes z h.orders
  · simp only [tableLawful, hentry]
    exact hr.table
  · simp only [queueLawful, hentry, gainToken_queue h.queue hs]
    exact hr.queue

theorem loseToken_books {i : EntryId} {a : Arbiter} (h : BooksLawful a) (hp : 0 < (a.entry i).held) : BooksLawful (loseToken i a) := by
  rw [loseToken_eq_rewrite (h.entry i) hp]
  exact h.rewrite (entryLawful_lost (h.entry i)) (h.kind_allowed i)

/-! ## The serve pass (R50 to R54) -/

theorem servable_iff (k : TokenKind) (a : Arbiter) (i : EntryId) :
    servable k a i = true ↔ (a.entry i).kind = kindOf k ∧ isShort (a.entry i) = true ∧ (a.entry i).masked = false := by
  simp [servable, and_assoc]

theorem nextServed_servable {k : TokenKind} {a : Arbiter} {i : EntryId} (h : nextServed k a = some i) : servable k a i = true := by
  unfold nextServed at h
  split at h
  · exact List.find?_some h
  · exact List.find?_some h
  · split at h
    next hs => cases h; exact hs
    next => exact List.find?_some h

theorem distribute_stand (now : Nat) (k : TokenKind) (n : Nat) (a : Arbiter) :
    RequestsStand a (distribute now k n a) ∧ ArbSettingsStand a (distribute now k n a) := by
  induction n generalizing a with
  | zero => exact ⟨.refl a, .refl a⟩
  | succ n ih =>
    unfold distribute
    split
    next i _ =>
      exact ⟨(gainToken_requests now i a).trans (ih _).1, (gainToken_settings now i a).trans (ih _).2⟩
    next => exact ⟨.refl a, .refl a⟩

/-- Distribution keeps the books, and every pool within its capacity while the tokens given out were free. -/
theorem distribute_lawful (now : Nat) (k : TokenKind) (n : Nat) {a : Arbiter} (h : BooksLawful a) (hp : poolsLawful a)
    (hn : a.heldTotal k + n ≤ a.capacity k) : BooksLawful (distribute now k n a) ∧ poolsLawful (distribute now k n a) := by
  induction n generalizing a with
  | zero => exact ⟨h, hp⟩
  | succ n ih =>
    unfold distribute
    split
    next i hi =>
      obtain ⟨hk, hs, -⟩ := (servable_iff k a i).1 (nextServed_servable hi)
      have hcap := (gainToken_requests now i a).capacity
      refine ih (gainToken_books h hs) (fun j => ?_) ?_
      · have := hp j
        rw [hcap j, heldTotal_gainToken, hk]
        by_cases hj : k = j
        · subst hj
          simp only [if_true]
          omega
        · rw [if_neg (fun e => hj (by cases k <;> cases j <;> first | rfl | cases e))]
          exact this
      · rw [hcap k, heldTotal_gainToken, if_pos hk]
        omega
    next => exact ⟨h, hp⟩

theorem eligible_holds {now : Nat} {k : TokenKind} {a : Arbiter} {r v : EntryId} (h : eligible now k a r v = true) :
    v ≠ r ∧ 0 < heldOfKind k (a.entry v) := by
  unfold eligible at h
  split at h
  · cases h
  · cases h
  · simp only [Bool.and_eq_true, bne_iff_ne, ne_eq, decide_eq_true_eq] at h
    exact ⟨fun e => h.1.1 e.symm, h.1.2⟩

theorem preempt_stand (now : Nat) (k : TokenKind) (n : Nat) (a : Arbiter) :
    RequestsStand a (preempt now k n a).1 ∧ ArbSettingsStand a (preempt now k n a).1 := by
  induction n generalizing a with
  | zero => exact ⟨.refl a, .refl a⟩
  | succ n ih =>
    unfold preempt
    split
    · split
      next r _ =>
        split
        next v _ =>
          exact ⟨((loseToken_requests v a).trans (gainToken_requests now r _)).trans (ih _).1,
            ((loseToken_settings v a).trans (gainToken_settings now r _)).trans (ih _).2⟩
        next => exact ⟨.refl a, .refl a⟩
      next => exact ⟨.refl a, .refl a⟩
    · exact ⟨.refl a, .refl a⟩

theorem held_pos_of_heldOfKind {k : TokenKind} {e : GrantEntry} (h : 0 < heldOfKind k e) : e.kind = kindOf k ∧ 0 < e.held := by
  unfold heldOfKind at h
  split at h
  next hk => exact ⟨hk, h⟩
  next => omega

/-- Preemption keeps the books and every pool's total: what the victim loses the requester gains (R52). -/
theorem preempt_lawful (now : Nat) (k : TokenKind) (n : Nat) {a : Arbiter} (h : BooksLawful a) (hp : poolsLawful a) :
    BooksLawful (preempt now k n a).1 ∧ poolsLawful (preempt now k n a).1 := by
  induction n generalizing a with
  | zero => exact ⟨h, hp⟩
  | succ n ih =>
    unfold preempt
    split
    · split
      next r hr =>
        split
        next v hv =>
          have hsr : servable k a r = true := (Bool.and_eq_true _ _ ▸ List.find?_some hr).1
          obtain ⟨hkr, hshort, -⟩ := (servable_iff k a r).1 hsr
          obtain ⟨hne, hheld⟩ := eligible_holds (List.find?_some hv)
          obtain ⟨hkv, hpos⟩ := held_pos_of_heldOfKind hheld
          have hr' : (loseToken v a).entry r = a.entry r := by rw [loseToken_entry, if_neg hne.symm]
          refine ih (gainToken_books (loseToken_books h hpos) (by rw [hr']; exact hshort)) fun j => ?_
          have hl := heldTotal_loseToken (h.entry v) hpos j
          have hj := hp j
          rw [(gainToken_requests now r _).capacity, (loseToken_requests v a).capacity, heldTotal_gainToken, hr', hkr]
          rw [hkv] at hl
          omega
        next => exact ⟨h, hp⟩
      next => exact ⟨h, hp⟩
    · exact ⟨h, hp⟩

theorem servePool_stand (now : Nat) (k : TokenKind) (a : Arbiter) :
    RequestsStand a (servePool now k a).1 ∧ ArbSettingsStand a (servePool now k a).1 := by
  unfold servePool
  dsimp only
  obtain ⟨hr, hs⟩ := distribute_stand now k (a.free k) a
  generalize distribute now k (a.free k) a = b at hr hs
  obtain ⟨kr, ks⟩ := preempt_stand now k (b.heldTotal k) b
  exact ⟨hr.trans kr, hs.trans ks⟩

theorem servePool_lawful (now : Nat) (k : TokenKind) {a : Arbiter} (h : BooksLawful a) (hp : poolsLawful a) :
    BooksLawful (servePool now k a).1 ∧ poolsLawful (servePool now k a).1 := by
  have hfree : a.heldTotal k + a.free k ≤ a.capacity k := by
    have := hp k
    unfold Arbiter.free
    omega
  obtain ⟨hb, hq⟩ := distribute_lawful now k (a.free k) h hp hfree
  unfold servePool
  exact preempt_lawful now k _ hb hq

theorem servePass_arb (now : Nat) (a : Arbiter) :
    (servePass now a).arb = (servePool now .heat (servePool now .cool a).1).1 := by
  simp only [servePass]

theorem servePass_stand (now : Nat) (a : Arbiter) :
    RequestsStand a (servePass now a).arb ∧ ArbSettingsStand a (servePass now a).arb := by
  rw [servePass_arb]
  obtain ⟨hr, hs⟩ := servePool_stand now .cool a
  generalize (servePool now .cool a).1 = b at hr hs
  obtain ⟨kr, ks⟩ := servePool_stand now .heat b
  exact ⟨hr.trans kr, hs.trans ks⟩

theorem servePass_lawful (now : Nat) {a : Arbiter} (h : BooksLawful a) (hp : poolsLawful a) :
    BooksLawful (servePass now a).arb ∧ poolsLawful (servePass now a).arb := by
  obtain ⟨hb, hq⟩ := servePool_lawful now .cool h hp
  rw [servePass_arb]
  exact servePool_lawful now .heat hb hq

end Sys2Proof.Machine

namespace Sys2Proof.Machine

/-! ## The same tokens under other marks, masks and settings -/

/-- The entries hold and want the same, and may differ in their masks and hold-end marks alone. -/
structure SameTokens (a b : Arbiter) : Prop where
  kind : ∀ i, (b.entry i).kind = (a.entry i).kind
  wanted : ∀ i, (b.entry i).wanted = (a.entry i).wanted
  held : ∀ i, (b.entry i).held = (a.entry i).held
  since : ∀ i, (b.entry i).since = (a.entry i).since

/-- Entries that read the same in all but mask and mark. -/
theorem sameTokens_of_entry {a b : Arbiter}
    (h : ∀ i, ∃ m p, b.entry i = { a.entry i with masked := m, holdPending := p }) : SameTokens a b := by
  refine ⟨fun i => ?_, fun i => ?_, fun i => ?_, fun i => ?_⟩ <;>
  · obtain ⟨m, p, he⟩ := h i
    rw [he]

theorem SameTokens.heldTotal {a b : Arbiter} (h : SameTokens a b) (k : TokenKind) : b.heldTotal k = a.heldTotal k := by
  simp only [Arbiter.heldTotal, heldOfKind, h.kind, h.held]

theorem SameTokens.books {a b : Arbiter} (h : SameTokens a b) (hb : BooksLawful a) (hq : b.queue = a.queue)
    (ho : ordersLawful b.orders) : BooksLawful b := by
  refine ⟨ho, ⟨fun i => ?_, ?_, ?_⟩, ?_⟩
  · unfold entryLawful
    rw [h.held, h.wanted, h.kind, h.since]
    exact hb.entry i
  · rw [h.kind]; exact hb.table.2.1
  · rw [h.kind]; exact hb.table.2.2
  · have hs : ∀ i, isShort (b.entry i) = isShort (a.entry i) := fun i => by unfold isShort; rw [h.held, h.wanted]
    simp only [queueLawful, hq, hs]
    exact hb.queue

theorem SameTokens.pools {a b : Arbiter} (h : SameTokens a b) (hp : poolsLawful a) (hc : ∀ k, b.capacity k = a.capacity k) :
    poolsLawful b := fun k => by rw [h.heldTotal, hc]; exact hp k

theorem SameTokens.requests {a b : Arbiter} (h : SameTokens a b) (hc : ∀ k, b.capacity k = a.capacity k) : RequestsStand a b :=
  ⟨fun i => ⟨h.kind i, h.wanted i⟩, hc⟩

/-! ## Requests (R47, R48) -/

/-- A request as the Zone Controller hands it: nothing wanted with kind None, 1 to 4 tokens otherwise (R16, R17). -/
def requestFits (k : ReqKind) (w : Nat) : Prop := (k = .none → w = 0) ∧ (k ≠ .none → 1 ≤ w ∧ w ≤ 4)

theorem requestFits_none : requestFits .none 0 := ⟨fun _ => rfl, fun h => absurd rfl h⟩

/-- The result of an arbiter event that has rewritten its table to `b`: with a serve pass or without one. -/
def servedOr (now : Nat) (b : Arbiter) (r : ArbResult) : Prop := r = settledResult b ∨ r = servePass now b

theorem servedOr_stand {now : Nat} {b : Arbiter} {r : ArbResult} (h : servedOr now b r) :
    RequestsStand b r.arb ∧ ArbSettingsStand b r.arb := by
  rcases h with h | h <;> rw [h]
  · exact ⟨.refl b, .refl b⟩
  · exact servePass_stand now b

theorem servedOr_lawful {now : Nat} {b : Arbiter} {r : ArbResult} (h : servedOr now b r) (hb : BooksLawful b) (hp : poolsLawful b) :
    BooksLawful r.arb ∧ poolsLawful r.arb := by
  rcases h with h | h <;> rw [h]
  · exact ⟨hb, hp⟩
  · exact servePass_lawful now hb hp

/-- What a hand-off leaves of an entry: the request it carries, and no more tokens than before. -/
structure HandedEntry (k : ReqKind) (w : Nat) (old new : GrantEntry) : Prop where
  kind : new.kind = k
  wanted : new.wanted = if k = .none then 0 else w
  masked : new.masked = old.masked
  lawful : entryLawful old → requestFits k w → entryLawful new
  held : ∀ t, heldOfKind t new ≤ heldOfKind t old

/-- Every hand-off either finds its request in the entry, or rewrites the entry and the queue, with a serve pass or without. -/
theorem handRequest_cases (now : Nat) (z : Zone) (k : ReqKind) (w : Nat) (a : Arbiter) :
    (handRequest now z k w a = settledResult a ∧
        (a.entry (.zone z)).kind = k ∧ (k ≠ .none → (a.entry (.zone z)).wanted = w)) ∨
      ∃ e q, HandedEntry k w (a.entry (.zone z)) e ∧
        (entryLawful (a.entry (.zone z)) → queueLawful a → requestFits k w → q = requeue (.zone z) e a.queue) ∧
        servedOr now { a.setEntry (.zone z) e with queue := q } (handRequest now z k w a) := by
  unfold handRequest
  dsimp only
  generalize he0 : a.entry (.zone z) = e0
  have notShort : ∀ e : GrantEntry, ¬ e.held < e.wanted → requeue (.zone z) e a.queue = leaveQueue (.zone z) a.queue :=
    fun e h => if_neg (by rw [isShort_iff]; exact h)
  have short : ∀ e : GrantEntry, e.held < e.wanted → requeue (.zone z) e a.queue = joinQueue (.zone z) a.queue :=
    fun e h => if_pos (by rw [isShort_iff]; exact h)
  split
  next hk =>
    subst hk
    split
    next h0 => exact .inl ⟨rfl, h0, fun h => absurd rfl h⟩
    next h0 =>
      refine .inr ⟨{ e0 with kind := .none, wanted := 0, held := 0, since := none, holdPending := false },
        leaveQueue (.zone z) a.queue, ⟨rfl, rfl, rfl, fun _ _ => ⟨by simp, by simp, fun _ => rfl, by simp⟩, fun t => ?_⟩,
        fun _ _ _ => (notShort _ (by simp)).symm, ?_⟩
      · simp [heldOfKind]
      · split
        · exact .inr rfl
        · exact .inl rfl
  next hk =>
    split
    next h0 => exact .inl ⟨rfl, h0.1, fun _ => h0.2⟩
    next h0 =>
      split
      next h1 =>
        refine .inr ⟨{ e0 with kind := k, wanted := w, held := 0, since := none, holdPending := false },
          joinQueue (.zone z) a.queue,
          ⟨rfl, (if_neg hk).symm, rfl, fun _ hf => ⟨by simp, (hf.2 hk).2, fun h => absurd h hk, by simp⟩, fun t => ?_⟩,
          fun _ _ hf => (short _ (by exact (hf.2 hk).1)).symm, .inr rfl⟩
        simp [heldOfKind]
      next h1 =>
        have h1 : e0.kind = k := not_not.1 h1
        split
        next h2 =>
          refine .inr ⟨{ e0 with wanted := w }, joinQueue (.zone z) a.queue,
            ⟨h1, (if_neg hk).symm, rfl, fun hl hf => ?_, fun t => le_rfl⟩, fun hl _ _ => (short _ ?_).symm, .inr rfl⟩
          · exact ⟨hl.1.trans h2.le, (hf.2 hk).2, fun h => absurd (h1.symm.trans h) hk, hl.2.2.2⟩
          · exact hl.1.trans_lt h2
        next h2 =>
          split
          next h3 =>
            refine .inr ⟨{ e0 with wanted := w, held := w }, leaveQueue (.zone z) a.queue,
              ⟨h1, (if_neg hk).symm, rfl, fun hl hf => ?_, fun t => ?_⟩, fun _ _ _ => (notShort _ (by simp)).symm, .inr rfl⟩
            · refine ⟨le_rfl, (hf.2 hk).2, fun h => absurd (h1.symm.trans h) hk, ?_⟩
              have hs := hl.2.2.2
              have hw := (hf.2 hk).1
              exact ⟨fun h => by have := hs.1 h; omega, fun h => by dsimp only at h; omega⟩
            · unfold heldOfKind
              dsimp only
              split <;> omega
          next h3 =>
            have hne : e0.wanted ≠ w := fun h => h0 ⟨h1, h⟩
            refine .inr ⟨{ e0 with wanted := w }, if e0.held = w then leaveQueue (.zone z) a.queue else a.queue,
              ⟨h1, (if_neg hk).symm, rfl, fun hl hf => ?_, fun t => le_rfl⟩, fun hl hq _ => ?_, .inl ?_⟩
            · exact ⟨not_lt.1 h3, (hf.2 hk).2, fun h => absurd (h1.symm.trans h) hk, hl.2.2.2⟩
            · split
              next h4 => exact (notShort _ (by dsimp only; omega)).symm
              next h4 =>
                rw [short _ (by dsimp only; omega), joinQueue_of_mem]
                rw [hq.2, he0, isShort_iff]
                omega
            · split <;> rfl

theorem handRequest_settings (now : Nat) (z : Zone) (k : ReqKind) (w : Nat) (a : Arbiter) :
    ArbSettingsStand a (handRequest now z k w a).arb := by
  rcases handRequest_cases now z k w a with ⟨h, -⟩ | ⟨e, q, he, -, hr⟩
  · rw [h]; exact .refl a
  · have hset : ArbSettingsStand a { a.setEntry (.zone z) e with queue := q } :=
      ⟨fun i => (arbSettingsStand_rewrite a he.masked).masked i, rfl, fun _ => rfl, fun _ => rfl, fun _ => rfl⟩
    exact hset.trans (servedOr_stand hr).2

/-- A fitting request handed to a lawful arbiter leaves it lawful, with that request in the zone's entry and every other request and both
capacities as they were. -/
theorem handRequest_lawful (now : Nat) (z : Zone) {k : ReqKind} {w : Nat} {a : Arbiter} (hf : requestFits k w) (h : BooksLawful a)
    (hp : poolsLawful a) :
    (BooksLawful (handRequest now z k w a).arb ∧ poolsLawful (handRequest now z k w a).arb) ∧
      RequestsStand (a.setEntry (.zone z) { a.entry (.zone z) with kind := k, wanted := w }) (handRequest now z k w a).arb := by
  rcases handRequest_cases now z k w a with ⟨hr, hk, hw⟩ | ⟨e, q, he, hq, hr⟩
  · rw [hr]
    refine ⟨⟨h, hp⟩, ⟨fun i => ?_, fun t => by cases t <;> rfl⟩⟩
    have hwanted : (a.entry (.zone z)).wanted = w := by
      by_cases hn : k = .none
      · rw [hf.1 hn, (h.entry _).2.2.1 (hk.trans hn)]
      · exact hw hn
    rw [Arbiter.entry_setEntry]
    split
    next hi => rw [hi]; exact ⟨hk, hwanted⟩
    next => exact ⟨rfl, rfl⟩
  · have hq := hq (h.entry _) h.queue hf
    subst hq
    have hb : BooksLawful (a.rewrite (.zone z) e) := h.rewrite (he.lawful (h.entry _) hf) (kindAllowed_zone z _)
    have hpool : poolsLawful (a.rewrite (.zone z) e) := fun t => by
      have ht := a.heldTotal_rewrite (.zone z) e t
      have hle := he.held t
      have := hp t
      rw [Arbiter.rewrite_capacity]
      omega
    refine ⟨servedOr_lawful hr hb hpool, RequestsStand.trans ⟨fun i => ?_, fun t => by cases t <;> rfl⟩ (servedOr_stand hr).1⟩
    have hwanted : e.wanted = w := by
      rw [he.wanted]
      split
      next hn => exact (hf.1 hn).symm
      next => rfl
    show ((a.setEntry (.zone z) e).entry i).kind = _ ∧ ((a.setEntry (.zone z) e).entry i).wanted = _
    simp only [Arbiter.entry_setEntry]
    split
    · exact ⟨he.kind, hwanted⟩
    · exact ⟨rfl, rfl⟩

/-! ## Screen clear (R49) -/

/-- The number wanted that screen clear gives its two entries. -/
def screenWanted (active : Bool) : Nat := if active then 2 else 0

/-- The two screen-clear entries want `n` tokens each, and every other request and both capacities are as they were. -/
structure ScreenRequests (n : Nat) (a b : Arbiter) : Prop where
  scc : (b.entry .scc).wanted = n
  sch : (b.entry .sch).wanted = n
  zones : ∀ z, (b.entry (.zone z)).kind = (a.entry (.zone z)).kind ∧ (b.entry (.zone z)).wanted = (a.entry (.zone z)).wanted
  capacity : ∀ k, b.capacity k = a.capacity k

theorem ScreenRequests.then {n : Nat} {a b c : Arbiter} (h : ScreenRequests n a b) (k : RequestsStand b c) : ScreenRequests n a c where
  scc := (k.request _).2.trans h.scc
  sch := (k.request _).2.trans h.sch
  zones z := ⟨(k.request _).1.trans (h.zones z).1, (k.request _).2.trans (h.zones z).2⟩
  capacity t := (k.capacity t).trans (h.capacity t)

theorem assertScreenEntries_lawful (now : Nat) {a : Arbiter} (h : BooksLawful a) (hp : poolsLawful a)
    (hc : (a.entry .scc).wanted = 0) (hh : (a.entry .sch).wanted = 0) :
    (BooksLawful (assertScreenEntries now a).arb ∧ poolsLawful (assertScreenEntries now a).arb) ∧
      ScreenRequests 2 a (assertScreenEntries now a).arb := by
  have raised : ∀ e : GrantEntry, entryLawful e → e.wanted = 0 → e.kind ≠ .none →
      entryLawful { e with wanted := 2 } ∧ isShort { e with wanted := 2 } = true := by
    intro e ⟨hle, h4, hn, hs⟩ h0 hk
    refine ⟨⟨?_, ?_, fun hn => absurd hn hk, hs⟩, (isShort_iff _).2 ?_⟩ <;> dsimp only <;> omega
  obtain ⟨lc, sc⟩ := raised _ (h.entry .scc) hc (by rw [h.table.2.1]; decide)
  obtain ⟨lh, sh⟩ := raised _ (h.entry .sch) hh (by rw [h.table.2.2]; decide)
  generalize hb : (a.rewrite .scc { a.entry .scc with wanted := 2 }).rewrite .sch { a.entry .sch with wanted := 2 } = b
  have hr : assertScreenEntries now a = servePass now b := by
    subst hb
    unfold assertScreenEntries
    simp only [Arbiter.rewrite, requeue, sc, sh, if_true]
    rfl
  have hbooks : BooksLawful b := by
    subst hb
    exact (h.rewrite lc (h.kind_allowed .scc)).rewrite lh (h.kind_allowed .sch)
  have hpools : poolsLawful b := fun k => by
    subst hb
    have h1 := a.heldTotal_rewrite .scc { a.entry .scc with wanted := 2 } k
    have h2 := (a.rewrite .scc { a.entry .scc with wanted := 2 }).heldTotal_rewrite .sch { a.entry .sch with wanted := 2 } k
    have h3 := hp k
    simp only [Arbiter.rewrite_entry, reduceCtorEq, if_false, heldOfKind, Arbiter.rewrite_capacity] at *
    omega
  rw [hr]
  refine ⟨servePass_lawful now hbooks hpools, ScreenRequests.then ?_ (servePass_stand now b).1⟩
  subst hb
  exact ⟨rfl, rfl, fun z => ⟨rfl, rfl⟩, fun k => by cases k <;> rfl⟩

/-- The entry that a release of screen clear leaves (R49). -/
def releasedEntry (e : GrantEntry) : GrantEntry := { e with wanted := 0, held := 0, since := none, holdPending := false }

theorem releaseScreenEntries_lawful (now : Nat) {a : Arbiter} (h : BooksLawful a) (hp : poolsLawful a) :
    (BooksLawful (releaseScreenEntries now a).arb ∧ poolsLawful (releaseScreenEntries now a).arb) ∧
      ScreenRequests 0 a (releaseScreenEntries now a).arb := by
  have lawful : ∀ e : GrantEntry, entryLawful (releasedEntry e) := fun e =>
    ⟨le_rfl, by simp [releasedEntry], fun _ => rfl, by simp [releasedEntry]⟩
  have short : ∀ e : GrantEntry, isShort (releasedEntry e) = false := fun e => by simp [isShort, releasedEntry]
  generalize hb : (a.rewrite .scc (releasedEntry (a.entry .scc))).rewrite .sch (releasedEntry (a.entry .sch)) = b
  have hr : releaseScreenEntries now a = servePass now b := by
    subst hb
    unfold releaseScreenEntries
    simp only [Arbiter.rewrite, requeue, short]
    rfl
  have hbooks : BooksLawful b := by
    subst hb
    exact (h.rewrite (lawful _) (h.kind_allowed .scc)).rewrite (lawful _) (h.kind_allowed .sch)
  have hpools : poolsLawful b := fun k => by
    subst hb
    have h0 : ∀ e, heldOfKind k (releasedEntry e) = 0 := fun e => by unfold heldOfKind releasedEntry; split <;> rfl
    have h1 := a.heldTotal_rewrite .scc (releasedEntry (a.entry .scc)) k
    have h2 := (a.rewrite .scc (releasedEntry (a.entry .scc))).heldTotal_rewrite .sch (releasedEntry (a.entry .sch)) k
    have h3 := hp k
    rw [h0] at h1 h2
    simp only [Arbiter.rewrite_capacity]
    omega
  rw [hr]
  refine ⟨servePass_lawful now hbooks hpools, ScreenRequests.then ?_ (servePass_stand now b).1⟩
  subst hb
  exact ⟨rfl, rfl, fun z => ⟨rfl, rfl⟩, fun k => by cases k <;> rfl⟩

/-! ## Reclaim and capacity reports (R56, R57) -/

theorem mem_holdersLowestFirst {k : TokenKind} {a : Arbiter} {i : EntryId} (h : i ∈ holdersLowestFirst k a) :
    0 < heldOfKind k (a.entry i) := by
  simp only [holdersLowestFirst, List.mem_filter, Bool.and_eq_true, decide_eq_true_eq] at h
  exact h.2.2

theorem zone_mem_holdersLowestFirst {k : TokenKind} {a : Arbiter} (ho : ordersLawful a.orders) {z : Zone}
    (h : 0 < heldOfKind k (a.entry (.zone z))) : .zone z ∈ holdersLowestFirst k a := by
  simp only [holdersLowestFirst, List.mem_filter, List.mem_reverse, Bool.and_eq_true, decide_eq_true_eq]
  exact ⟨mem_ranking ho _, rfl, h⟩

theorem mostRecent_mem {a : Arbiter} {l : List EntryId} {i : EntryId} (h : mostRecent a l = some i) : i ∈ l := by
  induction l generalizing i with
  | nil => cases h
  | cons j rest ih =>
    unfold mostRecent at h
    split at h
    · cases h; exact List.mem_cons_self
    next m hm =>
      split at h
      · cases h; exact List.mem_cons_of_mem _ (ih hm)
      · cases h; exact List.mem_cons_self

theorem mostRecent_eq_none {a : Arbiter} {l : List EntryId} (h : mostRecent a l = none) : l = [] := by
  cases l with
  | nil => rfl
  | cons j rest =>
    unfold mostRecent at h
    split at h
    · cases h
    · split at h <;> cases h

/-- While tokens of a kind are held, the victim of a reclaim holds one (R56, R57). -/
theorem reclaimVictim_holds {k : TokenKind} {a : Arbiter} (h : BooksLawful a) (hp : 0 < a.heldTotal k) :
    0 < heldOfKind k (a.entry (reclaimVictim k a)) := by
  have hvictim : ∀ o : Option EntryId, (∀ i, o = some i → i ∈ holdersLowestFirst k a) → (o = none → holdersLowestFirst k a = []) →
      0 < heldOfKind k (a.entry (o.getD (screenEntry k))) := by
    intro o hsome hnone
    cases o with
    | some i => exact mem_holdersLowestFirst (hsome i rfl)
    | none =>
      have hzone : ∀ z, heldOfKind k (a.entry (.zone z)) = 0 := fun z => by
        by_contra hz
        have := zone_mem_holdersLowestFirst h.orders (Nat.pos_of_ne_zero hz)
        rw [hnone rfl] at this
        cases this
      rw [Arbiter.heldTotal_eq] at hp
      simp only [hzone, Nat.add_zero] at hp
      obtain ⟨-, hc, hh⟩ := h.table
      cases k with
      | cool =>
        rw [heldOfKind_of_ne (e := a.entry .sch) (by rw [hh]; decide)] at hp
        exact hp
      | heat =>
        rw [heldOfKind_of_ne (e := a.entry .scc) (by rw [hc]; decide), Nat.zero_add] at hp
        exact hp
  unfold reclaimVictim
  dsimp only
  split
  · exact hvictim _ (fun i hi => List.mem_of_mem_head? hi) (fun hn => List.head?_eq_none_iff.1 hn)
  · exact hvictim _ (fun i hi => List.mem_of_mem_head? hi) (fun hn => List.head?_eq_none_iff.1 hn)
  · exact hvictim _ (fun i hi => mostRecent_mem hi) (fun hn => mostRecent_eq_none hn)

theorem reclaim_stand (k : TokenKind) (n : Nat) (a : Arbiter) :
    RequestsStand a (reclaim k n a) ∧ ArbSettingsStand a (reclaim k n a) := by
  induction n generalizing a with
  | zero => exact ⟨.refl a, .refl a⟩
  | succ n ih =>
    unfold reclaim
    exact ⟨(loseToken_requests _ a).trans (ih _).1, (loseToken_settings _ a).trans (ih _).2⟩

/-- Tokens taken back one at a time leave the books lawful and the total lower by their number; no other total rises. -/
theorem reclaim_lawful (k : TokenKind) (n : Nat) {a : Arbiter} (h : BooksLawful a) (hn : n ≤ a.heldTotal k) :
    BooksLawful (reclaim k n a) ∧ (reclaim k n a).heldTotal k + n = a.heldTotal k ∧
      ∀ j, (reclaim k n a).heldTotal j ≤ a.heldTotal j := by
  induction n generalizing a with
  | zero => exact ⟨h, rfl, fun _ => le_rfl⟩
  | succ n ih =>
    obtain ⟨hkind, hpos⟩ := held_pos_of_heldOfKind (reclaimVictim_holds h (by omega : 0 < a.heldTotal k))
    have ht := heldTotal_loseToken (h.entry (reclaimVictim k a)) hpos
    have hk := ht k
    rw [if_pos hkind] at hk
    obtain ⟨hb, he, hle⟩ := ih (loseToken_books h hpos) (by omega)
    unfold reclaim
    refine ⟨hb, by omega, fun j => (hle j).trans ?_⟩
    have := ht j
    omega

theorem Arbiter.capacity_setCapacity (a : Arbiter) (k j : TokenKind) (n : Nat) :
    (a.setCapacity k n).capacity j = if j = k then n else a.capacity j := by
  cases k <;> cases j <;> rfl

theorem Arbiter.setCapacity_table (a : Arbiter) (k : TokenKind) (n : Nat) : (a.setCapacity k n).table = a.table := by cases k <;> rfl

theorem Arbiter.entry_setCapacity (a : Arbiter) (k : TokenKind) (n : Nat) (i : EntryId) :
    (a.setCapacity k n).entry i = a.entry i := by cases k <;> rfl

theorem sameTokens_setCapacity (a : Arbiter) (k : TokenKind) (n : Nat) : SameTokens a (a.setCapacity k n) :=
  sameTokens_of_entry fun i => ⟨_, _, a.entry_setCapacity k n i⟩

theorem setCapacity_settings (a : Arbiter) (k : TokenKind) (n : Nat) : ArbSettingsStand a (a.setCapacity k n) := by
  cases k <;> exact ⟨fun _ => rfl, rfl, fun _ => rfl, fun _ => rfl, fun _ => rfl⟩

theorem BooksLawful.setCapacity {a : Arbiter} (h : BooksLawful a) (k : TokenKind) (n : Nat) : BooksLawful (a.setCapacity k n) :=
  (sameTokens_setCapacity a k n).books h (by cases k <;> rfl) (by cases k <;> exact h.orders)

/-- The arbiter that a capacity report leaves has come from one with the capacity set, by a reclaim at most and a serve pass at most. -/
theorem reportCapacity_cases (now : Nat) (k : TokenKind) (n : Nat) (a : Arbiter) :
    ((reportCapacity now k n a).arb = a.setCapacity k n ∧ n ≤ a.capacity k ∧ a.heldTotal k ≤ n) ∨
      ((reportCapacity now k n a).arb = (servePass now (a.setCapacity k n)).arb ∧ a.capacity k < n) ∨
      ((reportCapacity now k n a).arb = (servePass now (reclaim k (a.heldTotal k - n) (a.setCapacity k n))).arb ∧
        n < a.heldTotal k) := by
  by_cases h : a.capacity k < n
  · exact .inr (.inl ⟨by simp only [reportCapacity, if_pos h], h⟩)
  · by_cases h2 : n < a.heldTotal k
    · exact .inr (.inr ⟨by simp only [reportCapacity, if_neg h, if_pos h2], h2⟩)
    · exact .inl ⟨by simp only [reportCapacity, if_neg h, if_neg h2, settledResult], not_lt.1 h, not_lt.1 h2⟩

theorem reportCapacity_stand (now : Nat) (k : TokenKind) (n : Nat) (a : Arbiter) :
    RequestsStand (a.setCapacity k n) (reportCapacity now k n a).arb ∧ ArbSettingsStand a (reportCapacity now k n a).arb := by
  have hset := setCapacity_settings a k n
  rcases reportCapacity_cases now k n a with ⟨h, -⟩ | ⟨h, -⟩ | ⟨h, -⟩ <;> rw [h]
  · exact ⟨.refl _, hset⟩
  · have hs := servePass_stand now (a.setCapacity k n)
    exact ⟨hs.1, hset.trans hs.2⟩
  · obtain ⟨hr, hm⟩ := reclaim_stand k (a.heldTotal k - n) (a.setCapacity k n)
    generalize reclaim k (a.heldTotal k - n) (a.setCapacity k n) = b at hr hm
    have hs := servePass_stand now b
    exact ⟨hr.trans hs.1, (hset.trans hm).trans hs.2⟩

/-- A capacity report keeps books and pools lawful: a fall below the held tokens is reclaimed first (R56). -/
theorem reportCapacity_lawful (now : Nat) (k : TokenKind) (n : Nat) {a : Arbiter} (h : BooksLawful a) (hp : poolsLawful a) :
    BooksLawful (reportCapacity now k n a).arb ∧ poolsLawful (reportCapacity now k n a).arb := by
  have hb := h.setCapacity k n
  have htot : ∀ j, (a.setCapacity k n).heldTotal j = a.heldTotal j := fun j => (sameTokens_setCapacity a k n).heldTotal j
  have pools : a.heldTotal k ≤ n → poolsLawful (a.setCapacity k n) := fun hle j => by
    rw [htot, Arbiter.capacity_setCapacity]
    split
    next hj => rw [hj]; exact hle
    next => exact hp j
  rcases reportCapacity_cases now k n a with ⟨hr, -, hle⟩ | ⟨hr, hlt⟩ | ⟨hr, hlt⟩ <;> rw [hr]
  · exact ⟨hb, pools hle⟩
  · exact servePass_lawful now hb (pools ((hp k).trans hlt.le))
  · obtain ⟨hrb, hrk, hrj⟩ := reclaim_lawful k (a.heldTotal k - n) hb (by rw [htot]; omega)
    refine servePass_lawful now hrb fun j => ?_
    rw [(reclaim_stand k _ _).1.capacity, Arbiter.capacity_setCapacity]
    split
    next hj =>
      subst hj
      rw [htot] at hrk
      omega
    next => exact (hrj j).trans (by rw [htot]; exact hp j)

/-! ## Settings, masks and hold ends (R42, R59, R61 to R63) -/

theorem moveHoldEnds_get (now hold : Nat) (t : GrantTable) (i : EntryId) :
    (moveHoldEnds now hold t).get i = { t.get i with holdPending := isProtected now hold (t.get i) } := by
  cases i with
  | scc => rfl
  | sch => rfl
  | zone z => exact PerZone.get_map _ _ z

theorem moveHoldEnds_masked (now hold : Nat) (t : GrantTable) (i : EntryId) :
    ((moveHoldEnds now hold t).get i).masked = (t.get i).masked := by rw [moveHoldEnds_get]

/-- An arbiter event that keeps tokens and capacities, and serves at most. -/
theorem sameTokens_served_lawful {now : Nat} {a b : Arbiter} {r : ArbResult} (ht : SameTokens a b) (hq : b.queue = a.queue)
    (hc : ∀ k, b.capacity k = a.capacity k) (hr : servedOr now b r) (ho : ordersLawful b.orders) (h : BooksLawful a)
    (hp : poolsLawful a) : (BooksLawful r.arb ∧ poolsLawful r.arb) ∧ RequestsStand a r.arb :=
  ⟨servedOr_lawful hr (ht.books h hq ho) (ht.pools hp hc), (ht.requests hc).trans (servedOr_stand hr).1⟩

theorem sameTokens_moveHoldEnds (now : Nat) (m : ArbModes) (a : Arbiter) :
    SameTokens a { a with modes := m, table := moveHoldEnds now m.hold a.table } :=
  sameTokens_of_entry fun i => ⟨_, _, moveHoldEnds_get now m.hold a.table i⟩

theorem setModes_lawful (now : Nat) (m : ArbModes) {a : Arbiter} (h : BooksLawful a) (hp : poolsLawful a) :
    (BooksLawful (setModes now m a).arb ∧ poolsLawful (setModes now m a).arb) ∧ RequestsStand a (setModes now m a).arb :=
  sameTokens_served_lawful (sameTokens_moveHoldEnds now m a) rfl (fun k => by cases k <;> rfl) (.inr rfl) h.orders h hp

theorem actOnSettings_lawful (now : Nat) {a : Arbiter} (h : BooksLawful a) (hp : poolsLawful a) :
    (BooksLawful (actOnSettings now a).arb ∧ poolsLawful (actOnSettings now a).arb) ∧ RequestsStand a (actOnSettings now a).arb :=
  sameTokens_served_lawful (sameTokens_moveHoldEnds now a.modes a) rfl (fun k => by cases k <;> rfl) (.inr rfl) h.orders h hp

theorem actOnSettings_settings (now : Nat) (a : Arbiter) : ArbSettingsStand a (actOnSettings now a).arb := by
  have hset : ArbSettingsStand a { a with table := moveHoldEnds now a.modes.hold a.table } :=
    ⟨moveHoldEnds_masked now a.modes.hold a.table, rfl, fun _ => rfl, fun _ => rfl, fun _ => rfl⟩
  exact hset.trans (servePass_stand now _).2

theorem setOrder_lawful (now : Nat) {id : ArbiterId} {ls : List Line} {a : Arbiter} (hls : ls.Perm (arbiterLines id))
    (h : BooksLawful a) (hp : poolsLawful a) :
    (BooksLawful (setOrder now id ls a).arb ∧ poolsLawful (setOrder now id ls a).arb) ∧ RequestsStand a (setOrder now id ls a).arb :=
  sameTokens_served_lawful (b := { a with orders := a.orders.set id ls })
    (sameTokens_of_entry fun _ => ⟨_, _, rfl⟩) rfl (fun k => by cases k <;> rfl) (.inr rfl)
    (ordersLawful_set h.orders hls) h hp

theorem setMasks_lawful (now : Nat) (masks : PerZone Bool) {a : Arbiter} (h : BooksLawful a) (hp : poolsLawful a) :
    (BooksLawful (setMasks now masks a).arb ∧ poolsLawful (setMasks now masks a).arb) ∧ RequestsStand a (setMasks now masks a).arb := by
  refine sameTokens_served_lawful (now := now)
    (b := { a with table := { a.table with zones := a.table.zones.map (fun z e => { e with masked := masks.get z }) } })
    (sameTokens_of_entry fun i => ?_) rfl (fun k => by cases k <;> rfl) ?_ h.orders h hp
  · cases i with
    | scc => exact ⟨_, _, rfl⟩
    | sch => exact ⟨_, _, rfl⟩
    | zone z => exact ⟨_, _, PerZone.get_map _ _ z⟩
  · unfold setMasks
    dsimp only
    split
    · exact .inr rfl
    · exact .inl rfl

theorem takeHoldEnd_lawful (now : Nat) (i : EntryId) {a : Arbiter} (h : BooksLawful a) (hp : poolsLawful a) :
    (BooksLawful (takeHoldEnd now i a).arb ∧ poolsLawful (takeHoldEnd now i a).arb) ∧ RequestsStand a (takeHoldEnd now i a).arb := by
  refine sameTokens_served_lawful (b := a.setEntry i { a.entry i with holdPending := false })
    (sameTokens_of_entry fun j => ?_) rfl (fun k => by cases k <;> rfl) (.inr rfl) h.orders h hp
  rw [Arbiter.entry_setEntry]
  split
  next hj => exact ⟨_, _, by rw [hj]⟩
  next => exact ⟨_, _, rfl⟩

end Sys2Proof.Machine

namespace Sys2Proof.Machine

/-! ## What blower computations and arbiter events do to the state -/

theorem State.setLa_self (s : State) : s.setLa s.la = s := rfl

theorem State.setBlower_self (s : State) (z : Zone) : s.setBlower z (s.blower z) = s := by
  simp only [setBlower, blower, PerZone.set_get_self]
  rfl

/-- A blower computation sets the zone's speed and may pop the shed stack (R88, R135). -/
theorem computeBlower_cases (z : Zone) (s : State) :
    ∃ k v, k <:+ s.la.stack ∧
      computeBlower z s = (s.setBlower z { s.blower z with speed := v }).setLa { s.la with stack := k } := by
  have unchanged : s = (s.setBlower z { s.blower z with speed := (s.blower z).speed }).setLa { s.la with stack := s.la.stack } := by
    show s = (s.setBlower z (s.blower z)).setLa s.la
    rw [State.setBlower_self, State.setLa_self]
  unfold computeBlower
  dsimp only
  split
  · exact ⟨_, _, List.suffix_rfl, unchanged⟩
  next m _ =>
    generalize (if onStack s.la (.blower z) = true then
      min (targetSpeed s.apc.ventMin s.apc.curveTable (s.zone z).curve m (s.blower z).demand (s.blower z).held) s.apc.ventMin
      else targetSpeed s.apc.ventMin s.apc.curveTable (s.zone z).curve m (s.blower z).demand (s.blower z).held) = v
    split
    · obtain ⟨k, hk, he⟩ := restoreIfFell_stack (committedLoad s) (s.setBlower z { s.blower z with speed := v })
      exact ⟨k, v, hk, he⟩
    · split
      · exact ⟨_, _, List.suffix_rfl, rfl⟩
      · exact ⟨_, _, List.suffix_rfl, unchanged⟩

/-- A hand-off of mode and demand does so with the zone's blower record brought up to date (R18). -/
theorem handMode_cases (z : Zone) (s : State) :
    ∃ k v, k <:+ s.la.stack ∧
      handMode z s =
        (s.setBlower z ⟨some (s.zone z).opMode, (s.zone z).demand.natAbs, (s.blower z).held, v⟩).setLa { s.la with stack := k } := by
  obtain ⟨k, v, hk, he⟩ := computeBlower_cases z
    (s.setBlower z { s.blower z with mode := some (s.zone z).opMode, demand := (s.zone z).demand.natAbs })
  refine ⟨k, v, hk, ?_⟩
  unfold handMode
  rw [he, State.blower_setBlower_self]
  simp only [State.setBlower, State.setApc]
  congr 2
  cases z <;> rfl

theorem State.blower_setBlower (s : State) (z y : Zone) (r : BlowerRec) :
    (s.setBlower z r).blower y = if y = z then r else s.blower y := by
  split
  next h => rw [h, blower_setBlower_self]
  next h => exact s.blower_setBlower_of_ne r h

/-- A hand-off of a changed held count sets it in the zone's blower record, with the computation that follows (R55). -/
theorem handHeld_cases (before : Arbiter) (s : State) (z : Zone) :
    ∃ k v, k <:+ s.la.stack ∧
      handHeld before s z =
        (s.setBlower z
            { s.blower z with
              held := if (s.ca.entry (.zone z)).held = (before.entry (.zone z)).held then (s.blower z).held
                else (s.ca.entry (.zone z)).held
              speed := v }).setLa { s.la with stack := k } := by
  unfold handHeld
  dsimp only
  split
  next h =>
    refine ⟨_, (s.blower z).speed, List.suffix_rfl, ?_⟩
    show s = (s.setBlower z (s.blower z)).setLa s.la
    rw [State.setBlower_self, State.setLa_self]
  next h =>
    obtain ⟨k, v, hk, he⟩ := computeBlower_cases z (s.setBlower z { s.blower z with held := (s.ca.entry (.zone z)).held })
    refine ⟨k, v, hk, ?_⟩
    rw [he, State.blower_setBlower_self]
    simp only [State.setBlower, State.setApc]
    congr 2
    cases z <;> rfl

/-- What handing on held counts leaves: blowers' held counts and speeds and the shed stack alone may move. -/
structure HeldHanded (before : Arbiter) (l : List Zone) (s t : State) : Prop extends PlantOnly s t where
  ca : t.ca = s.ca
  cs : t.cs = s.cs
  hs : t.hs = s.hs
  hlu : t.hlu = s.hlu
  la : ∃ k, k <:+ s.la.stack ∧ t.la = { s.la with stack := k }
  apc : ∃ b, t.apc = { s.apc with blowers := b }
  blower : ∀ z, ∃ v, t.blower z =
    { s.blower z with
      held := if z ∈ l ∧ (s.ca.entry (.zone z)).held ≠ (before.entry (.zone z)).held then (s.ca.entry (.zone z)).held
        else (s.blower z).held
      speed := v }

theorem foldl_handHeld (before : Arbiter) (l : List Zone) (s : State) :
    HeldHanded before l s (l.foldl (handHeld before) s) := by
  induction l generalizing s with
  | nil =>
    exact ⟨.refl s, rfl, rfl, rfl, rfl, ⟨_, List.suffix_rfl, rfl⟩, ⟨_, rfl⟩, fun z => ⟨(s.blower z).speed, by simp⟩⟩
  | cons y l ih =>
    obtain ⟨k, v, hk, he⟩ := handHeld_cases before s y
    have hp := handHeld_plantOnly before s y
    rw [List.foldl_cons]
    generalize handHeld before s y = s1 at he hp
    have hca : s1.ca = s.ca := by rw [he]; rfl
    have hla : s1.la = { s.la with stack := k } := by rw [he]; rfl
    have hapc : ∀ b, { s1.apc with blowers := b } = { s.apc with blowers := b } := fun b => by rw [he]; rfl
    have hblower : ∀ z, ∃ w, s1.blower z =
        { s.blower z with
          held := if z = y ∧ (s.ca.entry (.zone z)).held ≠ (before.entry (.zone z)).held then (s.ca.entry (.zone z)).held
            else (s.blower z).held
          speed := w } := fun z => by
      rw [he]
      show ∃ w, (s.setBlower y _).blower z = _
      rw [State.blower_setBlower]
      by_cases hz : z = y
      · subst hz
        by_cases hh : (s.ca.entry (.zone z)).held = (before.entry (.zone z)).held <;> exact ⟨v, by simp [hh]⟩
      · exact ⟨(s.blower z).speed, by simp [hz]⟩
    obtain ⟨po, ca, cs, hs, hlu, ⟨k2, hk2, la⟩, ⟨b, apc⟩, blower⟩ := ih s1
    refine ⟨hp.trans po, ca.trans hca, cs.trans (by rw [he]; rfl), hs.trans (by rw [he]; rfl), hlu.trans (by rw [he]; rfl),
      ⟨k2, ?_, ?_⟩, ⟨b, apc.trans (hapc b)⟩, fun z => ?_⟩
    · rw [hla] at hk2
      exact hk2.trans hk
    · rw [la, hla]
    · obtain ⟨w, hw⟩ := blower z
      obtain ⟨w1, hw1⟩ := hblower z
      refine ⟨w, hw.trans ?_⟩
      rw [hw1, hca]
      by_cases hh : (s.ca.entry (.zone z)).held = (before.entry (.zone z)).held
      · simp [hh]
      · by_cases hz : z = y
        · simp [hh, iff_true_intro hz]
        · by_cases hl : z ∈ l <;> simp [hh, hz, hl]

/-- What an event at the Capacity Arbiter leaves (R52, R55, R56, R58): the arbiter's own result, its flags, the totals handed to the
sequencers, the held counts handed to the blowers, and stack entries popped on the way. -/
structure ArbEventDone (r : ArbResult) (s t : State) : Prop extends PlantOnly s t where
  ca : t.ca = r.arb
  cs : t.cs = { s.cs with wantedTotal := r.arb.wantedTotal .cool, sccShort := isShort (r.arb.entry .scc) }
  hs : t.hs = { s.hs with wantedTotal := r.arb.wantedTotal .heat }
  la : ∃ k, k <:+ s.la.stack ∧ t.la = { s.la with stack := k }
  apc : ∃ b, t.apc = { s.apc with blowers := b }
  blower : ∀ z, ∃ v, t.blower z =
    { s.blower z with
      held := if (r.arb.entry (.zone z)).held ≠ (s.ca.entry (.zone z)).held then (r.arb.entry (.zone z)).held
        else (s.blower z).held
      speed := v }
  enabled : t.hlu.enabled = s.hlu.enabled
  flags : ∀ f, hasFlag s.hlu.latched f = true → hasFlag t.hlu.latched f = true

theorem setFlag_enabled (f : Flag) (h : HostLink) : (setFlag f h).enabled = h.enabled := by
  unfold setFlag
  split <;> rfl

/-- A flag once latched stays latched when another is set (R168). -/
theorem hasFlag_setFlag_mono (f : Flag) {g : Flag} {h : HostLink} (hg : hasFlag h.latched g = true) :
    hasFlag (setFlag f h).latched g = true := by
  by_cases hfg : f = g
  · exact hfg ▸ hasFlag_setFlag_self f h
  · rw [hasFlag_setFlag_other hfg]; exact hg

theorem mem_zone_all (z : Zone) : z ∈ Zone.all := by cases z <;> decide

@[simp] theorem raise_ca (f : Flag) (s : State) : (raise f s).ca = s.ca := rfl
@[simp] theorem raise_la (f : Flag) (s : State) : (raise f s).la = s.la := rfl
@[simp] theorem raise_cs (f : Flag) (s : State) : (raise f s).cs = s.cs := rfl
@[simp] theorem raise_hs (f : Flag) (s : State) : (raise f s).hs = s.hs := rfl
@[simp] theorem raise_apc (f : Flag) (s : State) : (raise f s).apc = s.apc := rfl
@[simp] theorem raise_zc (f : Flag) (s : State) : (raise f s).zc = s.zc := rfl
@[simp] theorem raise_scm (f : Flag) (s : State) : (raise f s).scm = s.scm := rfl
@[simp] theorem raise_psc (f : Flag) (s : State) : (raise f s).psc = s.psc := rfl
@[simp] theorem raise_hlu (f : Flag) (s : State) : (raise f s).hlu = setFlag f s.hlu := rfl

/-- Setting a flag or not leaves every block but the link alone. -/
structure FlagsOnly (s t : State) : Prop where
  ca : t.ca = s.ca
  la : t.la = s.la
  cs : t.cs = s.cs
  hs : t.hs = s.hs
  apc : t.apc = s.apc
  enabled : t.hlu.enabled = s.hlu.enabled
  flags : ∀ f, hasFlag s.hlu.latched f = true → hasFlag t.hlu.latched f = true

theorem raise_flagsOnly (f : Flag) (s : State) : FlagsOnly s (raise f s) :=
  ⟨rfl, rfl, rfl, rfl, rfl, setFlag_enabled f s.hlu, fun _ => hasFlag_setFlag_mono f⟩

theorem FlagsOnly.trans {s t u : State} (h : FlagsOnly s t) (k : FlagsOnly t u) : FlagsOnly s u :=
  ⟨k.1.trans h.1, k.2.trans h.2, k.3.trans h.3, k.4.trans h.4, k.5.trans h.5, k.6.trans h.6, fun f hf => k.7 f (h.7 f hf)⟩

theorem raiseIf_flagsOnly (c : Bool) (f : Flag) (s : State) : FlagsOnly s (if c then raise f s else s) := by
  split
  · exact raise_flagsOnly f s
  · exact ⟨rfl, rfl, rfl, rfl, rfl, rfl, fun _ => id⟩

theorem arbEvent_done (f : Arbiter → ArbResult) (s : State) : ArbEventDone (f s.ca) s (arbEvent f s) := by
  have hpo := arbEvent_plantOnly f s
  have hev : arbEvent f s = Zone.all.foldl (handHeld s.ca) (handTotals
      (if (f s.ca).reclaimed then raise .reclaim (if (f s.ca).preempted then raise .preempt (s.setCa (f s.ca).arb) else s.setCa (f s.ca).arb)
        else if (f s.ca).preempted then raise .preempt (s.setCa (f s.ca).arb) else s.setCa (f s.ca).arb)) := rfl
  have hf := (raiseIf_flagsOnly (f s.ca).preempted .preempt (s.setCa (f s.ca).arb)).trans (raiseIf_flagsOnly (f s.ca).reclaimed .reclaim _)
  rw [hev] at hpo ⊢
  generalize f s.ca = r at *
  generalize (if r.reclaimed then raise .reclaim (if r.preempted then raise .preempt (s.setCa r.arb) else s.setCa r.arb)
    else if r.preempted then raise .preempt (s.setCa r.arb) else s.setCa r.arb) = s3 at *
  obtain ⟨ca, la, cs, hs, apc, enabled, flags⟩ := hf
  have hd := foldl_handHeld s.ca Zone.all (handTotals s3)
  have hca : (handTotals s3).ca = r.arb := ca
  have hla : (handTotals s3).la = s.la := la
  have hapc : (handTotals s3).apc = s.apc := apc
  refine ⟨hpo, hd.ca.trans hca, hd.cs.trans ?_, hd.hs.trans ?_, ?_, ?_, fun z => ?_, ?_, ?_⟩
  · show { s3.cs with wantedTotal := s3.ca.wantedTotal .cool, sccShort := isShort (s3.ca.entry .scc) } = _
    rw [cs, ca]; rfl
  · show { s3.hs with wantedTotal := s3.ca.wantedTotal .heat } = _
    rw [hs, ca]; rfl
  · rw [← hla]; exact hd.la
  · rw [← hapc]; exact hd.apc
  · obtain ⟨v, he⟩ := hd.blower z
    refine ⟨v, he.trans ?_⟩
    have hb : (handTotals s3).blower z = s.blower z := congrArg (fun a => a.blowers.get z) hapc
    simp only [hca, hb, mem_zone_all, true_and]
  · rw [hd.hlu]; exact enabled
  · rw [hd.hlu]; exact flags

end Sys2Proof.Machine

namespace Sys2Proof.Machine

/-! ## What the laws of the arbiter and its hand-offs read of a state -/

/-- The capacity that a sequencer derives for its pool (R69, R71). -/
def plantCapacity (s : State) : TokenKind → Nat
  | .cool => coolCapacityOf s.cs
  | .heat => heatCapacityOf s.hs

/-- The arbiter and what it holds of zones, blowers and sequencers is as it was; the running plant may have changed. -/
structure BooksUntouched (s t : State) : Prop where
  ca : t.ca = s.ca
  active : t.scm.active = s.scm.active
  requests : ∀ z, (t.zone z).reqKind = (s.zone z).reqKind ∧ (t.zone z).wanted = (s.zone z).wanted
  held : ∀ z, (t.blower z).held = (s.blower z).held
  coolTotal : t.cs.wantedTotal = s.cs.wantedTotal
  sccShort : t.cs.sccShort = s.cs.sccShort
  heatTotal : t.hs.wantedTotal = s.hs.wantedTotal

/-- The running plant gives the pools the capacities it gave, too. -/
structure Untouched (s t : State) : Prop extends BooksUntouched s t where
  plant : ∀ k, plantCapacity t k = plantCapacity s k

theorem BooksUntouched.trans {s t u : State} (h : BooksUntouched s t) (k : BooksUntouched t u) : BooksUntouched s u :=
  ⟨k.1.trans h.1, k.2.trans h.2, fun z => ⟨(k.3 z).1.trans (h.3 z).1, (k.3 z).2.trans (h.3 z).2⟩, fun z => (k.4 z).trans (h.4 z),
    k.5.trans h.5, k.6.trans h.6, k.7.trans h.7⟩

theorem Untouched.refl (s : State) : Untouched s s := ⟨⟨rfl, rfl, fun _ => ⟨rfl, rfl⟩, fun _ => rfl, rfl, rfl, rfl⟩, fun _ => rfl⟩

/-- Blocks that the laws do not read may change. -/
theorem Untouched.of_blocks {s t : State} (hca : t.ca = s.ca) (hscm : t.scm.active = s.scm.active) (hzc : t.zc = s.zc)
    (hapc : t.apc = s.apc) (hcs : t.cs = s.cs) (hhs : t.hs = s.hs) : Untouched s t :=
  ⟨⟨hca, hscm, fun z => by simp only [State.zone, hzc]; exact ⟨trivial, trivial⟩, fun z => by simp only [State.blower, hapc],
    by rw [hcs], by rw [hcs], by rw [hhs]⟩, fun k => by simp only [plantCapacity, hcs, hhs]⟩

theorem Untouched.trans {s t u : State} (h : Untouched s t) (k : Untouched t u) : Untouched s u :=
  ⟨h.1.trans k.1, fun j => (k.2 j).trans (h.2 j)⟩

theorem Untouched.ite {s t u : State} {c : Prop} [Decidable c] (h : Untouched s t) (k : Untouched s u) :
    Untouched s (if c then t else u) := by
  split <;> assumption

theorem Untouched.foldl {α : Type} {f : State → α → State} (h : ∀ s x, Untouched s (f s x)) (l : List α) (s : State) :
    Untouched s (l.foldl f s) := by
  induction l generalizing s with
  | nil => exact .refl s
  | cons x rest ih => exact (h s x).trans (ih _)

/-! ### Updates of one block -/

theorem setLa_untouched (s : State) (v : LoadAccount) : Untouched s (s.setLa v) :=
  .of_blocks rfl rfl rfl rfl rfl rfl
theorem setHlu_untouched (s : State) (v : HostLink) : Untouched s (s.setHlu v) :=
  .of_blocks rfl rfl rfl rfl rfl rfl
theorem setPsc_untouched (s : State) (v : PowerCtl) : Untouched s (s.setPsc v) :=
  .of_blocks rfl rfl rfl rfl rfl rfl
theorem setPins_untouched (s : State) (v : Pins) : Untouched s (s.setPins v) :=
  .of_blocks rfl rfl rfl rfl rfl rfl
theorem setSsu_untouched (s : State) (v : Channels) : Untouched s (s.setSsu v) :=
  .of_blocks rfl rfl rfl rfl rfl rfl
theorem setPs_untouched (s : State) (v : ProfileStore) : Untouched s (s.setPs v) :=
  .of_blocks rfl rfl rfl rfl rfl rfl
theorem setPending_untouched (s : State) (v : List Instr) : Untouched s (s.setPending v) :=
  .of_blocks rfl rfl rfl rfl rfl rfl
theorem setPartTime_untouched (s : State) (v : Nat) : Untouched s (s.setPartTime v) :=
  .of_blocks rfl rfl rfl rfl rfl rfl
theorem setFreeCount_untouched (s : State) (v : Nat) : Untouched s (s.setFreeCount v) :=
  .of_blocks rfl rfl rfl rfl rfl rfl
theorem raise_untouched (f : Flag) (s : State) : Untouched s (raise f s) :=
  .of_blocks rfl rfl rfl rfl rfl rfl

theorem setScm_untouched {s : State} {v : ScreenMonitor} (h : v.active = s.scm.active) : Untouched s (s.setScm v) :=
  ⟨⟨rfl, h, fun _ => ⟨rfl, rfl⟩, fun _ => rfl, rfl, rfl, rfl⟩, fun _ => rfl⟩

theorem setZc_untouched {s : State} {v : ZoneCtl}
    (h : ∀ z, (v.zones.get z).reqKind = (s.zone z).reqKind ∧ (v.zones.get z).wanted = (s.zone z).wanted) : Untouched s (s.setZc v) :=
  ⟨⟨rfl, rfl, h, fun _ => rfl, rfl, rfl, rfl⟩, fun _ => rfl⟩

theorem State.zone_setZone (s : State) (z y : Zone) (r : ZoneRec) : (s.setZone z r).zone y = if y = z then r else s.zone y := by
  split
  next h => rw [h, zone_setZone_self]
  next h => exact s.zone_setZone_of_ne r h

/-- A zone record changed in anything but its request. -/
theorem setZone_untouched {s : State} {z : Zone} {r : ZoneRec} (h : r.reqKind = (s.zone z).reqKind ∧ r.wanted = (s.zone z).wanted) :
    Untouched s (s.setZone z r) :=
  setZc_untouched fun y => by
    have hy := s.zone_setZone z y r
    simp only [State.zone, State.setZone, State.setZc_zc] at hy h ⊢
    rw [hy]
    split
    next e => exact e ▸ h
    next => exact ⟨rfl, rfl⟩

theorem setApc_untouched {s : State} {v : AirPath} (h : ∀ z, (v.blowers.get z).held = (s.blower z).held) : Untouched s (s.setApc v) :=
  ⟨⟨rfl, rfl, fun _ => ⟨rfl, rfl⟩, h, rfl, rfl, rfl⟩, fun _ => rfl⟩

theorem setBlower_untouched {s : State} {z : Zone} {r : BlowerRec} (h : r.held = (s.blower z).held) :
    Untouched s (s.setBlower z r) :=
  setApc_untouched fun y => by
    have hy := s.blower_setBlower z y r
    simp only [State.blower, State.setBlower, State.setApc_apc] at hy h ⊢
    rw [hy]
    split
    next e => exact e ▸ h
    next => rfl

theorem setCs_books {s : State} {v : Cooling} (hw : v.wantedTotal = s.cs.wantedTotal) (hs : v.sccShort = s.cs.sccShort) :
    BooksUntouched s (s.setCs v) :=
  ⟨rfl, rfl, fun _ => ⟨rfl, rfl⟩, fun _ => rfl, hw, hs, rfl⟩

theorem setCs_untouched {s : State} {v : Cooling} (hw : v.wantedTotal = s.cs.wantedTotal) (hs : v.sccShort = s.cs.sccShort)
    (hc : coolCapacityOf v = coolCapacityOf s.cs) : Untouched s (s.setCs v) :=
  ⟨setCs_books hw hs, fun k => by
    cases k with
    | cool => exact hc
    | heat => rfl⟩

theorem setComp_books (s : State) (c : Comp) (r : CompRec) : BooksUntouched s (s.setComp c r) := setCs_books rfl rfl

/-- A compressor record changed in what adds nothing to its contribution (R69). -/
theorem setComp_untouched {s : State} {c : Comp} {r : CompRec} (h : contribution r = contribution (s.comp c)) :
    Untouched s (s.setComp c r) :=
  setCs_untouched rfl rfl (by
    cases c with
    | a => exact congrArg (· + contribution s.cs.comps.b) h
    | b => exact congrArg (contribution s.cs.comps.a + ·) h)

theorem setHs_books {s : State} {v : Heating} (hw : v.wantedTotal = s.hs.wantedTotal) : BooksUntouched s (s.setHs v) :=
  ⟨rfl, rfl, fun _ => ⟨rfl, rfl⟩, fun _ => rfl, rfl, rfl, hw⟩

theorem setHs_untouched {s : State} {v : Heating} (hw : v.wantedTotal = s.hs.wantedTotal) (hp : v.pump = s.hs.pump)
    (hb : v.band = s.hs.band) : Untouched s (s.setHs v) :=
  ⟨setHs_books hw, fun k => by
    cases k with
    | cool => rfl
    | heat => simp [plantCapacity, heatCapacityOf, hp, hb]⟩

/-! ### Loads and blowers -/

theorem restoreAttempt_untouched (s : State) : Untouched s (restoreAttempt s) := by
  obtain ⟨k, -, he⟩ := restoreAttempt_stack s
  rw [he]
  exact setLa_untouched s _

theorem restoreIfFell_untouched (n : Nat) (s : State) : Untouched s (restoreIfFell n s) := by
  obtain ⟨k, -, he⟩ := restoreIfFell_stack n s
  rw [he]
  exact setLa_untouched s _

theorem computeBlower_untouched (z : Zone) (s : State) : Untouched s (computeBlower z s) := by
  obtain ⟨k, v, -, he⟩ := computeBlower_cases z s
  rw [he]
  refine Untouched.trans (setBlower_untouched ?_) (setLa_untouched _ _)
  rfl

theorem computeAllBlowers_untouched (s : State) : Untouched s (computeAllBlowers s) :=
  .foldl (fun s z => computeBlower_untouched z s) _ s

theorem handMode_untouched (z : Zone) (s : State) : Untouched s (handMode z s) := by
  obtain ⟨k, v, -, he⟩ := handMode_cases z s
  rw [he]
  refine Untouched.trans (setBlower_untouched ?_) (setLa_untouched _ _)
  rfl

theorem workDampers_untouched (b : Bool) (s : State) : Untouched s (workDampers b s) := setApc_untouched fun _ => rfl

theorem dampersToFreshMin_untouched (s : State) : Untouched s (dampersToFreshMin s) := setApc_untouched fun _ => rfl

theorem applyFreshMin_untouched (s : State) : Untouched s (applyFreshMin s) :=
  .ite (workDampers_untouched false s) (dampersToFreshMin_untouched s)

/-! ## The laws, with the capacities last reported -/

/-- The hand-offs but for the pools' (R17, R47, R48, R55, R58). -/
structure Handed (s : State) : Prop where
  requests : ∀ z, (s.ca.entry (.zone z)).kind = (s.zone z).reqKind ∧ (s.ca.entry (.zone z)).wanted = (s.zone z).wanted
  held : ∀ z, (s.blower z).held = (s.ca.entry (.zone z)).held
  coolTotal : s.cs.wantedTotal = s.ca.wantedTotal .cool
  heatTotal : s.hs.wantedTotal = s.ca.wantedTotal .heat
  sccShort : s.cs.sccShort = isShort (s.ca.entry .scc)

/-- The arbiter is lawful, and where `full` is asked for its hand-offs stand, its pools having the capacities `cap`. Between a change of
the plant and its report these are not yet those of the plant. -/
structure ArbiterStands (full : Bool) (cap : TokenKind → Nat) (s : State) : Prop where
  books : BooksLawful s.ca
  pools : poolsLawful s.ca
  screen : screenEntriesLawful s
  handed : full = true → Handed s
  reported : full = true → ∀ k, s.ca.capacity k = cap k

/-- All laws of the arbiter, and with `full` those of the hand-offs. -/
def Lawful (full : Bool) (s : State) : Prop := ArbiterStands full (plantCapacity s) s

theorem lawful_false_iff (s : State) : Lawful false s ↔ arbiterLawful s := by
  constructor
  · intro h
    exact ⟨h.books.orders, h.books.table, h.pools, h.books.queue, h.screen⟩
  · rintro ⟨ho, ht, hp, hq, hs⟩
    exact ⟨⟨ho, ht, hq⟩, hp, hs, nofun, nofun⟩

theorem lawful_true_iff (s : State) : Lawful true s ↔ arbiterLawful s ∧ handoffsLawful s := by
  constructor
  · intro h
    obtain ⟨hreq, hheld, hc, hh, hs⟩ := h.handed rfl
    exact ⟨(lawful_false_iff s).1 ⟨h.books, h.pools, h.screen, nofun, nofun⟩,
      fun z => ⟨(hreq z).1, (hreq z).2, hheld z⟩, ⟨h.reported rfl .cool, h.reported rfl .heat⟩, hc, hh, hs⟩
  · rintro ⟨ha, hz, ⟨hcool, hheat⟩, hc, hh, hs⟩
    have h := (lawful_false_iff s).2 ha
    refine ⟨h.books, h.pools, h.screen, fun _ => ⟨fun z => ⟨(hz z).1, (hz z).2.1⟩, fun z => (hz z).2.2, hc, hh, hs⟩, fun _ k => ?_⟩
    cases k with
    | cool => exact hcool
    | heat => exact hheat

theorem ArbiterStands.of_books {full : Bool} {cap : TokenKind → Nat} {s t : State} (h : ArbiterStands full cap s)
    (k : BooksUntouched s t) : ArbiterStands full cap t := by
  obtain ⟨hb, hp, hs, hh, hr⟩ := h
  obtain ⟨kca, kactive, kreq, kheld, kc, kscc, kh⟩ := k
  refine ⟨by rw [kca]; exact hb, by rw [kca]; exact hp, by simp only [screenEntriesLawful, kca, kactive]; exact hs, fun hf => ?_,
    fun hf => by rw [kca]; exact hr hf⟩
  obtain ⟨hreq, hheld, hc, hhe, hscc⟩ := hh hf
  exact ⟨fun z => by rw [kca, (kreq z).1, (kreq z).2]; exact hreq z, fun z => by rw [kca, kheld z]; exact hheld z, by rw [kca, kc]; exact hc,
    by rw [kca, kh]; exact hhe, by rw [kca, kscc]; exact hscc⟩

theorem Lawful.of_untouched {full : Bool} {s t : State} (h : Lawful full s) (k : Untouched s t) : Lawful full t := by
  have := ArbiterStands.of_books h k.1
  rwa [Lawful, funext k.plant]

theorem Lawful.ite {full : Bool} {t u : State} {c : Prop} [Decidable c] (h : Lawful full t) (k : Lawful full u) :
    Lawful full (if c then t else u) := by
  split <;> assumption

theorem Lawful.foldl {full : Bool} {α : Type} {f : State → α → State} (hf : ∀ s x, Lawful full s → Lawful full (f s x)) (l : List α)
    {s : State} (h : Lawful full s) : Lawful full (l.foldl f s) := by
  induction l generalizing s with
  | nil => exact h
  | cons x rest ih => exact ih (hf s x h)

/-! ## Arbiter events -/

theorem ArbEventDone.plant {r : ArbResult} {s t : State} (h : ArbEventDone r s t) (k : TokenKind) :
    plantCapacity t k = plantCapacity s k := by
  cases k with
  | cool => simp only [plantCapacity, h.cs]; rfl
  | heat => simp only [plantCapacity, h.hs]; rfl

/-- An arbiter event leaves the blowers with the tokens that its result holds (R55). -/
theorem ArbEventDone.held {r : ArbResult} {s t : State} (h : ArbEventDone r s t)
    (hheld : ∀ z, (s.blower z).held = (s.ca.entry (.zone z)).held) (z : Zone) : (t.blower z).held = (t.ca.entry (.zone z)).held := by
  obtain ⟨v, hb⟩ := h.blower z
  rw [hb, h.ca]
  dsimp only
  split
  · rfl
  next he => rw [hheld z, not_not.1 he]

/-- An arbiter event hands on what its result holds, where the zones' records ask what the result has of them. -/
theorem ArbEventDone.handed {r : ArbResult} {s t : State} (h : ArbEventDone r s t)
    (hheld : ∀ z, (s.blower z).held = (s.ca.entry (.zone z)).held)
    (hreq : ∀ z, (r.arb.entry (.zone z)).kind = (s.zone z).reqKind ∧ (r.arb.entry (.zone z)).wanted = (s.zone z).wanted) :
    Handed t := by
  have hz : ∀ z, t.zone z = s.zone z := fun z => congrArg (fun c => c.zones.get z) h.zc
  exact ⟨fun z => by rw [h.ca, hz]; exact hreq z, h.held hheld, by rw [h.cs, h.ca], by rw [h.hs, h.ca], by rw [h.cs, h.ca]⟩

/-- An arbiter event keeps the laws: its result is lawful, agrees with screen clear and the zones' records, and has the capacities `cap`. -/
theorem arbEvent_stands {full : Bool} {cap : TokenKind → Nat} {f : Arbiter → ArbResult} {s : State}
    (hl : BooksLawful (f s.ca).arb ∧ poolsLawful (f s.ca).arb)
    (hs : ((f s.ca).arb.entry .scc).wanted = screenWanted s.scm.active ∧ ((f s.ca).arb.entry .sch).wanted = screenWanted s.scm.active)
    (hheld : full = true → ∀ z, (s.blower z).held = (s.ca.entry (.zone z)).held)
    (hreq : full = true → ∀ z, ((f s.ca).arb.entry (.zone z)).kind = (s.zone z).reqKind ∧
      ((f s.ca).arb.entry (.zone z)).wanted = (s.zone z).wanted)
    (hcap : full = true → ∀ k, (f s.ca).arb.capacity k = cap k) : ArbiterStands full cap (arbEvent f s) := by
  have hd := arbEvent_done f s
  refine ⟨by rw [hd.ca]; exact hl.1, by rw [hd.ca]; exact hl.2, ?_, fun hf => hd.handed (hheld hf) (hreq hf), fun hf => ?_⟩
  · rw [screenEntriesLawful, hd.ca, hd.scm]
    exact hs
  · rw [hd.ca]
    exact hcap hf

/-- An arbiter event that moves tokens alone keeps the laws. -/
theorem arbEvent_lawful {full : Bool} {f : Arbiter → ArbResult}
    (hf : ∀ a, BooksLawful a → poolsLawful a → (BooksLawful (f a).arb ∧ poolsLawful (f a).arb) ∧ RequestsStand a (f a).arb) {s : State}
    (h : Lawful full s) : Lawful full (arbEvent f s) := by
  obtain ⟨hl, hr⟩ := hf s.ca h.books h.pools
  have hd := arbEvent_done f s
  rw [Lawful, funext hd.plant]
  refine arbEvent_stands hl ⟨(hr.request _).2.trans h.screen.1, (hr.request _).2.trans h.screen.2⟩ (fun t => (h.handed t).held)
    (fun t z => ?_) (fun t k => (hr.capacity k).trans (h.reported t k))
  rw [(hr.request _).1, (hr.request _).2]
  exact (h.handed t).requests z

/-- The laws but for what one zone's record and entry say of its request: between the zone's change and its hand-off. -/
structure LawfulBut (full : Bool) (z : Zone) (s : State) : Prop where
  books : BooksLawful s.ca
  pools : poolsLawful s.ca
  screen : screenEntriesLawful s
  requests : full = true → ∀ y, y ≠ z →
    (s.ca.entry (.zone y)).kind = (s.zone y).reqKind ∧ (s.ca.entry (.zone y)).wanted = (s.zone y).wanted
  held : full = true → ∀ y, (s.blower y).held = (s.ca.entry (.zone y)).held
  reported : full = true → ∀ k, s.ca.capacity k = plantCapacity s k

theorem Lawful.setZone_but {full : Bool} {s : State} (h : Lawful full s) (z : Zone) (r : ZoneRec) : LawfulBut full z (s.setZone z r) where
  books := h.books
  pools := h.pools
  screen := h.screen
  requests hf y hy := by
    rw [s.zone_setZone_of_ne r hy]
    exact (h.handed hf).requests y
  held hf := (h.handed hf).held
  reported hf k := (h.reported hf k).trans (by cases k <;> rfl)

theorem requestTokens_done (z : Zone) (k : ReqKind) (n : Nat) (s : State) :
    ArbEventDone (handRequest s.partTime z k n s.ca) s (requestTokens z k n s) := by
  unfold requestTokens
  exact arbEvent_done _ s

/-- A request handed to the arbiter leaves its zone's entry with it, and every other entry's request alone. -/
theorem requestTokens_entry {z : Zone} {k : ReqKind} {n : Nat} {s : State} (hr : requestFits k n) (hb : BooksLawful s.ca)
    (hp : poolsLawful s.ca) (i : EntryId) :
    ((requestTokens z k n s).ca.entry i).kind = (if i = .zone z then k else (s.ca.entry i).kind) ∧
      ((requestTokens z k n s).ca.entry i).wanted = if i = .zone z then n else (s.ca.entry i).wanted := by
  rw [(requestTokens_done z k n s).ca]
  have h := (handRequest_lawful s.partTime z hr hb hp).2.request i
  rw [Arbiter.entry_setEntry] at h
  split
  next hi => rwa [if_pos hi] at h
  next hi => rwa [if_neg hi] at h

theorem requestTokens_lawfulBut {full : Bool} {z : Zone} {k : ReqKind} {n : Nat} {s : State} (hr : requestFits k n)
    (h : LawfulBut full z s) : LawfulBut full z (requestTokens z k n s) := by
  obtain ⟨⟨hbooks, hpools⟩, hq⟩ := handRequest_lawful s.partTime z hr h.books h.pools
  have hd := requestTokens_done z k n s
  have he := requestTokens_entry (z := z) hr h.books h.pools
  generalize handRequest s.partTime z k n s.ca = r at *
  generalize requestTokens z k n s = t at *
  refine ⟨by rw [hd.ca]; exact hbooks, by rw [hd.ca]; exact hpools, ?_, fun hf y hy => ?_, fun hf => hd.held (h.held hf), fun hf j => ?_⟩
  · rw [screenEntriesLawful, (he .scc).2, (he .sch).2, if_neg (show EntryId.scc ≠ .zone z from nofun),
      if_neg (show EntryId.sch ≠ .zone z from nofun), hd.scm]
    exact h.screen
  · have hy' : EntryId.zone y ≠ .zone z := fun e => hy (EntryId.zone.inj e)
    rw [(he _).1, (he _).2, if_neg hy', if_neg hy', State.zone, hd.zc]
    exact h.requests hf y hy
  · rw [hd.plant, hd.ca, hq.capacity, ← h.reported hf j]
    cases j <;> rfl

/-- The request that a zone's record asks, handed to the arbiter, restores the laws (R17, R47, R48). -/
theorem requestTokens_lawful {full : Bool} {z : Zone} {k : ReqKind} {n : Nat} {s : State} (hr : requestFits k n)
    (hk : (s.zone z).reqKind = k) (hn : (s.zone z).wanted = n) (h : LawfulBut full z s) : Lawful full (requestTokens z k n s) := by
  have hb := requestTokens_lawfulBut hr h
  have he := requestTokens_entry (z := z) hr h.books h.pools (.zone z)
  have hd := requestTokens_done z k n s
  rw [if_pos rfl, if_pos rfl] at he
  generalize requestTokens z k n s = t at *
  refine ⟨hb.books, hb.pools, hb.screen, fun hf => ⟨fun y => ?_, hb.held hf, by rw [hd.cs, hd.ca], by rw [hd.hs, hd.ca],
    by rw [hd.cs, hd.ca]⟩, hb.reported⟩
  by_cases hy : y = z
  · rw [hy, he.1, he.2, State.zone, hd.zc]
    exact ⟨hk.symm, hn.symm⟩
  · exact hb.requests hf y hy

theorem withdraw_lawful {full : Bool} (z : Zone) {s : State} (h : Lawful full s) : Lawful full (withdraw z s) := by
  have hw := h.setZone_but z { s.zone z with integ := 0, demand := 0, reqKind := .none, wanted := 0 }
  unfold withdraw
  exact requestTokens_lawful requestFits_none (by rw [State.zone_setZone_self]) (by rw [State.zone_setZone_self]) hw

/-- Setting one record twice is setting it once. -/
theorem State.setZone_setZone (s : State) (z : Zone) (r r2 : ZoneRec) : (s.setZone z r).setZone z r2 = s.setZone z r2 := by
  cases z <;> rfl

end Sys2Proof.Machine

namespace Sys2Proof.Machine

/-! ## Capacity reports (R69, R71) -/

theorem reportPool_plant (k : TokenKind) (n : Nat) (s : State) (j : TokenKind) :
    plantCapacity (reportPool k n s) j = plantCapacity s j := by
  unfold reportPool
  split
  · rfl
  · exact (arbEvent_done _ s).plant j

/-- After a report the pool has the reported capacity, and the laws stand with it. -/
theorem reportPool_stands {full : Bool} {cap : TokenKind → Nat} {s : State} (h : ArbiterStands full cap s) (k : TokenKind) (n : Nat) :
    ArbiterStands full (Function.update cap k n) (reportPool k n s) := by
  unfold reportPool
  split
  next hk =>
    refine ⟨h.books, h.pools, h.screen, h.handed, fun hf j => ?_⟩
    by_cases hj : j = k
    · rw [hj, Function.update_self, hk]
    · rw [Function.update_of_ne hj, h.reported hf]
  next =>
    obtain ⟨hq, -⟩ := reportCapacity_stand s.partTime k n s.ca
    have he : ∀ i, ((reportCapacity s.partTime k n s.ca).arb.entry i).kind = (s.ca.entry i).kind ∧
        ((reportCapacity s.partTime k n s.ca).arb.entry i).wanted = (s.ca.entry i).wanted := fun i => by
      have := hq.request i
      rwa [Arbiter.entry_setCapacity] at this
    refine arbEvent_stands (reportCapacity_lawful s.partTime k n h.books h.pools)
      ⟨(he _).2.trans h.screen.1, (he _).2.trans h.screen.2⟩ (fun hf => (h.handed hf).held) (fun hf z => ?_) (fun hf j => ?_)
    · rw [(he _).1, (he _).2]
      exact (h.handed hf).requests z
    · rw [hq.capacity, Arbiter.capacity_setCapacity]
      by_cases hj : j = k
      · rw [if_pos hj, hj, Function.update_self]
      · rw [if_neg hj, Function.update_of_ne hj, h.reported hf]

/-- The plant behind one pool has changed, and the report of its capacity restores the laws. -/
theorem Lawful.report {full : Bool} {s t : State} (h : Lawful full s) (b : BooksUntouched s t) (k : TokenKind)
    (hp : ∀ j, j ≠ k → plantCapacity t j = plantCapacity s j) : Lawful full (reportPool k (plantCapacity t k) t) := by
  have hr := reportPool_stands (ArbiterStands.of_books h b) k (plantCapacity t k)
  have hcap : Function.update (plantCapacity s) k (plantCapacity t k) = plantCapacity (reportPool k (plantCapacity t k) t) := by
    funext j
    rw [reportPool_plant]
    by_cases hj : j = k
    · rw [hj, Function.update_self]
    · rw [Function.update_of_ne hj, hp j hj]
  rwa [Lawful, ← hcap]

/-- The cooling plant has changed, and the Cooling Sequencer reports (R69). -/
theorem Lawful.reportCool {full : Bool} {s t : State} (h : Lawful full s) (b : BooksUntouched s t) (hh : t.hs = s.hs) :
    Lawful full (reportCool t) :=
  h.report b .cool fun j hj => by
    cases j with
    | cool => exact absurd rfl hj
    | heat => simp only [plantCapacity, hh]

/-- The heating plant has changed, and the Heating Sequencer reports (R71). -/
theorem Lawful.reportHeat {full : Bool} {s t : State} (h : Lawful full s) (b : BooksUntouched s t) (hc : t.cs = s.cs) :
    Lawful full (reportHeat t) :=
  h.report b .heat fun j hj => by
    cases j with
    | cool => simp only [plantCapacity, hc]
    | heat => exact absurd rfl hj

/-! ## Stop orders and shedding (R84 to R87, R96, R122) -/

theorem stopHeater_plant (now : Nat) (h : Heating) :
    (stopHeater now h).pump = h.pump ∧ (stopHeater now h).band = h.band ∧ (stopHeater now h).wantedTotal = h.wantedTotal := by
  unfold stopHeater
  split <;> exact ⟨rfl, rfl, rfl⟩

theorem stopPump_wantedTotal (now : Nat) (h : Heating) : (stopPump now h).wantedTotal = h.wantedTotal :=
  (stopHeater_plant now { h with pump := false }).2.2

/-- A stop request to the heater leaves the arbiter and its pools alone. -/
theorem setHs_stopHeater_untouched (s : State) (now : Nat) : Untouched s (s.setHs (stopHeater now s.hs)) :=
  setHs_untouched (stopHeater_plant now s.hs).2.2 (stopHeater_plant now s.hs).1 (stopHeater_plant now s.hs).2.1

/-- The capacities after a list of reports. -/
def capacitiesAfter (cap : TokenKind → Nat) (l : List (TokenKind × Nat)) : TokenKind → Nat :=
  l.foldl (fun cap c => Function.update cap c.1 c.2) cap

/-- A shed leaves the arbiter alone, and the reports that it makes due tell what it did to the plant (R86). -/
theorem shedItem_reports (i : LoadItem) (s : State) :
    BooksUntouched s (shedItem i s) ∧ capacitiesAfter (plantCapacity s) (shedReports i (shedItem i s)) = plantCapacity (shedItem i s) := by
  have hpush : ∀ v, Untouched s (raise .shed (s.setLa v)) := fun v => (setLa_untouched s v).trans (raise_untouched .shed _)
  cases i with
  | comp c =>
    refine ⟨(hpush _).1.trans (setComp_books _ c _), ?_⟩
    funext j
    cases j with
    | cool => rfl
    | heat => rfl
  | pump =>
    refine ⟨(hpush _).1.trans (setHs_books (stopPump_wantedTotal s.partTime s.hs)), ?_⟩
    funext j
    cases j with
    | cool => rfl
    | heat => rfl
  | heater =>
    have h := (hpush { s.la with stack := ⟨.heater, s.partTime⟩ :: s.la.stack }).trans (setHs_stopHeater_untouched _ s.partTime)
    exact ⟨h.1, (funext h.plant).symm⟩
  | blower z =>
    have h := (hpush { s.la with stack := ⟨.blower z, s.partTime⟩ :: s.la.stack }).trans
      (setBlower_untouched (z := z) (r := { s.blower z with speed := s.apc.ventMin }) rfl)
    exact ⟨h.1, (funext h.plant).symm⟩

theorem BooksUntouched.refl (s : State) : BooksUntouched s s := (Untouched.refl s).1

theorem shedLoop_reports (n : Nat) (s : State) :
    BooksUntouched s (shedLoop n s).1 ∧ capacitiesAfter (plantCapacity s) (shedLoop n s).2 = plantCapacity (shedLoop n s).1 := by
  induction n generalizing s with
  | zero => exact ⟨.refl s, rfl⟩
  | succ n ih =>
    unfold shedLoop
    split
    · exact ⟨.refl s, rfl⟩
    · split
      · exact ⟨.refl s, rfl⟩
      next i _ =>
        obtain ⟨hb, hc⟩ := shedItem_reports i s
        obtain ⟨hb2, hc2⟩ := ih (shedItem i s)
        refine ⟨hb.trans hb2, ?_⟩
        rw [← hc2, ← hc]
        exact List.foldl_append

theorem foldl_reportPool_stands {full : Bool} (l : List (TokenKind × Nat)) {cap : TokenKind → Nat} {s : State}
    (h : ArbiterStands full cap s) :
    ArbiterStands full (capacitiesAfter cap l) (l.foldl (fun s c => reportPool c.1 c.2 s) s) ∧
      plantCapacity (l.foldl (fun s c => reportPool c.1 c.2 s) s) = plantCapacity s := by
  induction l generalizing cap s with
  | nil => exact ⟨h, rfl⟩
  | cons c rest ih =>
    obtain ⟨h1, h2⟩ := ih (reportPool_stands h c.1 c.2)
    exact ⟨h1, h2.trans (funext (reportPool_plant c.1 c.2 s))⟩

/-- Shedding, with the reports that follow it, keeps the laws (R84, R86). -/
theorem shedTest_lawful {full : Bool} {s : State} (h : Lawful full s) : Lawful full (shedTest s) := by
  obtain ⟨hb, hc⟩ := shedLoop_reports 10 s
  obtain ⟨h1, h2⟩ := foldl_reportPool_stands (shedLoop 10 s).2 (ArbiterStands.of_books h hb)
  rw [hc] at h1
  unfold shedTest Lawful
  dsimp only
  rw [h2]
  exact h1

/-! ## Cooling Sequencer -/

theorem setComp_hs (s : State) (c : Comp) (r : CompRec) : (s.setComp c r).hs = s.hs := rfl

theorem unloadComp_lawful {full : Bool} (c : Comp) {s : State} (h : Lawful full s) : Lawful full (unloadComp c s) :=
  h.reportCool (setComp_books s c _) rfl

theorem tripComp_lawful {full : Bool} (c : Comp) {s : State} (h : Lawful full s) : Lawful full (tripComp c s) := by
  have h1 := (setComp_books s c (tripRec s.partTime (s.comp c))).trans (raise_untouched .compTrip _).1
  have hflag : ∀ t : State, Untouched t (if (tripRec s.partTime (s.comp c)).state = .lockout then raise .compLock t else t) := fun t =>
    .ite (raise_untouched .compLock t) (.refl t)
  have h2 := h1.trans ((hflag _).trans (restoreIfFell_untouched (committedLoad s) _)).1
  refine h.reportCool h2 ?_
  obtain ⟨k, -, he⟩ := restoreIfFell_stack (committedLoad s) (if (tripRec s.partTime (s.comp c)).state = .lockout then
    raise .compLock (raise .compTrip (s.setComp c (tripRec s.partTime (s.comp c)))) else
    raise .compTrip (s.setComp c (tripRec s.partTime (s.comp c))))
  rw [he]
  split <;> rfl

theorem throttleComp_lawful {full : Bool} (c : Comp) {s : State} (h : Lawful full s) : Lawful full (throttleComp c s) :=
  .ite (h.reportCool (setComp_books s c _) rfl) h

theorem contribution_chargeRec (now : Nat) (v : Option Int) (r : CompRec) : contribution (chargeRec now v r) = contribution r := by
  unfold chargeRec
  split
  · split <;> rfl
  · rfl

theorem protectComp_lawful {full : Bool} (c : Comp) (low throttles failed : Bool) {s : State} (h : Lawful full s) :
    Lawful full (protectComp c low throttles failed s) := by
  have h1 : Lawful full (if low then s.setComp c (chargeRec s.partTime (lowUsed s c) (s.comp c)) else s) :=
    .ite (h.of_untouched (setComp_untouched (contribution_chargeRec _ _ _))) h
  exact .ite (tripComp_lawful c h1) (.ite (throttleComp_lawful c h1) h1)

theorem askStart_lawful {full : Bool} (c : Comp) {s : State} (hs : (s.comp c).state ≠ .running) (h : Lawful full s) :
    Lawful full (askStart c s) := by
  have h0 : contribution (startRec s.partTime (s.comp c)) = contribution (s.comp c) := by
    generalize s.comp c = r at hs
    obtain ⟨st, _⟩ := r
    cases st with
    | running => exact absurd rfl hs
    | _ => rfl
  exact .ite (h.of_untouched (setComp_untouched h0)) (h.of_untouched (setComp_untouched rfl))

theorem refuseStart_untouched (c : Comp) (k : StartCondition) (s : State) : Untouched s (refuseStart c k s) := by
  have h : Untouched s (s.setComp c { s.comp c with reason := some k, episodeOpen := true }) := setComp_untouched rfl
  exact .ite (.ite h (h.trans (raise_untouched _ _))) (setComp_untouched rfl)

/-- A startable compressor stands in Off (R98). -/
theorem state_off_of_firstFailing {s : State} {c : Comp} (h : firstFailing s c = none) : (s.comp c).state = .off := by
  have := List.find?_eq_none.1 h .state (by decide)
  simpa [conditionHolds] using this

theorem askStart_of_startable {full : Bool} {c : Comp} {s : State} (hs : firstFailing s c = none) (h : Lawful full s) :
    Lawful full (askStart c s) :=
  askStart_lawful c (by rw [state_off_of_firstFailing hs]; decide) h

theorem tryStarts_lawful {full : Bool} {s : State} (h : Lawful full s) : Lawful full (tryStarts s) := by
  unfold tryStarts
  split
  next ha => exact askStart_of_startable ha h
  next k _ =>
    have h1 := h.of_untouched (refuseStart_untouched .a k s)
    dsimp only
    split
    next hb => exact askStart_of_startable hb h1
    next => exact h1.of_untouched (refuseStart_untouched .b _ _)

theorem releaseTripped_lawful {full : Bool} (c : Comp) {s : State} (h : Lawful full s) : Lawful full (releaseTripped c s) := by
  unfold releaseTripped
  split
  next ht =>
    refine h.of_untouched (setComp_untouched ?_)
    simp only [tripOver, Bool.and_eq_true, beq_iff_eq] at ht
    obtain ⟨⟨hst, -⟩, -⟩ := ht
    simp [contribution, hst]
  next => exact h

theorem stopDisabled_lawful {full : Bool} (c : Comp) {s : State} (h : Lawful full s) : Lawful full (stopDisabled c s) :=
  .ite (unloadComp_lawful c h) h

theorem stagingStop_lawful {full : Bool} (c : Comp) {s : State} (h : Lawful full s) : Lawful full (stagingStop c s) :=
  .ite ((unloadComp_lawful c h).of_untouched (setCs_untouched rfl rfl rfl)) h

theorem stopForSurplus_lawful {full : Bool} {s : State} (h : Lawful full s) : Lawful full (stopForSurplus s) := by
  unfold stopForSurplus
  refine .ite ?_ h
  split
  · exact stagingStop_lawful _ h
  · exact h

theorem stopForIdle_lawful {full : Bool} {s : State} (h : Lawful full s) : Lawful full (stopForIdle s) :=
  .ite (stagingStop_lawful .b (stagingStop_lawful .a h)) h

theorem stagingUpdate_lawful {full : Bool} {s : State} (h : Lawful full s) : Lawful full (stagingUpdate s) := by
  have h1 := h.of_untouched (t := s.setCs { s.cs with comps := s.cs.comps.map (ageRec s.partTime), checkedAt := some s.partTime })
    (setCs_untouched rfl rfl rfl)
  have trip : ∀ (c : Comp) (t : State), Lawful full t → Lawful full (if chargeTrip t c then tripComp c t else t) := fun c t ht =>
    .ite (tripComp_lawful c ht) ht
  exact releaseTripped_lawful .b (releaseTripped_lawful .a (trip .b _ (trip .a _ h1)))

theorem stagingStretches_untouched (s : State) : Untouched s (stagingStretches s) := by
  refine setCs_untouched rfl rfl ?_
  dsimp only [coolCapacityOf, PerComp.map]
  split <;> rfl

theorem stagingWork_lawful {full : Bool} {s : State} (h : Lawful full s) : Lawful full (stagingWork s) := by
  have h1 := (stagingUpdate_lawful h).of_untouched (stagingStretches_untouched _)
  have h2 := stopForIdle_lawful (stopForSurplus_lawful (stopDisabled_lawful .b (stopDisabled_lawful .a h1)))
  exact .ite (tryStarts_lawful h2) h2

/-! ## Heating Sequencer -/

theorem stopPumpNow_lawful {full : Bool} {s : State} (h : Lawful full s) : Lawful full (stopPumpNow s) := by
  refine .ite (h.reportHeat ?_ ?_) h
  · exact (setHs_books (stopPump_wantedTotal s.partTime s.hs)).trans (restoreIfFell_untouched _ _).1
  · obtain ⟨k, -, he⟩ := restoreIfFell_stack (committedLoad s) (s.setHs (stopPump s.partTime s.hs))
    rw [he]
    rfl

theorem pumpStart_lawful {full : Bool} {s : State} (h : Lawful full s) : Lawful full (pumpStart s) :=
  .ite (.ite (h.reportHeat (setHs_books rfl) rfl) (h.of_untouched (setHs_untouched rfl rfl rfl))) h

theorem pumpDecision_lawful {full : Bool} {s : State} (h : Lawful full s) : Lawful full (pumpDecision s) :=
  .ite (.ite (stopPumpNow_lawful h) h) (pumpStart_lawful h)

theorem latchStart_untouched (s : State) : Untouched s (latchStart s) := by
  unfold latchStart
  split
  · exact setHs_untouched rfl rfl rfl
  · exact setHs_untouched rfl rfl rfl
  all_goals exact .refl s

theorem heaterStart_untouched (s : State) : Untouched s (heaterStart s) :=
  .ite (.ite (.ite (setHs_untouched rfl rfl rfl) (setHs_untouched rfl rfl rfl)) (.refl s)) (setHs_untouched rfl rfl rfl)

theorem heaterDecision_untouched (s : State) : Untouched s (heaterDecision s) :=
  (Untouched.ite (setHs_stopHeater_untouched s s.partTime) (.refl s)).trans ((latchStart_untouched _).trans (heaterStart_untouched _))

theorem heatingWork_lawful {full : Bool} {s : State} (h : Lawful full s) : Lawful full (heatingWork s) := by
  have h1 := h.of_untouched (t := heatingStretches s) (setHs_untouched rfl rfl rfl)
  exact (pumpDecision_lawful h1).of_untouched (heaterDecision_untouched _)

theorem coolantSampled_lawful {full : Bool} (failed : Bool) {s : State} (h : Lawful full s) : Lawful full (coolantSampled failed s) := by
  have h1 := h.reportHeat (t := s.setHs { s.hs with band := bandAfter s.hs.band (coolantUsed s) }) (setHs_books rfl) rfl
  exact .ite (h1.of_untouched (setHs_stopHeater_untouched _ _)) h1

theorem windDownPump_lawful {full : Bool} {s : State} (h : Lawful full s) : Lawful full (windDownPump s) :=
  .ite (stopPumpNow_lawful h) h

theorem igniteAfterPurge_plant (now : Nat) (flame : Bool) (h : Heating) :
    (igniteAfterPurge now flame h).pump = h.pump ∧ (igniteAfterPurge now flame h).band = h.band ∧
      (igniteAfterPurge now flame h).wantedTotal = h.wantedTotal := by
  unfold igniteAfterPurge
  split <;> exact ⟨rfl, rfl, rfl⟩

theorem endPurge_lawful {full : Bool} {s : State} (h : Lawful full s) : Lawful full (endPurge s) := by
  obtain ⟨hp, hb, hw⟩ := igniteAfterPurge_plant s.partTime s.pins.flame s.hs
  refine .ite (h.of_untouched (setHs_untouched hw hp hb)) (windDownPump_lawful (h.of_untouched ?_))
  exact (setHs_untouched (v := enterOff s.partTime s.hs) rfl rfl rfl).trans (restoreIfFell_untouched _ _)

theorem enterLockout_untouched (s : State) : Untouched s (restoreIfFell (committedLoad s) (s.setHs (enterLockout s.partTime s.hs))) :=
  (setHs_untouched (v := enterLockout s.partTime s.hs) rfl rfl rfl).trans (restoreIfFell_untouched _ _)

theorem endIgnition_untouched (s : State) : Untouched s (endIgnition s) :=
  .ite (setHs_untouched rfl rfl rfl) ((enterLockout_untouched s).trans ((raise_untouched _ _).trans (raise_untouched _ _)))

theorem flameGoes_untouched (s : State) : Untouched s (flameGoes s) := by
  have hraise := raise_untouched .auxFault s
  have hlock : Untouched (raise .auxFault s) ((raise .auxFault s).setHs (enterLockout s.partTime s.hs)) := setHs_untouched rfl rfl rfl
  refine .ite (.ite (hraise.trans (setHs_untouched rfl rfl rfl)) ?_) (.refl s)
  exact hraise.trans (hlock.trans ((restoreIfFell_untouched _ _).trans (raise_untouched _ _)))

end Sys2Proof.Machine

namespace Sys2Proof.Machine

/-! ## Zone Controller -/

theorem takeMode_untouched (z : Zone) (m : OpMode) (s : State) : Untouched s (takeMode z m s) :=
  (setZone_untouched (z := z) (r := { s.zone z with opMode := m, timer := autoLength (s.zone z) }) ⟨rfl, rfl⟩).trans (handMode_untouched z _)

theorem enterStandby_lawful {full : Bool} (z : Zone) {s : State} (h : Lawful full s) : Lawful full (enterStandby z s) := by
  have h1 := h.of_untouched (t := s.setZone z { s.zone z with opMode := .standby, trim := 0, timer := 0 }) (setZone_untouched ⟨rfl, rfl⟩)
  exact .ite h ((withdraw_lawful z h1).of_untouched (handMode_untouched z _))

theorem applyHostMode_lawful {full : Bool} (z : Zone) {s : State} (h : Lawful full s) : Lawful full (applyHostMode z s) := by
  have hset : ∀ m t, Lawful full (s.setZone z { s.zone z with opMode := m, timer := t }) := fun m t =>
    h.of_untouched (setZone_untouched ⟨rfl, rfl⟩)
  have hleave : ∀ m t, Lawful full (handMode z (withdraw z (s.setZone z { s.zone z with opMode := m, timer := t }))) := fun m t =>
    (withdraw_lawful z (hset m t)).of_untouched (handMode_untouched z _)
  unfold applyHostMode
  refine .ite h ?_
  split
  · have h2 : Lawful full (if (s.zone z).opMode = .off ∨ (s.zone z).opMode = .vent then
        withdraw z (s.setZone z { s.zone z with opMode := .auto, timer := autoLength (s.zone z) }) else
        s.setZone z { s.zone z with opMode := .auto, timer := autoLength (s.zone z) }) := .ite (withdraw_lawful z (hset _ _)) (hset _ _)
    exact .ite h2 (h2.of_untouched (handMode_untouched z _))
  · exact .ite (hset _ _) (hleave _ _)
  · exact .ite (hset _ _) (hleave _ _)

theorem reloadEffect_untouched (z : Zone) (s : State) : Untouched s (reloadEffect z s) := by
  unfold reloadEffect
  dsimp only
  split
  · exact setZone_untouched ⟨rfl, rfl⟩
  · exact takeMode_untouched z _ s
  · exact .ite (takeMode_untouched z _ s) (.refl s)
  · exact .refl s
  · exact .refl s

theorem reloadEvent_lawful {full : Bool} (e : ReloadEvent) (z : Zone) {s : State} (h : Lawful full s) :
    Lawful full (reloadEvent e z s) :=
  .ite (shedTest_lawful (h.of_untouched (reloadEffect_untouched z s))) h

theorem holdTimer_request (r : ZoneRec) : (holdTimer r).reqKind = r.reqKind ∧ (holdTimer r).wanted = r.wanted := by
  unfold holdTimer
  split <;> exact ⟨rfl, rfl⟩

theorem seatCount_lawful {full : Bool} (z : Zone) (n : Nat) {s : State} (h : Lawful full s) : Lawful full (seatCount z n s) := by
  refine .ite h (reloadEvent_lawful .seat z (h.of_untouched (setZone_untouched ?_)))
  split
  · exact holdTimer_request _
  · exact ⟨rfl, rfl⟩

theorem enterSetback_untouched (z : Zone) (s : State) : Untouched s (enterSetback z s) := by
  have h : Untouched s (s.setZone z { s.zone z with opMode := .setback, timer := setbackLength (s.zone z) }) :=
    setZone_untouched ⟨rfl, rfl⟩
  exact h.trans ((raise_untouched .setback _).trans (handMode_untouched z _))

theorem loseSensor_lawful {full : Bool} (z : Zone) {s : State} (h : Lawful full s) : Lawful full (loseSensor z s) := by
  have h1 := h.of_untouched (t := s.setZone z { s.zone z with tempUsed := none }) (setZone_untouched ⟨rfl, rfl⟩)
  exact shedTest_lawful ((withdraw_lawful z h1).of_untouched (handMode_untouched z _))

theorem deriveSensor_lawful {full : Bool} (s : State) (z : Zone) (h : Lawful full s) : Lawful full (deriveSensor s z) := by
  have h1 := h.of_untouched (t := s.setZone z { s.zone z with sensor := sensorOf s.ssu z }) (setZone_untouched ⟨rfl, rfl⟩)
  exact .ite (loseSensor_lawful z h1) h1

theorem deriveSensors_lawful {full : Bool} {s : State} (h : Lawful full s) : Lawful full (deriveSensors s) :=
  .foldl deriveSensor_lawful _ h

/-! ### Zone evaluations (R9 to R18) -/

theorem demandOf_bounds (kp e integ : Int) : -1000 ≤ demandOf kp e integ ∧ demandOf kp e integ ≤ 1000 := by
  unfold demandOf clampInt
  split
  · omega
  · split <;> omega

theorem requestFits_wantedFor (k : ReqKind) {d : Int} (h : -1000 ≤ d ∧ d ≤ 1000) : requestFits k (wantedFor k d) := by
  cases k with
  | none => exact requestFits_none
  | cool => exact ⟨nofun, fun _ => ⟨le_max_left _ _, max_le (by decide) (by omega)⟩⟩
  | heat => exact ⟨nofun, fun _ => ⟨le_max_left _ _, max_le (by decide) (by omega)⟩⟩

theorem requestFits_evaluateRec (s : State) (z : Zone) : requestFits (evaluateRec s z).reqKind (evaluateRec s z).wanted := by
  unfold evaluateRec
  dsimp only
  split
  · exact requestFits_wantedFor _ (demandOf_bounds _ _ _)
  · exact requestFits_wantedFor _ (demandOf_bounds _ _ _)
  · exact requestFits_none

theorem requestTokens_zone (z : Zone) (k : ReqKind) (n : Nat) (s : State) (y : Zone) : (requestTokens z k n s).zone y = s.zone y := by
  rw [State.zone, (requestTokens_done z k n s).zc]
  rfl

theorem handOnRequest_lawful {full : Bool} {z : Zone} {before k : ReqKind} {n : Nat} {s : State} (hr : requestFits k n)
    (hk : (s.zone z).reqKind = k) (hn : (s.zone z).wanted = n) (h : LawfulBut full z s) : Lawful full (handOnRequest z before k n s) := by
  unfold handOnRequest
  dsimp only
  split
  · exact requestTokens_lawful hr (by rw [requestTokens_zone, hk]) (by rw [requestTokens_zone, hn])
      (requestTokens_lawfulBut requestFits_none h)
  · exact requestTokens_lawful hr hk hn h

theorem evaluateZone_lawful {full : Bool} (z : Zone) {s : State} (h : Lawful full s) : Lawful full (evaluateZone z s) := by
  have h1 : Lawful full (handOnRequest z (s.zone z).reqKind (evaluateRec s z).reqKind (evaluateRec s z).wanted
      (s.setZone z (evaluateRec s z))) :=
    handOnRequest_lawful (requestFits_evaluateRec s z) (by rw [State.zone_setZone_self]) (by rw [State.zone_setZone_self])
      (h.setZone_but z _)
  exact shedTest_lawful (h1.of_untouched (handMode_untouched z _))

/-! ## Screen Clear Monitor (R147, R148) -/

/-- The screen-clear entries follow screen clear, and with them the laws stand (R49). -/
theorem screenEvent_lawful {full active : Bool} {s : State} {m : ScreenMonitor} {s1 : State} {f : Arbiter → ArbResult} (h : Lawful full s)
    (hs1 : Untouched (s.setScm m) s1) (hm : m.active = active)
    (hl : BooksLawful (f s.ca).arb ∧ poolsLawful (f s.ca).arb) (hq : ScreenRequests (screenWanted active) s.ca (f s.ca).arb) :
    Lawful full (arbEvent f s1) := by
  have hd := arbEvent_done f s1
  have hca : s1.ca = s.ca := hs1.ca
  have hactive : s1.scm.active = active := hs1.active.trans hm
  rw [Lawful, funext hd.plant]
  refine arbEvent_stands (by rw [hca]; exact hl) ⟨by rw [hca, hq.scc, hactive], by rw [hca, hq.sch, hactive]⟩
    (fun hf z => ?_) (fun hf z => ?_) (fun hf k => ?_)
  · rw [hca]
    exact (hs1.held z).trans ((h.handed hf).held z)
  · rw [hca, (hq.zones z).1, (hq.zones z).2, (hs1.requests z).1, (hs1.requests z).2]
    exact (h.handed hf).requests z
  · rw [hca, hq.capacity, h.reported hf, hs1.plant]
    cases k <;> rfl

theorem assertScreen_lawful {full : Bool} {s : State} (hs : s.scm.active = false) (h : Lawful full s) :
    Lawful full (assertScreen s) := by
  obtain ⟨hc, hh⟩ := h.screen
  rw [hs] at hc hh
  obtain ⟨hl, hq⟩ := assertScreenEntries_lawful s.partTime h.books h.pools hc hh
  unfold assertScreen
  generalize hs1 : raise .screen (s.setScm _) = s1
  have hu : Untouched (s.setScm { s.scm with active := true, activeSince := some s.partTime, fog := 0 }) s1 :=
    hs1 ▸ raise_untouched .screen _
  have h1 := screenEvent_lawful (active := true) h hu rfl hl hq
  dsimp only
  generalize arbEvent (assertScreenEntries s.partTime) s1 = s2 at h1
  exact shedTest_lawful (h1.of_untouched (setApc_untouched fun _ => rfl))

theorem releaseScreen_lawful {full : Bool} {s : State} (h : Lawful full s) : Lawful full (releaseScreen s) := by
  obtain ⟨hl, hq⟩ := releaseScreenEntries_lawful s.partTime h.books h.pools
  have h1 := screenEvent_lawful (active := false) (m := { s.scm with active := false, activeSince := none }) h (.refl _) rfl hl hq
  exact (shedTest_lawful h1).of_untouched (restoreAttempt_untouched _)

theorem screenWork_lawful {full : Bool} {s : State} (h : Lawful full s) : Lawful full (screenWork s) := by
  have h1 := h.of_untouched (t := s.setScm (screenUpdate s)) (setScm_untouched rfl)
  unfold screenWork
  dsimp only
  split
  · exact .ite (releaseScreen_lawful h1) h1
  next ha => exact .ite (assertScreen_lawful (Bool.not_eq_true _ ▸ ha) h1) h1

/-! ## Power State Controller (R155 to R162) -/

theorem enterPower_untouched (p : PowerState) (s : State) : Untouched s (enterPower p s) :=
  (setPsc_untouched s _).trans (raise_untouched _ _)

theorem bringToAuto_untouched (z : Zone) (s : State) : Untouched s (bringToAuto z s) :=
  .ite (.ite (setZone_untouched ⟨rfl, rfl⟩) (takeMode_untouched z _ s)) (.refl s)

theorem layoverZone_lawful {full : Bool} (s : State) (z : Zone) (h : Lawful full s) : Lawful full (layoverZone s z) :=
  .ite (.ite (h.of_untouched (bringToAuto_untouched z s)) (enterStandby_lawful z h)) h

theorem enterLayover_lawful {full : Bool} {s : State} (h : Lawful full s) : Lawful full (enterLayover s) :=
  .foldl layoverZone_lawful _ (h.of_untouched (enterPower_untouched _ s))

theorem releaseZone_untouched (s : State) (z : Zone) : Untouched s (releaseZone s z) := .ite (.refl s) (takeMode_untouched z _ s)

theorem leaveRest_untouched (s : State) : Untouched s (leaveRest s) := by
  have hzc : Untouched s (s.setZc { s.zc with period := s.zc.pendingPeriod, periodTimer := some (periodLength s.zc.pendingPeriod) }) :=
    setZc_untouched fun _ => ⟨rfl, rfl⟩
  have h1 : Untouched s (if s.psc.power = .parked then
      (s.setZc { s.zc with period := s.zc.pendingPeriod, periodTimer := some (periodLength s.zc.pendingPeriod) }).setSsu
        (s.ssu.map (fun r => { r with sampledAt := some s.partTime }))
      else s) :=
    .ite (hzc.trans (setSsu_untouched _ _)) (.refl s)
  unfold leaveRest
  dsimp only
  generalize (if s.psc.power = .parked then
      (s.setZc { s.zc with period := s.zc.pendingPeriod, periodTimer := some (periodLength s.zc.pendingPeriod) }).setSsu
        (s.ssu.map (fun r => { r with sampledAt := some s.partTime }))
      else s) = s1 at h1
  refine h1.trans ?_
  exact ⟨⟨rfl, rfl, fun _ => ⟨rfl, rfl⟩, fun _ => rfl, rfl, rfl, rfl⟩, fun k => by cases k <;> rfl⟩

theorem preconditionZones_untouched (s : State) : Untouched s (preconditionZones s) :=
  .ite (.foldl (fun s z => bringToAuto_untouched z s) _ s) (.refl s)

theorem leaveForRun_untouched (s : State) : Untouched s (leaveForRun s) :=
  (leaveRest_untouched s).trans
    ((enterPower_untouched .run _).trans ((Untouched.foldl releaseZone_untouched _ _).trans (preconditionZones_untouched _)))

theorem leaveForLayover_lawful {full : Bool} {s : State} (h : Lawful full s) : Lawful full (leaveForLayover s) :=
  .foldl layoverZone_lawful _
    (h.of_untouched
      ((leaveRest_untouched s).trans ((enterPower_untouched .layover _).trans (Untouched.foldl releaseZone_untouched _ _))))

theorem enterParked_untouched (s : State) : Untouched s (enterParked s) :=
  (setZc_untouched (v := { s.zc with periodTimer := none }) fun _ => ⟨rfl, rfl⟩).trans (enterPower_untouched .parked _)

theorem windDownReports_lawful {full : Bool} {s : State} (h : Lawful full s) : Lawful full (windDownReports s) := by
  have h1 := h.of_untouched (setPsc_untouched s { s.psc with stopped := reportStopped s })
  exact .ite
    (.ite
      (.ite (shedTest_lawful (h1.of_untouched (leaveForRun_untouched _)))
        (.ite (shedTest_lawful (leaveForLayover_lawful h1)) (h1.of_untouched (enterParked_untouched _))))
      h1)
    h

theorem endEvent_lawful {full : Bool} {s : State} (h : Lawful full s) : Lawful full (endEvent s) :=
  windDownReports_lawful (shedTest_lawful h)

theorem windDownScreen_lawful {full : Bool} {s : State} (h : Lawful full s) : Lawful full (windDownScreen s) := by
  have h1 : Lawful full (if s.scm.active then releaseScreen s else s) := .ite (releaseScreen_lawful h) h
  exact h1.of_untouched (setScm_untouched rfl)

theorem windDownHeating_lawful {full : Bool} {s : State} (h : Lawful full s) : Lawful full (windDownHeating s) :=
  windDownPump_lawful (h.of_untouched (setHs_stopHeater_untouched s s.partTime))

theorem windDown_lawful {full : Bool} {s : State} (h : Lawful full s) : Lawful full (windDown s) := by
  have h1 := h.of_untouched ((setPsc_untouched s { s.psc with stopped := ⟨false, false, false⟩ }).trans (enterPower_untouched .windingDown _))
  have h2 : Lawful full (Zone.all.foldl (fun s z => enterStandby z s)
      (enterPower .windingDown (s.setPsc { s.psc with stopped := ⟨false, false, false⟩ }))) :=
    .foldl (fun _ z => enterStandby_lawful z) _ h1
  have h3 := unloadComp_lawful .b (unloadComp_lawful .a (windDownScreen_lawful h2))
  have h4 := windDownHeating_lawful h3
  exact endEvent_lawful (h4.of_untouched (dampersToFreshMin_untouched _))

theorem wakeToLayover_lawful {full : Bool} {s : State} (h : Lawful full s) : Lawful full (wakeToLayover s) :=
  .ite h (leaveForLayover_lawful h)

theorem reachLead_lawful {full : Bool} {s : State} (h : Lawful full s) : Lawful full (reachLead s) := by
  have h1 := h.of_untouched
    ((setPsc_untouched s { s.psc with precondition := true, leadArmed := false }).trans (raise_untouched .depart _))
  exact (wakeToLayover_lawful h1).of_untouched (.foldl (fun s z => bringToAuto_untouched z s) _ _)

theorem setDepart_lawful {full : Bool} (minutes : Nat) {s : State} (h : Lawful full s) : Lawful full (setDepart minutes s) :=
  .ite (reachLead_lawful (h.of_untouched (setPsc_untouched s _)))
    ((h.of_untouched (setPsc_untouched s _)).of_untouched (setPsc_untouched _ _))

theorem loadLead_lawful {full : Bool} (lead : Nat) {s : State} (h : Lawful full s) : Lawful full (loadLead lead s) := by
  have h1 := h.of_untouched (setPsc_untouched s { s.psc with departLead := lead })
  unfold loadLead
  dsimp only
  split
  · exact .ite (reachLead_lawful (h1.of_untouched (setPsc_untouched _ _))) (h1.of_untouched (setPsc_untouched _ _))
  · exact h1

theorem ignitionChanged_lawful {full : Bool} (on : Bool) {s : State} (h : Lawful full s) : Lawful full (ignitionChanged on s) := by
  have h1 := h.of_untouched (setPins_untouched s { s.pins with ignition := on })
  unfold ignitionChanged
  refine .ite ?_ (.ite (h1.of_untouched (setPsc_untouched _ _)) h1)
  split
  · exact h1.of_untouched (setPsc_untouched _ _)
  · exact h1.of_untouched (enterPower_untouched _ _)
  · exact h1.of_untouched (leaveForRun_untouched _)
  · exact h1.of_untouched (leaveForRun_untouched _)

theorem doorChanged_lawful {full : Bool} (d : Door) {s : State} (h : Lawful full s) : Lawful full (doorChanged d s) := by
  have hdoor : ∀ p, Lawful full (if inUse s.psc.power then (doorZones d).foldl (fun s z => reloadEvent .door z s) (s.setPins p)
      else wakeToLayover (s.setPins p)) := fun p =>
    .ite (.foldl (fun _ z => reloadEvent_lawful .door z) _ (h.of_untouched (setPins_untouched s p)))
      (wakeToLayover_lawful (h.of_untouched (setPins_untouched s p)))
  exact hdoor _

/-! ## Period expiries and samples (R4, R9) -/

theorem periodWork_lawful {full : Bool} {s : State} (h : Lawful full s) : Lawful full (periodWork s) := by
  have h1 : Lawful full (Zone.all.foldl (fun s z => evaluateZone z s) s) := .foldl (fun _ z => evaluateZone_lawful z) _ h
  unfold periodWork
  dsimp only
  generalize Zone.all.foldl (fun s z => evaluateZone z s) s = s1 at h1
  have h2 := h1.of_untouched (t := s1.setZc (restartPeriod s1.zc)) (setZc_untouched fun _ => ⟨rfl, rfl⟩)
  exact endEvent_lawful (h2.of_untouched (setHlu_untouched _ _))

theorem takeSample_untouched (c : Channel) (v : Int) (s : State) : Untouched s (takeSample c v s) :=
  .ite ((setSsu_untouched s _).trans (raise_untouched _ _)) (setSsu_untouched s _)

theorem sampleUsers_lawful {full : Bool} (c : Channel) (failed : Bool) {s : State} (h : Lawful full s) :
    Lawful full (sampleUsers c failed s) := by
  unfold sampleUsers
  split
  · exact deriveSensors_lawful h
  · exact coolantSampled_lawful failed h
  · exact protectComp_lawful _ false true failed h
  · exact protectComp_lawful _ true false failed h
  · exact protectComp_lawful _ false true false h
  all_goals exact h

theorem sampleWork_lawful {full : Bool} (c : Channel) (v : Int) {s : State} (h : Lawful full s) : Lawful full (sampleWork c v s) :=
  .ite h (endEvent_lawful (sampleUsers_lawful c _ (h.of_untouched (takeSample_untouched c v s))))

end Sys2Proof.Machine

namespace Sys2Proof.Machine

/-! ## PROFILE LOAD and the resets (R176, R153, R172) -/

theorem loadOrder_perm (a : ArbiterId) (w : Half) : (loadOrder a w).value.Perm (arbiterLines a) := by
  unfold loadOrder loadNamed
  split
  next ls h =>
    obtain ⟨codes, -, hc⟩ := Option.bind_eq_some_iff.1 h
    exact orderOfCodes_perm hc
  next => exact .refl _

theorem ordersLawful_loadSettings (m : Memory) : ordersLawful (loadSettings m).1.orders :=
  ⟨loadOrder_perm .saloon _, loadOrder_perm .lower _, loadOrder_perm .upper _⟩

/-- Lawful orders put in force, with other modes, keep the laws. -/
theorem Lawful.withOrders {full : Bool} {s : State} (h : Lawful full s) {o : Orders} (ho : ordersLawful o) (m : ArbModes) :
    Lawful full (s.setCa { s.ca with orders := o, modes := m }) where
  books := ⟨ho, h.books.table, h.books.queue⟩
  pools := (sameTokens_of_entry (a := s.ca) (b := { s.ca with orders := o, modes := m }) fun _ => ⟨_, _, rfl⟩).pools h.pools
    fun k => by cases k <;> rfl
  screen := h.screen
  handed hf := by
    obtain ⟨hreq, hheld, hc, hh, hscc⟩ := h.handed hf
    exact ⟨hreq, hheld, hc, hh, hscc⟩
  reported hf k := by
    have hc := h.reported hf k
    cases k <;> exact hc

theorem takeSettings_untouched (g : Settings) (s : State) :
    Untouched (s.setCa { s.ca with orders := g.orders, modes := g.modes }) (takeSettings g s) := by
  refine ⟨⟨rfl, rfl, fun z => ?_, fun _ => rfl, rfl, rfl, rfl⟩, fun k => by cases k <;> rfl⟩
  have hz : (takeSettings g s).zone z = loadedZone (g.zones.get z) (s.zone z) := PerZone.get_map _ _ z
  rw [hz]
  exact ⟨rfl, rfl⟩

theorem takeSettings_lawful {full : Bool} {g : Settings} {s : State} (hg : ordersLawful g.orders) (h : Lawful full s) :
    Lawful full (takeSettings g s) :=
  (h.withOrders hg g.modes).of_untouched (takeSettings_untouched g s)

theorem adaptTimer_request (p : PowerState) (b : Bool) (r : ZoneRec) :
    (adaptTimer p b r).reqKind = r.reqKind ∧ (adaptTimer p b r).wanted = r.wanted := by
  unfold adaptTimer
  split <;> exact ⟨rfl, rfl⟩

theorem loadZoneActions_lawful {full : Bool} (old : PerZone ZoneRec) (s : State) (z : Zone) (h : Lawful full s) :
    Lawful full (loadZoneActions old s z) := by
  have h1 := h.of_untouched (t := s.setZone z (adaptTimer s.psc.power s.psc.precondition (s.zone z)))
    (setZone_untouched (adaptTimer_request _ _ _))
  exact .ite h1 (applyHostMode_lawful z h1)

theorem applyProfile_lawful {full : Bool} {g : Settings} {s : State} (hg : ordersLawful g.orders) (h : Lawful full s) :
    Lawful full (applyProfile g s) := by
  have h2 : Lawful full (Zone.all.foldl (loadZoneActions s.zc.zones) (takeSettings g s)) :=
    .foldl (loadZoneActions_lawful _) _ (takeSettings_lawful hg h)
  unfold applyProfile
  dsimp only
  generalize Zone.all.foldl (loadZoneActions s.zc.zones) (takeSettings g s) = s2 at h2 ⊢
  have h3 := arbEvent_lawful (fun _ hb hp => actOnSettings_lawful s2.partTime hb hp) h2
  generalize arbEvent (actOnSettings s2.partTime) s2 = s3 at h3 ⊢
  have h4 : Lawful full (if (s.hs.permit && !g.permit) = true then s3.setHs (stopHeater s3.partTime s3.hs) else s3) :=
    .ite (h3.of_untouched (setHs_stopHeater_untouched _ _)) h3
  generalize (if (s.hs.permit && !g.permit) = true then s3.setHs (stopHeater s3.partTime s3.hs) else s3) = s4 at h4 ⊢
  have h5 : Lawful full (if s.apc.ventMin = g.ventMin then s4 else computeAllBlowers s4) :=
    .ite h4 (h4.of_untouched (computeAllBlowers_untouched _))
  generalize (if s.apc.ventMin = g.ventMin then s4 else computeAllBlowers s4) = s5 at h5 ⊢
  have h6 : Lawful full (if s.apc.freshMin = g.freshMin then s5 else applyFreshMin s5) :=
    .ite h5 (h5.of_untouched (applyFreshMin_untouched _))
  have h7 := loadLead_lawful g.departLead h6
  generalize loadLead g.departLead (if s.apc.freshMin = g.freshMin then s5 else applyFreshMin s5) = s7 at h7 ⊢
  have h8 : Lawful full (if s.hlu.snapshotRate = g.snapshotRate then s7 else s7.setHlu (setSnapshotRate g.snapshotRate s7.hlu)) :=
    .ite h7 (h7.of_untouched (setHlu_untouched _ _))
  have h9 := shedTest_lawful h8
  exact windDownReports_lawful (.ite (h9.of_untouched (restoreAttempt_untouched _)) h9)

/-- The arbiter after a reset, with its orders from the store, is lawful (R67). -/
theorem resetArbiter_lawful {g : Settings} (hg : ordersLawful g.orders) : BooksLawful (resetArbiter g) ∧ poolsLawful (resetArbiter g) := by
  have hentry : ∀ i, entryLawful ((resetArbiter g).entry i) ∧ isShort ((resetArbiter g).entry i) = false := by
    have hzero : ∀ k : ReqKind, entryLawful ⟨k, 0, 0, none, false, false⟩ := fun k => by simp [entryLawful]
    intro i
    cases i with
    | scc => exact ⟨hzero _, rfl⟩
    | sch => exact ⟨hzero _, rfl⟩
    | zone z => cases z <;> exact ⟨hzero _, rfl⟩
  refine ⟨⟨hg, ⟨fun i => (hentry i).1, rfl, rfl⟩, List.nodup_nil, fun i => ?_⟩, fun k => ?_⟩
  · rw [(hentry i).2]
    exact ⟨nofun, nofun⟩
  · cases k <;> exact le_rfl

/-- Every block after a reset meets the laws, with no plant running. -/
theorem resetBlocks_lawful (full : Bool) (now : Nat) (pins : Pins) (lineRate : Nat) {cs : Settings → Cooling} {hs : Settings → Heating}
    (s : State) (hc : ∀ g, coolCapacityOf (cs g) = 0 ∧ (cs g).wantedTotal = 0 ∧ (cs g).sccShort = false)
    (hh : ∀ g, heatCapacityOf (hs g) = 0 ∧ (hs g).wantedTotal = 0) : Lawful full (resetBlocks now pins lineRate cs hs s) := by
  obtain ⟨hb, hp⟩ := resetArbiter_lawful (ordersLawful_loadSettings (resetStore s.ps).cells)
  obtain ⟨hc1, hc2, hc3⟩ := hc (loadSettings (resetStore s.ps).cells).1
  obtain ⟨hh1, hh2⟩ := hh (loadSettings (resetStore s.ps).cells).1
  refine ⟨hb, hp, ⟨rfl, rfl⟩, fun _ => ⟨fun z => ?_, fun z => ?_, hc2, hh2, hc3⟩, fun _ k => ?_⟩
  · cases z <;> exact ⟨rfl, rfl⟩
  · cases z <;> rfl
  · cases k with
    | cool => exact hc1.symm
    | heat => exact hh1.symm

theorem resetEntry_lawful {full : Bool} {s : State} (h : Lawful full s) : Lawful full (resetEntry s) :=
  .ite (h.of_untouched (enterPower_untouched _ _)) (enterLayover_lawful h)

theorem contribution_softResetComp (now : Nat) (en : Bool) (r : CompRec) : contribution (softResetComp now en r) = 0 := by
  obtain ⟨st, _⟩ := r
  cases st <;> rfl

theorem powerOnWork_lawful (full : Bool) (pins : Pins) (s : State) : Lawful full (powerOnWork pins s) :=
  resetEntry_lawful (resetBlocks_lawful full _ _ _ s (fun _ => ⟨rfl, rfl, rfl⟩) (fun _ => ⟨rfl, rfl⟩))

theorem softResetWork_lawful (full : Bool) (s : State) : Lawful full (softResetWork s) := by
  refine shedTest_lawful (resetEntry_lawful (resetBlocks_lawful full _ _ _ s (fun _ => ⟨?_, rfl, rfl⟩) (fun _ => ⟨?_, rfl⟩)))
  · simp only [coolCapacityOf, resetCooling, contribution_softResetComp]
  · simp only [heatCapacityOf, softResetHeating, Nat.mul_zero]
    exact ite_self _

/-! ## Host commands -/

/-- A command's effect keeps the laws. -/
def KeepsLaws (body : CommandBody) : Prop := ∀ full s, Lawful full s → Lawful full (body s).1

theorem refuse_keepsLaws (st : Status) : KeepsLaws (refuse st) := fun _ _ h => h

theorem KeepsLaws.ite {b c : CommandBody} {p : Prop} [Decidable p] (hb : KeepsLaws b) (hc : KeepsLaws c) :
    KeepsLaws (if p then b else c) := by
  split <;> assumption

/-- A change of blocks that the laws do not read, with any answer. -/
theorem KeepsLaws.of_untouched {body : CommandBody} (h : ∀ s, Untouched s (body s).1) : KeepsLaws body :=
  fun _ s hl => hl.of_untouched (h s)

theorem writePoints_blowers (vs : List Nat) (a : AirPath) : (writePoints vs a).blowers = a.blowers := by
  induction vs generalizing a with
  | nil => rfl
  | cons v rest ih => exact ih _

theorem readPoints_blowers (n : Nat) (a : AirPath) : (readPoints n a).2.blowers = a.blowers := by
  induction n generalizing a with
  | zero => rfl
  | succ n ih => exact ih _

theorem cmdCurvePointer_keepsLaws (a d sc : Byte) : KeepsLaws (cmdCurvePointer a d sc) := .of_untouched fun s => by
  unfold cmdCurvePointer
  split
  · split
    · exact setApc_untouched fun _ => rfl
    · exact .refl s
  · exact .refl s

theorem cmdCurveWrite_keepsLaws (vs : List Byte) : KeepsLaws (cmdCurveWrite vs) := .of_untouched fun s =>
  setApc_untouched fun _ => by rw [writePoints_blowers]; rfl

theorem cmdCurveRead_keepsLaws (n : Byte) : KeepsLaws (cmdCurveRead n) := .of_untouched fun s =>
  setApc_untouched fun _ => by rw [readPoints_blowers]; rfl

theorem cmdZoneCurve_keepsLaws (z c : Byte) : KeepsLaws (cmdZoneCurve z c) := .of_untouched fun s => by
  unfold cmdZoneCurve
  split
  · exact setZone_untouched ⟨rfl, rfl⟩
  · exact .refl s

theorem cmdVentLimits_keepsLaws (v f : Byte) : KeepsLaws (cmdVentLimits v f) := fun full s h => by
  have hlimits : ∀ vent fresh, Lawful full (setLimits vent fresh s) := fun vent fresh => by
    have h1 : Lawful full (s.setApc { s.apc with ventMin := vent, freshMin := fresh }) := h.of_untouched (setApc_untouched fun _ => rfl)
    unfold setLimits
    dsimp only
    generalize s.setApc { s.apc with ventMin := vent, freshMin := fresh } = s1 at h1 ⊢
    have h2 : Lawful full (if s.apc.ventMin = vent then s1 else computeAllBlowers s1) :=
      .ite h1 (h1.of_untouched (computeAllBlowers_untouched _))
    exact endEvent_lawful (.ite h2 (h2.of_untouched (applyFreshMin_untouched _)))
  exact hlimits _ _

theorem setModes_event_lawful {full : Bool} (m : ArbModes) {s : State} (h : Lawful full s) :
    Lawful full (arbEvent (setModes s.partTime m) s) :=
  arbEvent_lawful (fun _ hb hp => setModes_lawful s.partTime m hb hp) h

theorem setOrder_event_lawful {full : Bool} {id : ArbiterId} {ls : List Line} (hls : ls.Perm (arbiterLines id)) {s : State}
    (h : Lawful full s) : Lawful full (arbEvent (setOrder s.partTime id ls) s) :=
  arbEvent_lawful (fun _ hb hp => setOrder_lawful s.partTime hls hb hp) h

theorem setMasks_event_lawful {full : Bool} (masks : PerZone Bool) {s : State} (h : Lawful full s) :
    Lawful full (arbEvent (setMasks s.partTime masks) s) :=
  arbEvent_lawful (fun _ hb hp => setMasks_lawful s.partTime masks hb hp) h

theorem takeHoldEnd_event_lawful {full : Bool} (i : EntryId) {s : State} (h : Lawful full s) :
    Lawful full (arbEvent (takeHoldEnd s.partTime i) s) :=
  arbEvent_lawful (fun _ hb hp => takeHoldEnd_lawful s.partTime i hb hp) h

theorem cmdArbMode_keepsLaws (a b c d e : Byte) : KeepsLaws (cmdArbMode a b c d e) := fun full s h => by
  unfold cmdArbMode
  split
  · dsimp only
    exact endEvent_lawful (setModes_event_lawful _ h)
  · exact h

theorem applyOrder_lawful {full : Bool} {id : ArbiterId} {ls : List Line} {s : State} (hls : ls.Perm (arbiterLines id))
    (h : Lawful full s) : Lawful full (applyOrder id ls s).1 := by
  unfold applyOrder
  dsimp only
  exact endEvent_lawful (setOrder_event_lawful hls h)

theorem cmdArbOrder_keepsLaws (a : Byte) (ls : List Byte) : KeepsLaws (cmdArbOrder a ls) := fun full s h => by
  unfold cmdArbOrder
  split
  · split
    next ho => exact applyOrder_lawful (orderOfCodes_perm ho) h
    next => exact h
  · exact h

theorem cmdRotate_keepsLaws (a l : Byte) : KeepsLaws (cmdRotate a l) := fun full s h => by
  unfold cmdRotate
  split
  next id line _ _ =>
    split
    · exact applyOrder_lawful ((rotateOrder_perm line _).trans (Orders.get_perm h.books.orders id)) h
    · exact h
  next => exact h

theorem cmdMask_keepsLaws (zs : Byte) : KeepsLaws (cmdMask zs) := fun full s h => by
  unfold cmdMask
  split
  · dsimp only
    exact endEvent_lawful (setMasks_event_lawful _ h)
  · exact h

theorem cmdRelease_keepsLaws (z : Byte) : KeepsLaws (cmdRelease z) := fun full s h => by
  unfold cmdRelease
  split
  · dsimp only
    exact endEvent_lawful (withdraw_lawful _ h)
  · exact h

theorem cmdEventEnable_keepsLaws (f : Half) : KeepsLaws (cmdEventEnable f) := .of_untouched fun s => by
  unfold cmdEventEnable
  split
  · exact setHlu_untouched _ _
  · exact .refl s

theorem cmdEventClear_keepsLaws (f : Half) : KeepsLaws (cmdEventClear f) := .of_untouched fun s => by
  unfold cmdEventClear
  split
  · exact setHlu_untouched _ _
  · exact .refl s

theorem cmdSnapshotRate_keepsLaws (r : Byte) : KeepsLaws (cmdSnapshotRate r) := .of_untouched fun s => setHlu_untouched s _

theorem cmdProfileWrite_keepsLaws (r c : Byte) (v : Half) : KeepsLaws (cmdProfileWrite r c v) := .of_untouched fun s => by
  unfold cmdProfileWrite
  split
  · exact .refl s
  · split
    · exact setPs_untouched _ _
    · exact .refl s

theorem cmdProfileRead_keepsLaws (r c : Byte) : KeepsLaws (cmdProfileRead r c) := .of_untouched fun s => by
  unfold cmdProfileRead
  split
  · exact .refl s
  · split <;> exact .refl s

theorem cmdProfileLoad_keepsLaws : KeepsLaws cmdProfileLoad := fun full s h => by
  unfold cmdProfileLoad
  split
  · exact applyProfile_lawful (ordersLawful_loadSettings _) h
  · exact h

theorem allowanceMoved_lawful {full : Bool} (n : Nat) {s : State} (h : Lawful full s) : Lawful full (allowanceMoved n s) :=
  .ite (endEvent_lawful h) (.ite (h.of_untouched (restoreAttempt_untouched s)) h)

theorem cmdAllowance_keepsLaws (w : Half) : KeepsLaws (cmdAllowance w) := fun _ s h =>
  allowanceMoved_lawful _ (h.of_untouched (setLa_untouched s _))

theorem cmdCompEnable_keepsLaws (en : Byte) : KeepsLaws (cmdCompEnable en) := .of_untouched fun s => by
  unfold cmdCompEnable
  split
  · exact setCs_untouched rfl rfl rfl
  · exact .refl s

theorem contribution_clearComp (now : Nat) (r : CompRec) : contribution (clearComp now r) = contribution r := by
  unfold clearComp
  split
  next h => simp [contribution, h]
  next => rfl

theorem clearHeater_plant (now : Nat) (h : Heating) :
    (clearHeater now h).wantedTotal = h.wantedTotal ∧ (clearHeater now h).pump = h.pump ∧ (clearHeater now h).band = h.band := by
  unfold clearHeater
  split <;> exact ⟨rfl, rfl, rfl⟩

theorem cmdClearLockout_keepsLaws (t : Byte) : KeepsLaws (cmdClearLockout t) := fun full s h => by
  unfold cmdClearLockout
  split
  · exact endEvent_lawful (h.of_untouched (setComp_untouched (contribution_clearComp _ _)))
  · obtain ⟨hw, hp, hb⟩ := clearHeater_plant s.partTime s.hs
    exact endEvent_lawful (h.of_untouched (setHs_untouched hw hp hb))
  · exact h

theorem setPermit_plant (now : Nat) (on : Bool) (h : Heating) :
    (setPermit now on h).wantedTotal = h.wantedTotal ∧ (setPermit now on h).pump = h.pump ∧ (setPermit now on h).band = h.band := by
  unfold setPermit
  split
  · obtain ⟨hp, hb, hw⟩ := stopHeater_plant now { h with permit := on }
    exact ⟨hw, hp, hb⟩
  · exact ⟨rfl, rfl, rfl⟩

theorem cmdFuelPermit_keepsLaws (p : Byte) : KeepsLaws (cmdFuelPermit p) := fun full s h => by
  unfold cmdFuelPermit
  split
  next on _ =>
    obtain ⟨hw, hp, hb⟩ := setPermit_plant s.partTime on s.hs
    exact endEvent_lawful (h.of_untouched (setHs_untouched hw hp hb))
  next => exact h

theorem takeScreen_lawful {full : Bool} (v : ScreenValue) {s : State} (h : Lawful full s) : Lawful full (takeScreen v s) := by
  unfold takeScreen
  split
  · exact h
  · exact h.of_untouched (setScm_untouched rfl)
  · have h1 := h.of_untouched (t := s.setScm { s.scm with hostRequest := true }) (setScm_untouched rfl)
    dsimp only
    split
    next ha =>
      simp only [Bool.and_eq_true, Bool.not_eq_true'] at ha
      exact endEvent_lawful (assertScreen_lawful ha.2 h1)
    next => exact h1

theorem cmdScreen_keepsLaws (v : Byte) : KeepsLaws (cmdScreen v) := fun full s h => by
  unfold cmdScreen
  split
  · exact takeScreen_lawful _ h
  · exact h

theorem cmdPark_keepsLaws : KeepsLaws cmdPark := fun full s h => by
  unfold cmdPark
  split
  · exact h
  · split
    · exact h
    · dsimp only [powerReply]
      exact windDown_lawful h
  all_goals split <;> exact h

theorem cmdDepart_keepsLaws (m : Half) : KeepsLaws (cmdDepart m) := fun _ s h =>
  .ite (h.of_untouched (setPsc_untouched s _)) (endEvent_lawful (setDepart_lawful _ h))

theorem cmdZoneSet_keepsLaws (z m : Byte) (sp : Half) : KeepsLaws (cmdZoneSet z m sp) := fun full s h => by
  unfold cmdZoneSet
  split
  · exact endEvent_lawful (applyHostMode_lawful _ (h.of_untouched (setZone_untouched ⟨rfl, rfl⟩)))
  · exact h

theorem cmdTune_keepsLaws (a b c d : Byte) : KeepsLaws (cmdTune a b c d) := .of_untouched fun _ => setZc_untouched fun _ => ⟨rfl, rfl⟩

theorem cmdPeriod_keepsLaws (c : Byte) : KeepsLaws (cmdPeriod c) := .of_untouched fun _ => setZc_untouched fun _ => ⟨rfl, rfl⟩

theorem cmdQueryZone_keepsLaws (z : Byte) : KeepsLaws (cmdQueryZone z) := .of_untouched fun s => by
  unfold cmdQueryZone
  split <;> exact .refl s

theorem cmdSeats_keepsLaws (a b c d e f : Byte) : KeepsLaws (cmdSeats a b c d e f) := fun _ _ h =>
  endEvent_lawful (.foldl (fun _ z => seatCount_lawful z _) _ h)

theorem cmdNudge_keepsLaws (z d : Byte) : KeepsLaws (cmdNudge z d) := fun full s h => by
  unfold cmdNudge
  split
  · exact endEvent_lawful (reloadEvent_lawful _ _ (h.of_untouched (setZone_untouched ⟨rfl, rfl⟩)))
  · exact h

theorem cmdTouch_keepsLaws (zs : Byte) : KeepsLaws (cmdTouch zs) := fun full s h => by
  unfold cmdTouch
  split
  · exact h
  · exact endEvent_lawful (.foldl (fun _ z ht => .ite (reloadEvent_lawful .touch z ht) ht) _ h)

theorem cmdZoneTimers_keepsLaws (z sb st m : Byte) : KeepsLaws (cmdZoneTimers z sb st m) := .of_untouched fun s => by
  unfold cmdZoneTimers
  split
  · exact setZone_untouched (adaptTimer_request _ _ _)
  · exact .refl s

theorem cmdShift_keepsLaws (d : Byte) : KeepsLaws (cmdShift d) := .of_untouched fun s => by
  unfold cmdShift
  split
  · exact setZc_untouched fun _ => ⟨rfl, rfl⟩
  · exact .refl s

theorem cmdHome_keepsLaws : KeepsLaws cmdHome := .of_untouched fun _ => setZc_untouched fun _ => ⟨rfl, rfl⟩

/-- An answer alone keeps everything. -/
theorem answer_keepsLaws (f : State → Reply) : KeepsLaws fun s => (s, f s) := fun _ _ h => h

/-- The effect of every command that a frame may carry keeps the laws. -/
theorem bodyOf_keepsLaws (i : Instr) : KeepsLaws (bodyOf i) := by
  cases i with
  | zoneSet z m sp => exact cmdZoneSet_keepsLaws z m sp
  | tune a b c d => exact cmdTune_keepsLaws a b c d
  | period c => exact cmdPeriod_keepsLaws c
  | queryZone z => exact cmdQueryZone_keepsLaws z
  | seats a b c d e f => exact cmdSeats_keepsLaws a b c d e f
  | nudge z d => exact cmdNudge_keepsLaws z d
  | touch zs => exact cmdTouch_keepsLaws zs
  | zoneTimers z a b m => exact cmdZoneTimers_keepsLaws z a b m
  | shift d => exact cmdShift_keepsLaws d
  | home => exact cmdHome_keepsLaws
  | arbMode a b c d e => exact cmdArbMode_keepsLaws a b c d e
  | arbOrder a ls => exact cmdArbOrder_keepsLaws a ls
  | rotate a l => exact cmdRotate_keepsLaws a l
  | mask zs => exact cmdMask_keepsLaws zs
  | release z => exact cmdRelease_keepsLaws z
  | allowance w => exact cmdAllowance_keepsLaws w
  | compEnable en => exact cmdCompEnable_keepsLaws en
  | clearLockout t => exact cmdClearLockout_keepsLaws t
  | fuelPermit p => exact cmdFuelPermit_keepsLaws p
  | curvePointer a d sc => exact cmdCurvePointer_keepsLaws a d sc
  | curveWrite vs => exact cmdCurveWrite_keepsLaws vs
  | curveRead n => exact cmdCurveRead_keepsLaws n
  | zoneCurve z c => exact cmdZoneCurve_keepsLaws z c
  | ventLimits v f => exact cmdVentLimits_keepsLaws v f
  | screen v => exact cmdScreen_keepsLaws v
  | park => exact cmdPark_keepsLaws
  | depart m => exact cmdDepart_keepsLaws m
  | eventEnable f => exact cmdEventEnable_keepsLaws f
  | eventClear f => exact cmdEventClear_keepsLaws f
  | snapshotRate r => exact cmdSnapshotRate_keepsLaws r
  | profileWrite r c v => exact cmdProfileWrite_keepsLaws r c v
  | profileRead r c => exact cmdProfileRead_keepsLaws r c
  | profileLoad => exact cmdProfileLoad_keepsLaws
  | queryArbiter | queryLoad | queryPlant | queryLogs | queryEvents | identify | reset => exact answer_keepsLaws _
  | _ => exact refuse_keepsLaws .badType

/-! ## Frames and every step -/

theorem completeFrame_lawful {full : Bool} (rtype : Byte) {body : CommandBody} (hb : KeepsLaws body) {s : State} (h : Lawful full s) :
    Lawful full (completeFrame rtype body s) := by
  have h1 : Lawful full (wakeByFrame s) := .ite (endEvent_lawful (leaveForLayover_lawful h)) h
  exact .ite h1 ((hb full _ h1).of_untouched (setHlu_untouched _ _))

theorem frameWork_lawful {full : Bool} (type : Byte) (payload : List Byte) {s : State} (h : Lawful full s) :
    Lawful full (frameWork type payload s) := by
  unfold frameWork
  split
  · exact completeFrame_lawful _ (answer_keepsLaws _) h
  · exact completeFrame_lawful _ (refuse_keepsLaws _) h
  · exact completeFrame_lawful _ (bodyOf_keepsLaws _) h

theorem byteWork_lawful {full : Bool} (b : Byte) (e : Bool) {s : State} (h : Lawful full s) : Lawful full (byteWork b e s) := by
  have h1 := h.of_untouched (setHlu_untouched s (setFramer (framerByte s.hlu.framer b).1 s.hlu))
  unfold byteWork
  refine .ite (h.of_untouched (setHlu_untouched s _)) ?_
  dsimp only
  split
  · exact frameWork_lawful _ _ h1
  · exact h1

/-- The state that a command leaves meets the laws. -/
def LeavesLawful (full : Bool) (o : Host.Outcome State Fault Refusal) : Prop := ∃ t, o = .next t ∧ Lawful full t

theorem exec_lawful {full : Bool} (i : Instr) {s : State} (h : Lawful full s) : LeavesLawful full (exec i s) := by
  have host : ∀ {body} rtype, KeepsLaws body → LeavesLawful full (.next (completeFrame rtype body s)) := fun rtype hb =>
    ⟨_, rfl, completeFrame_lawful rtype hb h⟩
  have same : ∀ {t}, Untouched s t → LeavesLawful full (.next t) := fun ht => ⟨_, rfl, h.of_untouched ht⟩
  have due : ∀ {t} {c : Prop} [Decidable c], Lawful full t → LeavesLawful full (.next (if c then t else s)) := fun ht =>
    ⟨_, rfl, .ite ht h⟩
  cases i with
  | curveWrite vs => exact host _ (.ite (cmdCurveWrite_keepsLaws vs) (refuse_keepsLaws _))
  | arbOrder a ls => exact host _ (.ite (cmdArbOrder_keepsLaws a ls) (refuse_keepsLaws _))
  | zoneSet z m sp => exact host _ (bodyOf_keepsLaws (.zoneSet z m sp))
  | tune a b c d => exact host _ (bodyOf_keepsLaws (.tune a b c d))
  | period c => exact host _ (bodyOf_keepsLaws (.period c))
  | queryZone z => exact host _ (bodyOf_keepsLaws (.queryZone z))
  | seats a b c d e f => exact host _ (bodyOf_keepsLaws (.seats a b c d e f))
  | nudge z d => exact host _ (bodyOf_keepsLaws (.nudge z d))
  | touch zs => exact host _ (bodyOf_keepsLaws (.touch zs))
  | zoneTimers z a b m => exact host _ (bodyOf_keepsLaws (.zoneTimers z a b m))
  | shift d => exact host _ (bodyOf_keepsLaws (.shift d))
  | home => exact host _ (bodyOf_keepsLaws .home)
  | arbMode a b c d e => exact host _ (bodyOf_keepsLaws (.arbMode a b c d e))
  | rotate a l => exact host _ (bodyOf_keepsLaws (.rotate a l))
  | mask zs => exact host _ (bodyOf_keepsLaws (.mask zs))
  | release z => exact host _ (bodyOf_keepsLaws (.release z))
  | queryArbiter => exact host _ (bodyOf_keepsLaws .queryArbiter)
  | allowance w => exact host _ (bodyOf_keepsLaws (.allowance w))
  | queryLoad => exact host _ (bodyOf_keepsLaws .queryLoad)
  | compEnable en => exact host _ (bodyOf_keepsLaws (.compEnable en))
  | clearLockout t => exact host _ (bodyOf_keepsLaws (.clearLockout t))
  | queryPlant => exact host _ (bodyOf_keepsLaws .queryPlant)
  | fuelPermit p => exact host _ (bodyOf_keepsLaws (.fuelPermit p))
  | curvePointer a d sc => exact host _ (bodyOf_keepsLaws (.curvePointer a d sc))
  | curveRead n => exact host _ (bodyOf_keepsLaws (.curveRead n))
  | zoneCurve z c => exact host _ (bodyOf_keepsLaws (.zoneCurve z c))
  | ventLimits v f => exact host _ (bodyOf_keepsLaws (.ventLimits v f))
  | screen v => exact host _ (bodyOf_keepsLaws (.screen v))
  | park => exact host _ (bodyOf_keepsLaws .park)
  | depart m => exact host _ (bodyOf_keepsLaws (.depart m))
  | eventEnable f => exact host _ (bodyOf_keepsLaws (.eventEnable f))
  | eventClear f => exact host _ (bodyOf_keepsLaws (.eventClear f))
  | queryEvents => exact host _ (bodyOf_keepsLaws .queryEvents)
  | snapshotRate r => exact host _ (bodyOf_keepsLaws (.snapshotRate r))
  | identify => exact host _ (bodyOf_keepsLaws .identify)
  | reset => exact host _ (bodyOf_keepsLaws .reset)
  | profileWrite r c v => exact host _ (bodyOf_keepsLaws (.profileWrite r c v))
  | profileRead r c => exact host _ (bodyOf_keepsLaws (.profileRead r c))
  | profileLoad => exact host _ (bodyOf_keepsLaws .profileLoad)
  | queryLogs => exact host _ (bodyOf_keepsLaws .queryLogs)
  | frameComplete type payload => exact ⟨_, rfl, frameWork_lawful type payload h⟩
  | gap => exact same (setHlu_untouched s _)
  | replyStart => exact same (setHlu_untouched s _)
  | eventReport => exact due (h.of_untouched (setHlu_untouched s _))
  | snapshotReport => exact due (h.of_untouched (setHlu_untouched s _))
  | frameSent => exact same (setHlu_untouched s _)
  | softReset => exact due (softResetWork_lawful full s)
  | powerOnReset pins => exact ⟨_, rfl, powerOnWork_lawful full pins s⟩
  | partTimeTick =>
    refine same (Untouched.trans (t := advanceTime s) ?_ ?_)
    · exact .ite (setPartTime_untouched s _) ((setPartTime_untouched s _).trans (setFreeCount_untouched _ _))
    · refine setZc_untouched fun z => ?_
      dsimp only
      rw [PerZone.get_map]
      unfold tickTimer
      split <;> exact ⟨rfl, rfl⟩
  | ignition on => exact ⟨_, rfl, .ite h (endEvent_lawful (ignitionChanged_lawful on h))⟩
  | doorEdge d => exact ⟨_, rfl, endEvent_lawful (doorChanged_lawful d h)⟩
  | flamePresent =>
    have hpins := setPins_untouched s { s.pins with flame := true }
    refine same (.ite (.refl s) (hpins.trans ?_))
    unfold flameAppears
    split <;> exact setHs_untouched rfl rfl rfl
  | flameLoss => exact due (endEvent_lawful ((h.of_untouched (setPins_untouched s _)).of_untouched (flameGoes_untouched _)))
  | sample c v => exact ⟨_, rfl, sampleWork_lawful c v h⟩
  | periodExpiry => exact due (periodWork_lawful h)
  | inactivityTimerExpiry z =>
    refine due (endEvent_lawful ?_)
    unfold timerExpired
    split
    · exact h.of_untouched (enterSetback_untouched z s)
    · exact enterStandby_lawful z (h.of_untouched (raise_untouched .setback s))
    all_goals exact h
  | holdEnd e =>
    exact due (c := holdDue e s) (t := endEvent (arbEvent (takeHoldEnd s.partTime e) s)) (endEvent_lawful (takeHoldEnd_event_lawful e h))
  | staleness => exact due ((h.of_untouched (setLa_untouched s _)).of_untouched (raise_untouched _ _))
  | fallback => exact due (allowanceMoved_lawful _ ((h.of_untouched (setLa_untouched s _)).of_untouched (raise_untouched _ _)))
  | stagingCheck => exact due (endEvent_lawful (stagingWork_lawful h))
  | startingExpiry c => exact due (endEvent_lawful (h.reportCool (setComp_books s c _) rfl))
  | unloadingExpiry c =>
    refine ⟨_, rfl, ?_⟩
    split
    next hd =>
      simp only [compDue, Bool.and_eq_true, beq_iff_eq] at hd
      refine endEvent_lawful (h.of_untouched (Untouched.trans (setComp_untouched ?_) (restoreIfFell_untouched _ _)))
      simp [contribution, stopRec, hd.1]
    next => exact h
  | heatingCheck => exact due (endEvent_lawful (heatingWork_lawful h))
  | ignitionExpiry => exact due (endEvent_lawful (h.of_untouched (endIgnition_untouched s)))
  | purgeExpiry => exact due (endEvent_lawful (endPurge_lawful h))
  | damperStep => exact due (h.of_untouched ((workDampers_untouched true s).trans (setApc_untouched fun _ => rfl)))
  | screenCheck => exact due (endEvent_lawful (screenWork_lawful h))
  | ignitionOffExpiry => exact due (endEvent_lawful (enterLayover_lawful h))
  | leadExpiry => exact due (endEvent_lawful (reachLead_lawful h))
  | departTime => exact due (h.of_untouched (setPsc_untouched s _))
  | eraseEnd => exact same (setPs_untouched s _)
  | storeWriteComplete =>
    refine same (t := endWrite s) ?_
    unfold endWrite
    split
    · exact (setPs_untouched s _).trans (raise_untouched _ _)
    all_goals exact .refl s
  | byteReceived b e => exact ⟨_, rfl, byteWork_lawful b e h⟩

theorem step_lawful {full : Bool} {s t : State} (h : Lawful full s) (hst : step s = .next t) : Lawful full t := by
  unfold step at hst
  split at hst
  · cases hst
    exact h
  next c rest _ =>
    obtain ⟨u, hu, hl⟩ := exec_lawful c (h.of_untouched (setPending_untouched s rest))
    rw [hu] at hst
    cases hst
    exact hl

/-- Settles O52: both families of laws are one invariant, `Lawful`, which every operation of the model keeps. -/
theorem arbiterLawsKept : Obligations.ArbiterLawsKept := by
  refine ⟨fun s t h hst => ?_, fun s t h hh hst => ?_⟩
  · exact (lawful_false_iff t).1 (step_lawful ((lawful_false_iff s).2 h) hst)
  · exact ((lawful_true_iff t).1 (step_lawful ((lawful_true_iff s).2 ⟨h, hh⟩) hst)).2

end Sys2Proof.Machine

namespace Sys2Proof.Machine

/-! ## The reset values (R3, R5, R39, R67, R91, R112, R126, R138, R143, R153, R172) -/

theorem reset_channel (c : Channel) : State.reset.ssu.get c = .atReset := by
  cases c with
  | zoneTemp z => exact PerZone.get_const _ z
  | co2 d => cases d <;> rfl
  | pressureHigh k => cases k <;> rfl
  | pressureLow k => cases k <;> rfl
  | coil k => cases k <;> rfl
  | _ => rfl

theorem reset_zone (z : Zone) : ∃ door, State.reset.zone z = .atReset door := by
  cases z with
  | e => exact ⟨true, rfl⟩
  | l1 => exact ⟨true, rfl⟩
  | l2 => exact ⟨false, rfl⟩
  | u1 => exact ⟨false, rfl⟩
  | u2 => exact ⟨false, rfl⟩
  | u3 => exact ⟨false, rfl⟩

theorem reset_entry (i : EntryId) : ∃ k, State.reset.ca.entry i = ⟨k, 0, 0, none, false, false⟩ := by
  cases i with
  | scc => exact ⟨.cool, rfl⟩
  | sch => exact ⟨.heat, rfl⟩
  | zone z => exact ⟨.none, PerZone.get_const _ z⟩

theorem reset_comp (c : Comp) : State.reset.comp c = .atReset := by cases c <;> rfl

theorem reset_blower (z : Zone) : State.reset.blower z = ⟨some .standby, 0, 0, 0⟩ := PerZone.get_const _ z

/-- Settles O2: each collection holds one reset record throughout, and every other value stands in `State.reset`. -/
theorem resetValues : Obligations.ResetValues := by
  refine ⟨by decide, fun c => ?_, fun z => ?_, by decide, fun i => ?_, by decide, by decide, fun c => ?_, by decide,
    ⟨rfl, rfl, rfl, rfl, rfl, fun z => ?_⟩, by decide, by decide, by decide⟩
  · rw [reset_channel]
    exact ⟨rfl, rfl, rfl⟩
  · obtain ⟨door, h⟩ := reset_zone z
    rw [h]
    exact ⟨rfl, rfl, rfl, rfl, rfl, rfl, rfl, rfl, rfl, rfl, rfl, rfl, rfl, rfl⟩
  · obtain ⟨k, h⟩ := reset_entry i
    rw [h]
    exact ⟨rfl, rfl, rfl, rfl⟩
  · rw [reset_comp]
    exact ⟨rfl, rfl, rfl, rfl, rfl, rfl⟩
  · rw [reset_blower]

/-! ## Saloon and link settings (R10, R21, R37, R169, R170, R172) -/

theorem clampNat_eq {lo hi : Nat} (h : lo ≤ hi) (x : Nat) : clampNat lo hi x = max lo (min hi x) := by
  unfold clampNat
  split
  · omega
  · split <;> omega

theorem clampInt_eq {lo hi : Int} (h : lo ≤ hi) (x : Int) : clampInt lo hi x = max lo (min hi x) := by
  unfold clampInt
  split
  · omega
  · split <;> omega

/-- A taken command leaves its effect with the formed reply in hand. -/
theorem completeFrame_reply {s : State} (h : readyForCommand s = true) (rtype : Byte) {body : CommandBody} {t : State} {r : Reply}
    (hb : body s = (t, r)) :
    completeFrame rtype body s = withReply rtype (BitVec.ofNat 8 (codeOfStatus r.status)) r.fields t := by
  rw [completeFrame_ready h, hb]
  obtain ⟨st, fs⟩ := r
  cases st <;> rfl

/-- The status code of a reply that says whether a quantity was moved. -/
theorem codeOfStatus_doneReply (b : Bool) (fs : List Byte) :
    BitVec.ofNat 8 (codeOfStatus (doneReply b fs).status) = if b then 1 else 0 := by
  cases b <;> rfl

/-- A command done, answered OK where `c` says that no quantity was moved, and CLAMPED otherwise. -/
theorem completeFrame_done {s : State} (h : readyForCommand s = true) (rtype : Byte) {body : CommandBody} {t : State} {b : Bool}
    {fs : List Byte} {c : Prop} [Decidable c] (hb : body s = (t, doneReply b fs)) (hc : b = false ↔ c) :
    completeFrame rtype body s = withReply rtype (if c then 0 else 1) fs t := by
  rw [completeFrame_reply h rtype hb, codeOfStatus_doneReply]
  by_cases h' : c
  · rw [if_pos h', hc.2 h']
    rfl
  · rw [if_neg h', Bool.eq_true_of_not_eq_false (mt hc.1 h')]
    rfl

/-- A command that moves no quantity is answered OK. -/
theorem completeFrame_ok {s : State} (h : readyForCommand s = true) (rtype : Byte) {body : CommandBody} {t : State} {fs : List Byte}
    (hb : body s = (t, doneReply false fs)) : completeFrame rtype body s = withReply rtype 0 fs t :=
  completeFrame_reply h rtype hb

theorem completeFrame_refused {s : State} (h : readyForCommand s = true) (rtype : Byte) {body : CommandBody} {st : Status}
    (hb : body s = (s, refusal st)) : completeFrame rtype body s = withReply rtype (BitVec.ofNat 8 (codeOfStatus st)) [] s :=
  completeFrame_reply h rtype hb

theorem clampNat_zero (hi x : Nat) : clampNat 0 hi x = min hi x := by rw [clampNat_eq (Nat.zero_le hi), Nat.zero_max]

/-- TUNE's four quantities, each in its range (R21). -/
theorem cmdTune_eq (kp ki db off : Byte) (s : State) {p i d o : Nat} (hp : p = max 1 (min 40 kp.toNat)) (hi : i = min 32 ki.toNat)
    (hd : d = min 10 db.toNat) (ho : o = max 10 (min 50 off.toNat)) :
    cmdTune kp ki db off s =
      (s.setZc { s.zc with kp := p, ki := i, db := d, setbackOffset := o },
        doneReply (p != kp.toNat || i != ki.toNat || d != db.toNat || o != off.toNat)
          [BitVec.ofNat 8 p, BitVec.ofNat 8 i, BitVec.ofNat 8 d, BitVec.ofNat 8 o]) := by
  rw [← clampNat_eq (by decide)] at hp ho
  rw [← clampNat_zero] at hi hd
  subst hp hi hd ho
  rfl

/-- SHIFT's step, in its range (R37). -/
theorem cmdShift_eq (up : Bool) (s : State) {g : Int} (hg : g = s.zc.shift + (if up then 5 else -5)) :
    cmdShift (if up then 1 else 0) s =
      (s.setZc { s.zc with shift := max (-30) (min 30 g) },
        doneReply (max (-30) (min 30 g) != g) [BitVec.ofInt 8 (max (-30) (min 30 g))]) := by
  have hs : stepped up s.zc.shift = g := by
    rw [hg]
    cases up <;> rfl
  have hu : upOfCode (if up then 1 else 0) = some up := by cases up <;> rfl
  rw [← clampInt_eq (by decide), ← hs]
  unfold cmdShift
  rw [hu]
  rfl

theorem upOfCode_of_one_lt {d : Byte} (h : 1 < d.toNat) : upOfCode d = none := by
  unfold upOfCode
  split
  next hd => rw [hd] at h; exact absurd h (by decide)
  next hd => rw [hd] at h; exact absurd h (by decide)
  next => rfl

theorem saloonSettings {s : State} (h : readyForCommand s = true) :
    (∀ kp ki db off : Byte,
      ∃ p, p = max 1 (min 40 kp.toNat) ∧ ∃ i, i = min 32 ki.toNat ∧ ∃ d, d = min 10 db.toNat ∧ ∃ o, o = max 10 (min 50 off.toNat) ∧
      exec (.tune kp ki db off) s =
        .next
          (withReply 0x82 (if p = kp.toNat ∧ i = ki.toNat ∧ d = db.toNat ∧ o = off.toNat then 0 else 1)
            [BitVec.ofNat 8 p, BitVec.ofNat 8 i, BitVec.ofNat 8 d, BitVec.ofNat 8 o]
            (s.setZc { s.zc with kp := p, ki := i, db := d, setbackOffset := o }))) ∧
    (∀ code : Byte,
      exec (.period code) s =
        .next
          (withReply 0x83 (if code.toNat ≤ 30 then 0 else 1) [BitVec.ofNat 8 (min code.toNat 30), BitVec.ofNat 8 s.zc.period]
            (s.setZc { s.zc with pendingPeriod := min code.toNat 30 }))) ∧
    (∀ up : Bool, ∃ g : Int, g = s.zc.shift + (if up then 5 else -5) ∧
      exec (.shift (if up then 1 else 0)) s =
        .next
          (withReply 0x89 (if -30 ≤ g ∧ g ≤ 30 then 0 else 1) [BitVec.ofInt 8 (max (-30) (min 30 g))]
            (s.setZc { s.zc with shift := max (-30) (min 30 g) }))) ∧
    (∀ d : Byte, 1 < d.toNat → exec (.shift d) s = .next (withReply 0x89 4 [] s)) := by
  refine ⟨fun kp ki db off => ⟨_, rfl, _, rfl, _, rfl, _, rfl, ?_⟩, fun code => ?_, fun up => ⟨_, rfl, ?_⟩, fun d hd => ?_⟩
  · exact congrArg Host.Outcome.next
      (completeFrame_done h (replyType 0x02) (cmdTune_eq kp ki db off s rfl rfl rfl rfl) (by simp [and_assoc]))
  · exact congrArg Host.Outcome.next
      (completeFrame_done h (replyType 0x03) (body := cmdPeriod code) (b := min code.toNat 30 != code.toNat) rfl (by simp))
  · exact congrArg Host.Outcome.next
      (completeFrame_done h (replyType 0x09) (cmdShift_eq up s rfl) (by simp only [bne_eq_false_iff_eq]; omega))
  · exact congrArg Host.Outcome.next
      (completeFrame_refused h (replyType 0x09) (st := .badValue) (by unfold cmdShift; rw [upOfCode_of_one_lt hd]))

/-- Settles O8: each command's effect and answer, with its clamps as `max` and `min`, put in hand by `completeFrame_reply`. -/
theorem saloonAndLinkSettings : Obligations.SaloonAndLinkSettings := by
  refine ⟨fun s h => saloonSettings h, fun s h => ⟨fun f hf => ⟨?_, ?_⟩, fun f hf => ⟨?_, ?_⟩, fun r => ?_, ?_⟩⟩
  · exact congrArg Host.Outcome.next
      (completeFrame_ok h (replyType 0x1F) (by simp only [cmdEventEnable, flagSetValid, hf, Bool.not_false, if_true]; rfl))
  · exact congrArg Host.Outcome.next
      (completeFrame_ok h (replyType 0x20) (by simp only [cmdEventClear, flagSetValid, hf, Bool.not_false, if_true]; rfl))
  · exact congrArg Host.Outcome.next
      (completeFrame_refused h (replyType 0x1F) (st := .badValue) (by simp [cmdEventEnable, flagSetValid, hf]))
  · exact congrArg Host.Outcome.next
      (completeFrame_refused h (replyType 0x20) (st := .badValue) (by simp [cmdEventClear, flagSetValid, hf]))
  · have hz : (min r.toNat 60 = 0) = (r.toNat = 0) := by
      apply propext
      omega
    refine congrArg Host.Outcome.next
      (completeFrame_done h (replyType 0x22) (body := cmdSnapshotRate r) (b := min r.toNat 60 != r.toNat) ?_ (by simp))
    simp only [cmdSnapshotRate, setSnapshotRate, hz]
    rfl
  · exact congrArg Host.Outcome.next (completeFrame_ok h (replyType 0x24) rfl)

end Sys2Proof.Machine

namespace Sys2Proof.Machine

/-! ## Reply fields byte by byte (R178, R180) -/

/-- Two bytes of a number, high byte first (R178). -/
def twoBytes (x : Int) : List Byte := [BitVec.ofInt 8 (x / 256), BitVec.ofInt 8 x]

/-- Four bytes of a number, high byte first (R178). -/
def fourBytes (x : Int) : List Byte :=
  [BitVec.ofInt 8 (x / 16777216), BitVec.ofInt 8 (x / 65536), BitVec.ofInt 8 (x / 256), BitVec.ofInt 8 x]

/-- A value in tenths as its two bytes, 0x8000 while absent (R178). -/
def tenthsBytes (v : Option Int) : List Byte := (v.map twoBytes).getD [0x80, 0x00]

/-- Seconds held at 65,535 (R180). -/
def secondsBytes (n : Nat) : List Byte := twoBytes (min n 65535 : Nat)

theorem intField_eq (x : Int) : intField x = twoBytes x := by
  have hi : highByte (BitVec.ofInt 16 x) = BitVec.ofInt 8 (x / 256) := by
    apply BitVec.eq_of_toNat_eq
    simp [highByte, BitVec.toNat_ofInt]
    omega
  have lo : lowByte (BitVec.ofInt 16 x) = BitVec.ofInt 8 x := by
    apply BitVec.eq_of_toNat_eq
    simp [lowByte, BitVec.toNat_ofInt]
    omega
  simp only [intField, halfField, twoBytes, hi, lo]

theorem natField_eq (n : Nat) : natField n = twoBytes n := by
  rw [← intField_eq, intField, BitVec.ofInt_natCast]
  rfl

theorem heldSeconds_eq (n : Nat) : heldSeconds n = secondsBytes n := natField_eq _

theorem tenthsField_eq (v : Option Int) : tenthsField v = tenthsBytes v := by
  cases v with
  | none => rfl
  | some x => exact intField_eq x

theorem wordField_ofInt (x : Int) : wordField (BitVec.ofInt 32 x) = fourBytes x := by
  have b3 : ((BitVec.ofInt 32 x) >>> 24).setWidth 8 = BitVec.ofInt 8 (x / 16777216) := by
    apply BitVec.eq_of_toNat_eq
    simp [BitVec.toNat_ofInt]
    omega
  have b2 : ((BitVec.ofInt 32 x) >>> 16).setWidth 8 = BitVec.ofInt 8 (x / 65536) := by
    apply BitVec.eq_of_toNat_eq
    simp [BitVec.toNat_ofInt]
    omega
  have b1 : ((BitVec.ofInt 32 x) >>> 8).setWidth 8 = BitVec.ofInt 8 (x / 256) := by
    apply BitVec.eq_of_toNat_eq
    simp [BitVec.toNat_ofInt]
    omega
  have b0 : (BitVec.ofInt 32 x).setWidth 8 = BitVec.ofInt 8 x := by
    apply BitVec.eq_of_toNat_eq
    simp [BitVec.toNat_ofInt]
    omega
  simp only [wordField, fourBytes, b3, b2, b1, b0]

theorem timeField_eq (n : Nat) : timeField n = fourBytes n := by
  rw [← wordField_ofInt, BitVec.ofInt_natCast]
  rfl

theorem tenthsBytes_eq (v : Option Int) : tenthsBytes v = [(tenthsBytes v).getD 0 0, (tenthsBytes v).getD 1 0] := by cases v <;> rfl

theorem recentLog_eq (now : Nat) (l : List Nat) : recentLog now l = l.filter (fun x => decide (now < x + 3600)) := by
  unfold recentLog ageLog
  refine List.filter_congr fun x _ => ?_
  simp only [passed, ← decide_not, not_le]

theorem codeOfZone_of_zoneOfCode {b : Byte} {z : Zone} (h : zoneOfCode b = some z) : codeOfZone z = b.toNat := by
  unfold zoneOfCode at h
  split at h <;> cases h <;> exact Eq.symm ‹_›

theorem codeOfZone_le (z : Zone) : codeOfZone z ≤ 5 := by cases z <;> decide

theorem zoneOfCode_of_gt {b : Byte} (h : 5 < b.toNat) : zoneOfCode b = none := by
  cases hz : zoneOfCode b with
  | none => rfl
  | some z =>
    have := codeOfZone_of_zoneOfCode hz
    have := codeOfZone_le z
    omega

/-! ### Lists cut or filled with zeros -/

theorem length_padTo (n : Nat) (bs : List Byte) : (padTo n bs).length = n := by simp [padTo]; omega

theorem padTo_append (n : Nat) (as bs : List Byte) : padTo (as.length + n) (as ++ bs) = as ++ padTo n bs := by
  simp only [padTo, List.take_length_add_append, List.length_append, Nat.add_sub_add_left, List.append_assoc]

/-- A record of a padded list of records of `w` bytes each: the record's bytes, or zeros past the list's end. -/
theorem padTo_flatMap_record {α : Type} {f : α → List Byte} {w : Nat} (hf : ∀ x, (f x).length = w) (l : List α) {k n : Nat}
    (hn : n < k) : ((padTo (w * k) (l.flatMap f)).drop (w * n)).take w = (l[n]?.map f).getD (List.replicate w 0) := by
  induction l generalizing k n with
  | nil =>
    have hw : w * n + w ≤ w * k := by
      rw [← Nat.mul_succ]
      exact Nat.mul_le_mul_left w hn
    simp [padTo, List.drop_replicate, List.take_replicate]
    omega
  | cons x rest ih =>
    obtain ⟨k, rfl⟩ : ∃ j, k = j + 1 := ⟨k - 1, by omega⟩
    rw [List.flatMap_cons, Nat.mul_succ, Nat.add_comm, ← hf x, padTo_append]
    cases n with
    | zero => simp
    | succ n =>
      have := ih (k := k) (n := n) (by omega)
      rw [← hf x] at this
      rw [Nat.mul_succ, Nat.add_comm _ (f x).length, List.drop_length_add_append, this]
      rfl

/-! ### The orders as octal digits -/

theorem codeOfLine_lt (l : Line) : codeOfLine l < 8 := by cases l <;> decide

/-- The number that packs lines, three bits to a line, first line highest (R180). -/
def linesNumber (ls : List Line) : Nat := ls.foldl (fun acc l => acc * 8 + codeOfLine l) 0

theorem linesNumber_append_singleton (ls : List Line) (l : Line) : linesNumber (ls ++ [l]) = linesNumber ls * 8 + codeOfLine l := by
  simp [linesNumber]

theorem linesNumber_lt (ls : List Line) : linesNumber ls < 8 ^ ls.length := by
  induction ls using List.reverseRecOn with
  | nil => decide
  | append_singleton ls l ih =>
    have := codeOfLine_lt l
    rw [linesNumber_append_singleton, List.length_append, List.length_singleton, pow_succ]
    omega

/-- Each octal digit of the packed number is the code of its line. -/
theorem linesNumber_digit (ls : List Line) {n : Nat} {l : Line} (h : ls[n]? = some l) :
    linesNumber ls / 8 ^ (ls.length - 1 - n) % 8 = codeOfLine l := by
  induction ls using List.reverseRecOn with
  | nil => cases h
  | append_singleton ls x ih =>
    have hx := codeOfLine_lt x
    rw [linesNumber_append_singleton, List.length_append, List.length_singleton, Nat.add_sub_cancel]
    obtain hn | hn := Nat.lt_or_ge n ls.length
    · rw [List.getElem?_append_left hn] at h
      rw [show ls.length - n = 1 + (ls.length - 1 - n) by omega, pow_add, pow_one, ← Nat.div_div_eq_div_mul,
        show (linesNumber ls * 8 + codeOfLine x) / 8 = linesNumber ls by omega]
      exact ih h
    · obtain ⟨hlt, hl⟩ := List.getElem?_eq_some_iff.1 h
      rw [List.length_append, List.length_singleton] at hlt
      obtain rfl : n = ls.length := by omega
      rw [List.getElem_concat_length rfl] at hl
      rw [Nat.sub_self, pow_zero, Nat.div_one, ← hl]
      omega

/-! ### The queries -/

theorem zoneRecord_bytes {b : Byte} {z : Zone} (hz : zoneOfCode b = some z) (s : State) :
    zoneRecordFields s z =
      [b, BitVec.ofNat 8 (codeOfHostMode (s.zone z).hostMode + 4 * codeOfOpMode (s.zone z).opMode
          + 32 * codeOfSensor (s.zone z).sensor + bitNat (s.ca.entry (.zone z)).masked 128)]
        ++ twoBytes (s.zone z).setpoint ++ [BitVec.ofInt 8 (s.zone z).trim, BitVec.ofInt 8 s.zc.shift]
        ++ twoBytes (s.zone z).sEff ++ tenthsBytes (s.zone z).tempUsed ++ fourBytes (s.zone z).integ ++ twoBytes (s.zone z).demand
        ++ [BitVec.ofNat 8 (64 * codeOfReqKind (s.zone z).reqKind + 8 * (s.zone z).wanted + (s.ca.entry (.zone z)).held),
          BitVec.ofNat 8 (s.zone z).seats]
        ++ twoBytes (s.zone z).timer ++ [BitVec.ofNat 8 (codeOfCurve (s.zone z).curve)] := by
  have hb : BitVec.ofNat 8 (codeOfZone z) = b := by rw [codeOfZone_of_zoneOfCode hz, BitVec.ofNat_toNat, BitVec.setWidth_eq]
  simp only [zoneRecordFields, byteField, hb, intField_eq, natField_eq, tenthsField_eq, wordField_ofInt, intByteField, entryByte,
    Nat.mul_comm 4, Nat.mul_comm 32, Nat.mul_comm 64, Nat.mul_comm 8, List.append_assoc, List.cons_append, List.nil_append]

/-- One entry record of QUERY ARBITER (R65). -/
theorem entryRecord_bytes (now hold : Nat) (e : GrantEntry) :
    entryRecordFields now hold e =
      [BitVec.ofNat 8 (64 * codeOfReqKind e.kind + 8 * e.wanted + e.held),
          BitVec.ofNat 8 (bitNat e.masked 128 + protectionLeft now hold e)] ++ fourBytes (e.since.getD 0 : Nat) := by
  simp only [entryRecordFields, entryByte, byteField, optTimeField, timeField_eq, Nat.mul_comm 64, Nat.mul_comm 8, List.cons_append,
    List.nil_append]

theorem queueFields_bytes (q : List EntryId) :
    queueFields q = [0, 2, 4, 6].map (fun n : Nat => BitVec.ofNat 8 (16 * (q[n]?.map codeOfEntry).getD 15
      + (q[n + 1]?.map codeOfEntry).getD 15)) := by
  unfold queueFields
  rw [List.map_eq_flatMap]
  refine congrArg (fun f => List.flatMap f [0, 2, 4, 6]) (funext fun n => ?_)
  dsimp only
  rw [Nat.mul_comm 16]
  generalize q[n]? = x
  generalize q[n + 1]? = y
  cases x <;> cases y <;> rfl

/-- QUERY ARBITER's bytes: the entries, the queue, the orders, the modes and the pools (R65). -/
theorem arbiterFields_bytes (s : State) :
    arbiterFields s =
      (allEntries.flatMap fun i =>
        [BitVec.ofNat 8 (64 * codeOfReqKind (s.ca.entry i).kind + 8 * (s.ca.entry i).wanted + (s.ca.entry i).held),
          BitVec.ofNat 8 (bitNat (s.ca.entry i).masked 128 + protectionLeft s.partTime s.ca.modes.hold (s.ca.entry i))]
        ++ fourBytes ((s.ca.entry i).since.getD 0 : Nat))
      ++ ([0, 2, 4, 6].map fun n : Nat => BitVec.ofNat 8 (16 * (s.ca.queue[n]?.map codeOfEntry).getD 15
        + (s.ca.queue[n + 1]?.map codeOfEntry).getD 15))
      ++ ordersFields s.ca.orders
      ++ [BitVec.ofNat 8 (codeOfPriority s.ca.modes.saloon + 2 * codeOfPriority s.ca.modes.lower + 4 * codeOfPriority s.ca.modes.upper
            + 8 * codeOfNesting s.ca.modes.nesting), BitVec.ofNat 8 s.ca.modes.hold,
          BitVec.ofNat 8 (16 * s.ca.coolCap + s.ca.free .cool), BitVec.ofNat 8 (16 * s.ca.heatCap + s.ca.free .heat)] := by
  simp only [arbiterFields, entryRecord_bytes, queueFields_bytes, poolByte, byteField, Arbiter.capacity, Nat.mul_comm 16,
    Nat.mul_comm 2, Nat.mul_comm 4, Nat.mul_comm 8, List.append_assoc, List.cons_append, List.nil_append]

/-- The three bytes of the orders hold their number (R65). -/
theorem ordersFields_number {o : Orders} (h : ordersLawful o) :
    ∃ x y z : Byte, ordersFields o = [x, y, z] ∧ x.toNat * 65536 + y.toNat * 256 + z.toNat = linesNumber (o.saloon ++ o.lower ++ o.upper) := by
  have hlen : (o.saloon ++ o.lower ++ o.upper).length = 8 := by
    obtain ⟨h1, h2, h3⟩ := h
    simp [h1.length_eq, h2.length_eq, h3.length_eq]
  have hlt := linesNumber_lt (o.saloon ++ o.lower ++ o.upper)
  rw [hlen] at hlt
  refine ⟨_, _, _, rfl, ?_⟩
  change (BitVec.ofNat 8 (linesNumber (o.saloon ++ o.lower ++ o.upper) / 65536)).toNat * 65536
    + (BitVec.ofNat 8 (linesNumber (o.saloon ++ o.lower ++ o.upper) / 256)).toNat * 256
    + (BitVec.ofNat 8 (linesNumber (o.saloon ++ o.lower ++ o.upper))).toNat = _
  simp only [BitVec.toNat_ofNat]
  omega

/-- QUERY ARBITER's fields, by position (R65, R180). -/
theorem arbiterFields_positions (s : State) :
    (arbiterFields s).length = 59 ∧
      (∀ (i : EntryId) (e : GrantEntry), e = s.ca.entry i →
        ((arbiterFields s).drop (6 * (match i with | .scc => 0 | .sch => 1 | .zone z => 2 + codeOfZone z))).take 6 =
          [BitVec.ofNat 8 (64 * codeOfReqKind e.kind + 8 * e.wanted + e.held),
            BitVec.ofNat 8 (bitNat e.masked 128 + (match e.since with | some x => x + s.ca.modes.hold - s.partTime | none => 0))]
          ++ fourBytes (e.since.getD 0 : Nat)) ∧
      (∀ code : Nat → Nat, code = (fun n => (s.ca.queue[n]?.map codeOfEntry).getD 15) →
        ((arbiterFields s).drop 48).take 4 = [0, 2, 4, 6].map (fun n => BitVec.ofNat 8 (16 * code n + code (n + 1)))) ∧
      (ordersLawful s.ca.orders → ∀ n l, (s.ca.orders.saloon ++ s.ca.orders.lower ++ s.ca.orders.upper)[n]? = some l →
        (((arbiterFields s).getD 52 0).toNat * 65536 + ((arbiterFields s).getD 53 0).toNat * 256
          + ((arbiterFields s).getD 54 0).toNat) / 8 ^ (7 - n) % 8 = codeOfLine l) ∧
      (arbiterFields s).drop 55 =
        [BitVec.ofNat 8 (codeOfPriority s.ca.modes.saloon + 2 * codeOfPriority s.ca.modes.lower
            + 4 * codeOfPriority s.ca.modes.upper + 8 * codeOfNesting s.ca.modes.nesting), BitVec.ofNat 8 s.ca.modes.hold,
          BitVec.ofNat 8 (16 * s.ca.coolCap + s.ca.free .cool), BitVec.ofNat 8 (16 * s.ca.heatCap + s.ca.free .heat)] := by
  rw [arbiterFields_bytes]
  refine ⟨rfl, fun i e he => ?_, fun code hcode => ?_, fun ho n l hl => ?_, rfl⟩
  · subst he
    cases i with
    | scc => rfl
    | sch => rfl
    | zone z => cases z <;> rfl
  · subst hcode
    rfl
  · obtain ⟨x, y, z, hf, hn⟩ := ordersFields_number ho
    have hlen : (s.ca.orders.saloon ++ s.ca.orders.lower ++ s.ca.orders.upper).length = 8 := by
      obtain ⟨h1, h2, h3⟩ := ho
      simp [h1.length_eq, h2.length_eq, h3.length_eq]
    have hd := linesNumber_digit _ hl
    rw [hlen, ← hn] at hd
    rw [hf]
    exact hd

/-- QUERY LOAD's bytes before the shed entries (R90). -/
def loadHead (s : State) : List Byte :=
  twoBytes (allowanceInForce s.la)
    ++ [BitVec.ofNat 8 (codeOfAllowanceStatus s.la.status + bitNat s.la.hostValue.isSome 4 + bitNat s.scm.active 8 + 16 * s.hs.band)]
    ++ twoBytes (s.la.hostValue.getD 0 : Nat) ++ secondsBytes (match s.la.lastRefresh with | some x => s.partTime - x | none => 0)
    ++ twoBytes s.la.fallback ++ twoBytes (committedLoad s) ++ twoBytes (floorLoad s)
    ++ twoBytes ((allowanceInForce s.la : Int) - committedLoad s)
    ++ [BitVec.ofNat 8 (bitNat (decide (0 < countedLoad s (.comp .a))) 1 + bitNat (decide (0 < countedLoad s (.comp .b))) 2
        + bitNat (decide (0 < countedLoad s .pump)) 4 + bitNat (decide (0 < countedLoad s .heater)) 8 + bitNat s.scm.active 16)]
    ++ Zone.all.map (fun z => BitVec.ofNat 8 (s.blower z).speed)
    ++ [BitVec.ofNat 8 (16 * s.ca.coolCap + s.ca.heatCap), BitVec.ofNat 8 s.la.stack.length]

/-- One shed entry (R90). -/
def shedEntryBytes (now : Nat) (e : ShedEntry) : List Byte := BitVec.ofNat 8 (codeOfItem e.item) :: secondsBytes (now - e.time)

theorem loadFields_bytes (s : State) :
    loadFields s = loadHead s ++ (padTo 30 (s.la.stack.flatMap (shedEntryBytes s.partTime)) ++ fourBytes s.partTime) := by
  have hentry : shedEntryFields s.partTime = shedEntryBytes s.partTime := by
    funext e
    simp only [shedEntryFields, shedEntryBytes, heldSeconds_eq, byteField, List.cons_append, List.nil_append]
  have hage : stretchSeconds s.partTime s.la.lastRefresh = (match s.la.lastRefresh with | some x => s.partTime - x | none => 0) := by
    cases s.la.lastRefresh <;> rfl
  have hspeeds : Zone.all.flatMap (fun z => [BitVec.ofNat 8 (s.blower z).speed]) = Zone.all.map (fun z => BitVec.ofNat 8 (s.blower z).speed) :=
    rfl
  simp only [loadFields, loadHead, hentry, heldSeconds_eq, natField_eq, intField_eq, timeField_eq, byteField, hage, hspeeds,
    Nat.mul_comm 16, List.append_assoc, List.cons_append, List.nil_append]

/-- QUERY LOAD's fields, by position (R90, R180). -/
theorem loadFields_positions (s : State) :
    (loadFields s).length = 58 ∧ (loadFields s).take 24 = loadHead s ∧
      (∀ n, n < 10 → (∀ e, s.la.stack[n]? = some e →
          ((loadFields s).drop (24 + 3 * n)).take 3 = shedEntryBytes s.partTime e) ∧
        (s.la.stack.length ≤ n → ((loadFields s).drop (24 + 3 * n)).take 3 = [0, 0, 0])) ∧
      (loadFields s).drop 54 = fourBytes s.partTime := by
  have hhead : (loadHead s).length = 24 := rfl
  have hpad := length_padTo 30 (s.la.stack.flatMap (shedEntryBytes s.partTime))
  rw [loadFields_bytes]
  refine ⟨by simp only [List.length_append, hhead, hpad]; rfl, List.take_left' hhead, fun n hn => ?_, ?_⟩
  · have hrec := padTo_flatMap_record (f := shedEntryBytes s.partTime) (w := 3) (fun _ => rfl) s.la.stack hn
    have hdrop : ((loadHead s ++ (padTo 30 (s.la.stack.flatMap (shedEntryBytes s.partTime)) ++ fourBytes s.partTime)).drop
        (24 + 3 * n)).take 3 = (s.la.stack[n]?.map (shedEntryBytes s.partTime)).getD (List.replicate 3 0) := by
      rw [← hhead, List.drop_length_add_append, List.drop_append_of_le_length (by omega),
        List.take_append_of_le_length (by rw [List.length_drop]; omega)]
      exact hrec
    rw [hdrop]
    refine ⟨fun e he => by rw [he]; rfl, fun hlen => by rw [List.getElem?_eq_none hlen]; rfl⟩
  · rw [← List.append_assoc]
    exact List.drop_left' (by rw [List.length_append, hhead, hpad])

end Sys2Proof.Machine

namespace Sys2Proof.Machine

/-! ## QUERY PLANT and QUERY LOGS by position (R110, R111, R180) -/

/-- The compressor record of QUERY PLANT (R110). -/
def compBytes (s : State) (c : Comp) : List Byte :=
  let r := s.comp c
  [BitVec.ofNat 8 (codeOfCompState r.state + 8 * (if compCounted r.state then if r.throttle then 2 else 1 else 0)),
    BitVec.ofNat 8 (bitNat r.enable 1 + bitNat r.throttle 2 + bitNat (onStack s.la (.comp c)) 4 + bitNat r.episodeOpen 8
      + bitNat r.deferred 16)]
  ++ secondsBytes (s.partTime - r.stateSince)
  ++ [BitVec.ofNat 8 (match r.onSince with | some x => x + 180 - s.partTime | none => 0)]
  ++ twoBytes (r.stoppedSince + 300 - s.partTime : Nat)
  ++ twoBytes (if r.state = .tripped then r.stateSince + 600 - s.partTime else 0 : Nat)
  ++ [BitVec.ofNat 8 (16 * (recentLog s.partTime r.startLog).length + (recentLog s.partTime r.tripLog).length),
    BitVec.ofNat 8 (codeOfCondition r.reason)]

theorem codeOfFan_fanSpeed (r : CompRec) :
    codeOfFan (fanSpeed r) = if compCounted r.state then if r.throttle then 2 else 1 else 0 := by
  unfold fanSpeed contactorClosed
  split
  · split <;> rfl
  · rfl

theorem compFields_bytes (s : State) (c : Comp) : compFields s c = compBytes s c := by
  simp only [compFields, compBytes, byteField, heldSeconds_eq, natField_eq, codeOfFan_fanSpeed, Nat.mul_comm 8, Nat.mul_comm 16,
    List.append_assoc, List.cons_append, List.nil_append]
  rfl

/-- A circuit's three values used (R110). -/
def circuitBytes (s : State) (c : Comp) : List Byte :=
  tenthsBytes (valueUsed (s.ssu.pressureHigh.get c)) ++ tenthsBytes (valueUsed (s.ssu.pressureLow.get c))
    ++ tenthsBytes (valueUsed (s.ssu.coil.get c))

theorem length_tenthsBytes (v : Option Int) : (tenthsBytes v).length = 2 := by cases v <;> rfl

theorem length_circuitBytes (s : State) (c : Comp) : (circuitBytes s c).length = 6 := by
  simp only [circuitBytes, List.length_append, length_tenthsBytes]

/-- A circuit's three statuses in one byte (R110). -/
def circuitStatusByte (s : State) (c : Comp) : Byte :=
  BitVec.ofNat 8 (codeOfChannelStatus (s.ssu.pressureHigh.get c).status + 4 * codeOfChannelStatus (s.ssu.pressureLow.get c).status
    + 16 * codeOfChannelStatus (s.ssu.coil.get c).status)

/-- The seconds of a stretch, 0 while none runs. -/
def stretchAge (now : Nat) (x : Option Nat) : Nat := (x.map (fun y => now - y)).getD 0

/-- QUERY PLANT's bytes after the circuits (R110). -/
def plantTail (s : State) : List Byte :=
  [BitVec.ofNat 8 s.cs.wantedTotal,
      BitVec.ofNat 8 (s.ca.coolCap + bitNat s.cs.sccShort 16 + 32 * codeOfChannelStatus s.ssu.outdoor.status)]
    ++ twoBytes (outdoorUsed s) ++ secondsBytes (stretchAge s.partTime s.cs.excess) ++ secondsBytes (stretchAge s.partTime s.cs.surplus)
    ++ secondsBytes (stretchAge s.partTime s.cs.idle)
    ++ [BitVec.ofNat 8 (bitNat s.hs.pump 1 + 2 * s.hs.band + 8 * codeOfHeaterState s.hs.heater),
      BitVec.ofNat 8 (s.hs.relight + bitNat s.hs.latched 2 + bitNat s.hs.permit 4 + bitNat s.hs.pumpDeferred 8
        + bitNat s.hs.heaterDeferred 16 + 32 * codeOfChannelStatus s.ssu.coolant.status)]
    ++ secondsBytes (s.partTime - s.hs.heaterSince) ++ tenthsBytes (valueUsed s.ssu.coolant)

theorem plantFields_bytes (s : State) :
    plantFields s = compBytes s .a ++ (compBytes s .b ++ (circuitBytes s .a ++ (circuitBytes s .b
      ++ (circuitStatusByte s .a :: circuitStatusByte s .b :: plantTail s)))) := by
  have hage : ∀ x, stretchSeconds s.partTime x = stretchAge s.partTime x := fun x => by cases x <;> rfl
  simp only [plantFields, compFields_bytes, circuitValues, circuitBytes, circuitStatuses, circuitStatusByte, plantTail, byteField,
    heldSeconds_eq, intField_eq, tenthsField_eq, hage, highUsed, lowUsed, coilUsed, coolantUsed, Nat.mul_comm 32, Nat.mul_comm 16,
    Nat.mul_comm 2, Nat.mul_comm 4, Nat.mul_comm 8, List.append_assoc, List.cons_append, List.nil_append]

theorem plantFields_positions (s : State) :
    (plantFields s).length = 52 ∧
      (∀ c : Comp, ∀ n, n = (match c with | .a => 0 | .b => 1) →
        ((plantFields s).drop (11 * n)).take 11 = compBytes s c ∧ ((plantFields s).drop (22 + 6 * n)).take 6 = circuitBytes s c ∧
          ((plantFields s).drop (34 + n)).take 1 = [circuitStatusByte s c]) ∧
      (plantFields s).drop 36 = plantTail s := by
  have htail : (plantTail s).length = 16 := by
    simp only [plantTail, List.length_append, length_tenthsBytes]
    rfl
  have hcomp : ∀ c, (compBytes s c).length = 11 := fun _ => rfl
  have hcirc := length_circuitBytes s
  rw [plantFields_bytes]
  generalize compBytes s = p at *
  generalize circuitBytes s = q at *
  refine ⟨by simp [hcomp, hcirc, htail], fun c n hn => ?_, by simp [List.drop_append, List.drop_eq_nil_of_le, hcomp, hcirc]⟩
  subst hn
  cases c with
  | a => simp [List.drop_append, List.drop_eq_nil_of_le, hcomp, hcirc]
  | b => simp [List.drop_append, List.drop_eq_nil_of_le, hcomp, hcirc]

/-- One compressor's logs (R111): the counts, then the padded ages. -/
def logBytes (s : State) (c : Comp) : List Byte :=
  BitVec.ofNat 8 (16 * (recentLog s.partTime (s.comp c).startLog).length + (recentLog s.partTime (s.comp c).tripLog).length) ::
    (padTo (2 * 6) ((recentLog s.partTime (s.comp c).startLog).flatMap (fun t => twoBytes (s.partTime - t : Nat)))
      ++ padTo (2 * 3) ((recentLog s.partTime (s.comp c).tripLog).flatMap (fun t => twoBytes (s.partTime - t : Nat))))

theorem logFields_bytes (s : State) (c : Comp) : logFields s c = logBytes s c := by
  simp only [logFields, logBytes, natField_eq, byteField, Nat.mul_comm 16, List.cons_append, List.nil_append]

theorem length_logBytes (s : State) (c : Comp) : (logBytes s c).length = 19 := by
  simp only [logBytes, List.length_cons, List.length_append, length_padTo]

/-- The ages of a log by position, 0 past its end, whatever follows them in the list. -/
theorem logAges_position (now : Nat) (l : List Nat) (rest : List Byte) {k m : Nat} (hm : m < k) :
    ((padTo (2 * k) (l.flatMap (fun t => twoBytes (now - t : Nat))) ++ rest).drop (2 * m)).take 2 =
      (match l[m]? with | some x => twoBytes (now - x : Nat) | none => [0, 0]) := by
  have hlen := length_padTo (2 * k) (l.flatMap (fun t => twoBytes (now - t : Nat)))
  rw [List.drop_append_of_le_length (by omega), List.take_append_of_le_length (by rw [List.length_drop]; omega),
    padTo_flatMap_record (f := fun t => twoBytes (now - t : Nat)) (w := 2) (fun _ => rfl) l hm]
  cases l[m]? <;> rfl

theorem logBytes_position (s : State) (c : Comp) (rest : List Byte) :
    (logBytes s c ++ rest).take 1 =
        [BitVec.ofNat 8 (16 * (recentLog s.partTime (s.comp c).startLog).length + (recentLog s.partTime (s.comp c).tripLog).length)] ∧
      (∀ m, m < 6 → ((logBytes s c ++ rest).drop (1 + 2 * m)).take 2 =
        (match (recentLog s.partTime (s.comp c).startLog)[m]? with | some x => twoBytes (s.partTime - x : Nat) | none => [0, 0])) ∧
      ∀ m, m < 3 → ((logBytes s c ++ rest).drop (13 + 2 * m)).take 2 =
        (match (recentLog s.partTime (s.comp c).tripLog)[m]? with | some x => twoBytes (s.partTime - x : Nat) | none => [0, 0]) := by
  unfold logBytes
  refine ⟨rfl, fun m hm => ?_, fun m hm => ?_⟩
  · rw [List.cons_append, List.append_assoc, Nat.add_comm, List.drop_succ_cons]
    exact logAges_position _ _ _ hm
  · have hlen := length_padTo (2 * 6) ((recentLog s.partTime (s.comp c).startLog).flatMap (fun t => twoBytes (s.partTime - t : Nat)))
    generalize padTo (2 * 6) ((recentLog s.partTime (s.comp c).startLog).flatMap (fun t => twoBytes (s.partTime - t : Nat))) = p at hlen ⊢
    rw [List.cons_append, List.append_assoc, show 13 + 2 * m = (p.length + 2 * m) + 1 by omega, List.drop_succ_cons,
      List.drop_length_add_append]
    exact logAges_position _ _ _ hm

/-- Settles O5: each query's fields as lists of bytes, with the positions read off them. -/
theorem queriesAnswer : Obligations.QueriesAnswer := by
  intro s h two htwo four hfour tenths htenths secs hsecs bit hbit young hyoung
  obtain rfl : two = twoBytes := htwo
  obtain rfl : four = fourBytes := hfour
  obtain rfl : tenths = tenthsBytes := htenths
  obtain rfl : secs = secondsBytes := hsecs
  obtain rfl : bit = bitNat := hbit
  obtain rfl : young = recentLog s.partTime := hyoung.trans (funext fun l => (recentLog_eq s.partTime l).symm)
  refine ⟨fun b z hz => ⟨?_, fun r hr e he => ?_⟩, fun b hb => ?_, ⟨_, rfl, ?_, arbiterFields_positions s⟩,
    ⟨_, rfl, ?_, loadFields_positions s⟩, ⟨_, rfl, ?_, ?_⟩, ⟨_, rfl, ?_, ?_⟩, ?_⟩
  · exact congrArg Host.Outcome.next (completeFrame_ok h (replyType 0x04) (by unfold cmdQueryZone; rw [hz]))
  · subst hr he
    exact zoneRecord_bytes hz s
  · exact congrArg Host.Outcome.next
      (completeFrame_refused h (replyType 0x04) (st := .badValue) (by unfold cmdQueryZone; rw [zoneOfCode_of_gt hb]))
  · exact congrArg Host.Outcome.next (completeFrame_ok h (replyType 0x10) rfl)
  · exact congrArg Host.Outcome.next (completeFrame_ok h (replyType 0x12) rfl)
  · exact congrArg Host.Outcome.next (completeFrame_ok h (replyType 0x15) rfl)
  · obtain ⟨hlen, hcomp, htail⟩ := plantFields_positions s
    refine ⟨hlen, fun c r hr n hn => ?_, fun age hage => ?_⟩
    · subst hr
      exact hcomp c n hn
    · obtain rfl : age = stretchAge s.partTime := hage
      exact htail
  · exact congrArg Host.Outcome.next (completeFrame_ok h (replyType 0x28) rfl)
  · rw [logFields_bytes, logFields_bytes]
    refine ⟨by rw [List.length_append, length_logBytes, length_logBytes], fun c r hr n hn => ?_⟩
    subst hr hn
    cases c with
    | a =>
      obtain ⟨h1, h2, h3⟩ := logBytes_position s .a (logBytes s .b)
      exact ⟨h1, fun m hm => by rw [Nat.zero_add]; exact h2 m hm, fun m hm => by rw [Nat.zero_add]; exact h3 m hm⟩
    | b =>
      obtain ⟨h1, h2, h3⟩ := logBytes_position s .b []
      have hdrop : ∀ m, (logBytes s .a ++ logBytes s .b).drop (19 + m) = (logBytes s .b ++ []).drop m := fun m => by
        rw [← length_logBytes s .a, List.drop_length_add_append, List.append_nil]
      refine ⟨by rw [hdrop 0]; exact h1, fun m hm => ?_, fun m hm => ?_⟩
      · rw [Nat.add_assoc, hdrop]
        exact h2 m hm
      · rw [Nat.add_assoc, hdrop]
        exact h3 m hm
  · exact congrArg Host.Outcome.next
      (completeFrame_ok h (replyType 0x21) (by simp only [cmdQueryEvents, halfField, byteField, timeField_eq]; rfl))

end Sys2Proof.Machine

namespace Sys2Proof.Machine

/-! ## Zone records under the Zone Controller's operations -/

theorem PlantOnly.zone {s t : State} (h : PlantOnly s t) (y : Zone) : t.zone y = s.zone y := by rw [State.zone, h.zc]; rfl

theorem ZonesOnly.refl (s : State) : ZonesOnly s s := ⟨.refl s, rfl, rfl, rfl⟩

theorem ZonesOnly.trans {s t u : State} (h : ZonesOnly s t) (k : ZonesOnly t u) : ZonesOnly s u where
  toOutsideKept := h.1.trans k.1
  settings := by rw [← h.settings, ← k.settings]
  scm := k.scm.trans h.scm
  psc := k.psc.trans h.psc

theorem PlantOnly.zonesOnly {s t : State} (h : PlantOnly s t) : ZonesOnly s t := ⟨h.1, by rw [h.zc], h.scm, h.psc⟩

theorem ZonesOnly.ite {s t u : State} {c : Prop} [Decidable c] (h : ZonesOnly s t) (k : ZonesOnly s u) : ZonesOnly s (if c then t else u) := by
  split <;> assumption

theorem setZone_zonesOnly (s : State) (z : Zone) (r : ZoneRec) : ZonesOnly s (s.setZone z r) := ⟨setZone_outside s z r, rfl, rfl, rfl⟩

theorem withdraw_zonesOnly (z : Zone) (s : State) : ZonesOnly s (withdraw z s) :=
  (setZone_zonesOnly s z _).trans (requestTokens_plantOnly z .none 0 _).zonesOnly

/-- The record of a zone whose request is withdrawn (R19). -/
def withdrawnRec (r : ZoneRec) : ZoneRec := { r with integ := 0, demand := 0, reqKind := .none, wanted := 0 }

theorem withdraw_zone (z : Zone) (s : State) (y : Zone) : (withdraw z s).zone y = if y = z then withdrawnRec (s.zone z) else s.zone y :=
  ((requestTokens_plantOnly z .none 0 _).zone y).trans (s.zone_setZone z y _)

theorem handMode_zone (z : Zone) (s : State) (y : Zone) : (handMode z s).zone y = s.zone y := (handMode_plantOnly z s).zone y

/-- The record of a zone brought into its host mode (R20). -/
def hostModeRec (r : ZoneRec) : ZoneRec :=
  if (r.hostMode = .auto ∧ (r.opMode = .off ∨ r.opMode = .vent)) ∨ (r.hostMode ≠ .auto ∧ r.opMode ≠ opOfHost r.hostMode) then
    withdrawnRec { r with opMode := opOfHost r.hostMode, timer := autoLength r }
  else { r with opMode := opOfHost r.hostMode, timer := autoLength r }

theorem applyHostMode_zonesOnly (z : Zone) (s : State) : ZonesOnly s (applyHostMode z s) := by
  have hset : ∀ r, ZonesOnly s (s.setZone z r) := setZone_zonesOnly s z
  have hwith : ∀ r, ZonesOnly s (withdraw z (s.setZone z r)) := fun r => (hset r).trans (withdraw_zonesOnly z _)
  have hhand : ∀ t, ZonesOnly s t → ZonesOnly s (handMode z t) := fun t ht => ht.trans (handMode_plantOnly z t).zonesOnly
  unfold applyHostMode
  refine .ite (.refl s) ?_
  split
  · have h2 : ZonesOnly s (if (s.zone z).opMode = .off ∨ (s.zone z).opMode = .vent then
        withdraw z (s.setZone z { s.zone z with opMode := .auto, timer := autoLength (s.zone z) }) else
        s.setZone z { s.zone z with opMode := .auto, timer := autoLength (s.zone z) }) := .ite (hwith _) (hset _)
    exact .ite h2 (hhand _ h2)
  · exact .ite (hset _) (hhand _ (hwith _))
  · exact .ite (hset _) (hhand _ (hwith _))

/-- In Run and Layover the zone is brought into its host mode, and no other zone moves. -/
theorem applyHostMode_zone {s : State} (h : inUse s.psc.power = true) (z y : Zone) :
    (applyHostMode z s).zone y = if y = z then hostModeRec (s.zone z) else s.zone y := by
  have hset : ∀ r, (s.setZone z r).zone y = if y = z then r else s.zone y := s.zone_setZone z y
  have hwith : ∀ r, (withdraw z (s.setZone z r)).zone y = if y = z then withdrawnRec r else s.zone y := fun r => by
    rw [withdraw_zone, State.zone_setZone_self, hset]
    split <;> rfl
  unfold applyHostMode hostModeRec
  rw [if_neg (by rw [h]; decide)]
  split
  next hm =>
    simp only [hm, opOfHost]
    by_cases ho : (s.zone z).opMode = .off ∨ (s.zone z).opMode = .vent
    · have hne : (s.zone z).opMode ≠ .auto := by rintro he; rw [he] at ho; exact absurd ho (by decide)
      simp [ho, hne, handMode_zone, hwith]
    · by_cases ha : (s.zone z).opMode = .auto
      · simp [ha, hset]
      · simp [ho, ha, handMode_zone, hset]
  all_goals
    next hm =>
      by_cases ho : (s.zone z).opMode = opOfHost (s.zone z).hostMode
      · simp [hm, ho, hset]
      · rw [hm] at ho
        simp [hm, ho, handMode_zone, hwith]

/-! ## Ends of events -/

theorem committedLoad_setZone (s : State) (z : Zone) (r : ZoneRec) : committedLoad (s.setZone z r) = committedLoad s := rfl

/-- A zone record changed in anything but its operating mode leaves the load bound. -/
theorem settled_setZone {s : State} {z : Zone} {r : ZoneRec} (h : r.opMode = (s.zone z).opMode) :
    settled (s.setZone z r) = settled s := by
  have hf : floorLoad (s.setZone z r) = floorLoad s := by
    refine congrArg (fun l : List Nat => l.sum + screenLoad s) (List.map_congr_left fun y _ => ?_)
    rw [s.zone_setZone]
    split
    next hy => rw [h, hy]; rfl
    next => rfl
  have hl : loadBound (s.setZone z r) = loadBound s := congrArg (max (allowanceInForce s.la)) hf
  rw [settled, hl]
  rfl

/-- In a wind-down in which plant is still to stop and nothing to shed, an event ends with its stopped reports alone (R157). -/
theorem endEvent_unfinished {s : State} (hw : s.psc.power = .windingDown) (hs : settled s = true)
    (hr : reportStopped s ≠ ⟨true, true, true⟩) : endEvent s = s.setPsc { s.psc with stopped := reportStopped s } := by
  have hn : ((reportStopped s).cs && (reportStopped s).hs && (reportStopped s).apc) = false := by
    generalize reportStopped s = r at hr
    rw [Bool.eq_false_iff]
    intro h
    simp only [Bool.and_eq_true] at h
    obtain ⟨⟨hc, hh⟩, ha⟩ := h
    exact hr (by cases r; simp_all)
  rw [endEvent, shedTest_settled hs]
  simp only [windDownReports, if_pos hw, hn]
  rfl

theorem setPsc_zone (s : State) (v : PowerCtl) (y : Zone) : (s.setPsc v).zone y = s.zone y := rfl

theorem withReply_zone (rtype st : Byte) (fs : List Byte) (s : State) (y : Zone) : (withReply rtype st fs s).zone y = s.zone y := rfl

/-! ## ZONE SET (R20) -/

theorem codeOfHostMode_of_hostModeOfCode {n : Nat} {hm : HostMode} (h : hostModeOfCode n = some hm) : codeOfHostMode hm = n := by
  unfold hostModeOfCode at h
  split at h <;> cases h <;> rfl

theorem hostModeOfCode_of_gt {n : Nat} (h : 2 < n) : hostModeOfCode n = none := by
  rw [← Option.not_isSome_iff_eq_none, hostModeOfCode_isSome]
  simp only [Bool.and_eq_true, decide_eq_true_eq]
  omega

theorem stepSetpoint_eq (x : Int) : stepSetpoint x = (max 170 (min 280 x)) / 5 * 5 := by rw [stepSetpoint, clampInt_eq (by decide)]

theorem ofNat_eq_byte {n : Nat} {b : Byte} (h : n = b.toNat) : BitVec.ofNat 8 n = b := by
  rw [h, BitVec.ofNat_toNat, BitVec.setWidth_eq]

/-- ZONE SET with valid operands: the effect, and the answer byte by byte. -/
theorem execZoneSet_eq {b m : Byte} {sp : Half} {s : State} (h : readyForCommand s = true) {z : Zone} (hz : zoneOfCode b = some z)
    {hm : HostMode} (hh : hostModeOfCode m.toNat = some hm) {x : Int} (hx : x = (max 170 (min 280 sp.toInt)) / 5 * 5) :
    exec (.zoneSet b m sp) s =
      .next
        (withReply 0x81 (if x = sp.toInt then 0 else 1) [b, m, highByte (BitVec.ofInt 16 x), lowByte (BitVec.ofInt 16 x)]
          (endEvent (applyHostMode z (s.setZone z (zoneSetRec hm x (s.zone z)))))) := by
  rw [← stepSetpoint_eq] at hx
  subst hx
  refine congrArg Host.Outcome.next
    (completeFrame_done h (replyType 0x01) (body := cmdZoneSet b m sp) (b := stepSetpoint sp.toInt != sp.toInt) ?_ (by simp))
  unfold cmdZoneSet
  rw [hz, hh]
  simp only [byteField, ofNat_eq_byte (codeOfZone_of_zoneOfCode hz), ofNat_eq_byte (codeOfHostMode_of_hostModeOfCode hh)]
  rfl

/-- What a formed reply leaves of a step of the zones beside it. -/
theorem ZonesOnly.withoutReply {s t : State} (h : ZonesOnly s t) (hi : s.hlu.inHand = none) (rtype st : Byte) (fs : List Byte) :
    ZonesOnly s (withoutReply (withReply rtype st fs t)) := by
  refine ⟨⟨h.partTime, h.freeCount, h.pins, h.ssu, h.ps, h.pending, ?_⟩, h.settings, h.scm, h.psc⟩
  have hl := congrArg (fun l : HostLink => { l with inHand := none }) h.link
  have hs : ({ linkOf s.hlu with inHand := none } : HostLink) = linkOf s.hlu := by rw [← hi]; rfl
  exact hl.trans hs

/-- Settles O10: `applyHostMode` brings the one zone into its host mode, and the end of the event moves no zone. -/
theorem zoneSetActs : Obligations.ZoneSetActs := by
  intro b m sp s h
  obtain ⟨hi, hp⟩ := (readyForCommand_iff s).1 h
  refine ⟨fun z hz hm hh x hx st hst => ⟨fun hu => ⟨_, execZoneSet_eq h hz hh hx, ?_⟩, fun hw hs hr => ⟨_, execZoneSet_eq h hz hh hx, ?_⟩⟩,
    fun hbad => ?_⟩
  · have hzone := applyHostMode_zone (s := s.setZone z (zoneSetRec hm x (s.zone z))) hu z
    have honly := (setZone_zonesOnly s z (zoneSetRec hm x (s.zone z))).trans (applyHostMode_zonesOnly z _)
    rw [State.zone_setZone_self] at hzone
    have hend : ∀ t, ZonesOnly s t → endEvent t = shedTest t := fun t ht =>
      endEvent_awake (by rw [ht.psc]; intro he; rw [he] at hu; cases hu)
    rw [hend _ honly]
    have hshed := shedTest_plantOnly (applyHostMode z (s.setZone z (zoneSetRec hm x (s.zone z))))
    refine ⟨hst ▸ rfl, (honly.trans hshed.zonesOnly).withoutReply hi _ _ _, fun y hy => ?_, ?_⟩
    · refine (hshed.zone y).trans ?_
      rw [hzone, if_neg hy, s.zone_setZone_of_ne _ hy]
    · refine (hshed.zone z).trans ?_
      rw [hzone, if_pos rfl]
      rfl
  · have hnot : inUse (s.setZone z (zoneSetRec hm x (s.zone z))).psc.power = false := by
      show inUse s.psc.power = false
      rw [hw]
      rfl
    have happly : applyHostMode z (s.setZone z (zoneSetRec hm x (s.zone z))) = s.setZone z (zoneSetRec hm x (s.zone z)) := by
      rw [applyHostMode, hnot]
      rfl
    have hset := (settled_setZone (s := s) (z := z) (r := zoneSetRec hm x (s.zone z)) rfl).trans hs
    rw [happly, endEvent_unfinished (s := s.setZone z _) hw hset hr]
    simp only [withReply_zone, setPsc_zone]
    exact ⟨fun y hy => s.zone_setZone_of_ne _ hy, s.zone_setZone_self z _⟩
  · refine congrArg Host.Outcome.next (completeFrame_refused h (replyType 0x01) (body := cmdZoneSet b m sp) (st := .badValue) ?_)
    unfold cmdZoneSet
    obtain hb | hm := hbad
    · rw [zoneOfCode_of_gt hb]
    · rw [hostModeOfCode_of_gt hm]
      cases zoneOfCode b <;> rfl

end Sys2Proof.Machine

namespace Sys2Proof.Machine

/-! ## Orders packed in words (R181) -/

theorem codeOfLine_of_lineOfCode {n : Nat} {l : Line} (h : lineOfCode n = some l) : codeOfLine l = n := by
  unfold lineOfCode at h
  split at h <;> cases h <;> rfl

theorem map_codeOfLine {codes : List Nat} {ls : List Line} (h : codes.mapM lineOfCode = some ls) : ls.map codeOfLine = codes := by
  induction codes generalizing ls with
  | nil =>
    cases h
    rfl
  | cons c rest ih =>
    rw [List.mapM_cons] at h
    obtain ⟨l, hl, h⟩ := Option.bind_eq_some_iff.1 h
    obtain ⟨ks, hks, h⟩ := Option.bind_eq_some_iff.1 h
    cases h
    rw [List.map_cons, ih hks, codeOfLine_of_lineOfCode hl]

theorem codes_of_orderOfCodes {a : ArbiterId} {codes : List Nat} {ls : List Line} (h : orderOfCodes a codes = some ls) :
    ls.map codeOfLine = codes := by
  unfold orderOfCodes at h
  split at h
  next hm =>
    split at h
    · cases h
      exact map_codeOfLine hm
    · cases h
  next => cases h

/-- A number that packs codes, four bits to a code, first code highest. -/
def codesWord (codes : List Nat) : Nat := codes.foldl (fun n c => 16 * n + c) 0

theorem orderWord_eq (ls : List Line) : orderWord ls = codesWord (ls.map codeOfLine) := by
  unfold orderWord codesWord
  rw [List.foldl_map]

theorem codesWord_orderCodes {a : ArbiterId} {w : Half} {codes : List Nat} (h : orderCodes a w = some codes) :
    codesWord codes = w.toNat := by
  cases a <;> simp only [orderCodes] at h <;> split at h <;> cases h <;> simp only [codesWord, List.foldl_cons, List.foldl_nil] <;> omega

/-- The word of every permutation of the arbiter's lines unpacks to it. -/
theorem unpack_orderWord (a : ArbiterId) :
    ∀ ks ∈ (arbiterLines a).permutations', (orderCodes a (BitVec.ofNat 16 (orderWord ks))).bind (orderOfCodes a) = some ks := by
  cases a <;> decide

/-- An order is loaded as the store's word packs it (R176, R181). -/
theorem loadOrder_taken (a : ArbiterId) (w : Half) : orderTaken a w.toNat (loadOrder a w).value := by
  refine ⟨fun ks hks hw => ?_, fun hno => ?_⟩
  · have h := unpack_orderWord a ks (List.mem_permutations'.2 hks)
    rw [hw, BitVec.ofNat_toNat, BitVec.setWidth_eq] at h
    rw [loadOrder, h]
    rfl
  · cases h : (orderCodes a w).bind (orderOfCodes a) with
    | none =>
      rw [loadOrder, h]
      rfl
    | some ls =>
      obtain ⟨codes, hc, ho⟩ := Option.bind_eq_some_iff.1 h
      refine absurd ?_ (hno ls (orderOfCodes_perm ho))
      rw [orderWord_eq, codes_of_orderOfCodes ho, codesWord_orderCodes hc]

/-! ## The settings that a load takes (R173, R176) -/

/-- Every working setting but the orders is one of `g`'s. -/
structure SettingsIn (g : Settings) (t : State) : Prop where
  zc : t.zc.kp = g.kp ∧ t.zc.ki = g.ki ∧ t.zc.db = g.db ∧ t.zc.pendingPeriod = g.period ∧ t.zc.setbackOffset = g.setbackOffset
  zone : ∀ z, (t.zone z).setpoint = (g.zones.get z).setpoint ∧ (t.zone z).hostMode = (g.zones.get z).hostMode ∧
    (t.zone z).curve = (g.zones.get z).curve ∧ (t.zone z).setbackMin = (g.zones.get z).setbackMin ∧
    (t.zone z).standbyMin = (g.zones.get z).standbyMin ∧ (t.zone z).mask = (g.zones.get z).mask
  modes : t.ca.modes = g.modes
  fallback : t.la.fallback = g.fallback
  departLead : t.psc.departLead = g.departLead
  enables : (t.comp .a).enable = g.compEnable.a ∧ (t.comp .b).enable = g.compEnable.b
  permit : t.hs.permit = g.permit
  air : t.apc.ventMin = g.ventMin ∧ t.apc.freshMin = g.freshMin ∧ t.apc.curveTable = g.curveTable
  link : t.hlu.enabled = g.eventEnable ∧ t.hlu.snapshotRate = g.snapshotRate

theorem loadNamed_value {α : Type} (d : α) (o : Option α) : (loadNamed d o).value = o.getD d := by cases o <;> rfl

theorem loadSetpoint_value (w : Half) : (loadSetpoint w).value = (max 170 (min 280 w.toNat) / 5 * 5 : Nat) := by
  refine (stepSetpoint_eq _).trans ?_
  omega

theorem loadAllowance_value (w : Half) : (loadAllowance w).value = min 15000 w.toNat / 50 * 50 := by
  rw [Nat.min_comm]
  rfl

theorem loadQuantity_value {lo hi : Nat} (h : lo ≤ hi) (w : Half) : (loadQuantity lo hi w).value = max lo (min hi w.toNat) :=
  clampNat_eq h w.toNat

theorem loadQuantity_zero_value (hi : Nat) (w : Half) : (loadQuantity 0 hi w).value = min hi w.toNat := clampNat_zero hi w.toNat

theorem loadInt_value {lo hi : Nat} (h : lo ≤ hi) (w : Half) : (loadInt lo hi w).value = (max lo (min hi w.toNat) : Nat) :=
  congrArg Nat.cast (clampNat_eq h w.toNat)

theorem loadInt_zero_value (hi : Nat) (w : Half) : (loadInt 0 hi w).value = (min hi w.toNat : Nat) :=
  congrArg Nat.cast (clampNat_zero hi w.toNat)

theorem defaultMask_eq (z : Zone) : defaultMask z = ⟨true, true, z == .e || z == .l1, true⟩ := by cases z <;> rfl

theorem loadEnable_value (w : Half) :
    (loadNamed (0x7FFF : Half) (if flagSetValid w then some w else none)).value =
      if w.toNat < 32768 then BitVec.ofNat 16 w.toNat else 0x7FFF := by
  have hs := flagSet_isSome w
  rw [loadNamed_value]
  by_cases h : w.toNat < 32768
  · have hv : flagSetValid w = true := by
      by_contra hv
      rw [if_neg hv] at hs
      simp at hs
      omega
    rw [if_pos hv, if_pos h, BitVec.ofNat_toNat, BitVec.setWidth_eq]
    rfl
  · have hv : ¬ flagSetValid w = true := fun hv => by
      rw [if_pos hv] at hs
      simp at hs
      omega
    rw [if_neg hv, if_neg h]
    rfl

theorem loadPermit_value (n : Nat) : (loadNamed true (permitOfCode n)).value = (n != 0) := by
  match n with
  | 0 | 1 => rfl
  | n + 2 => simp [permitOfCode, loadNamed]

theorem loadCompSet_value (n : Nat) :
    (loadNamed (⟨true, true⟩ : PerComp Bool) (compSetOfCode n)).value.a = (if n < 4 then n.testBit 0 else true) ∧
      (loadNamed (⟨true, true⟩ : PerComp Bool) (compSetOfCode n)).value.b = if n < 4 then n.testBit 1 else true := by
  unfold compSetOfCode
  split <;> exact ⟨rfl, rfl⟩

/-- A zone's row of the store (R173). -/
theorem loadZone_settings (m : Memory) (z : Zone) :
    (loadSettings m).1.zones.get z = (loadZone m z).1 := by cases z <;> rfl

/-- The settings of a load, as the words of the store say them (R173, R176). -/
theorem settingsTaken_of_settingsIn {m : Memory} {t : State} (h : SettingsIn (loadSettings m).1 t) {w : Nat → Nat → Nat}
    (hw : w = fun r c => (Memory.read m (r * 8 + c)).toNat) : settingsTaken w t := by
  subst hw
  obtain ⟨⟨hkp, hki, hdb, hper, hoff⟩, hzone, hmodes, hfb, hlead, ⟨hea, heb⟩, hpermit, ⟨hvent, hfresh, htable⟩, hen, hrate⟩ := h
  refine ⟨⟨?_, ?_, ?_, ?_, ?_⟩, fun z => ?_, ⟨?_, ?_, ?_, ?_, ?_⟩, ⟨?_, ?_, ?_, ?_, ?_⟩, ⟨?_, ?_, ?_, fun a ha => ?_⟩, ?_, ?_⟩
  · exact hkp.trans (loadInt_value (by decide) _)
  · exact hki.trans (loadInt_zero_value _ _)
  · exact hdb.trans (loadInt_zero_value _ _)
  · exact hper.trans (loadQuantity_zero_value _ _)
  · exact hoff.trans (loadInt_value (by decide) _)
  · obtain ⟨hsp, hhost, hcurve, hsb, hst, hmask⟩ := hzone z
    rw [loadZone_settings] at hsp hhost hcurve hsb hst hmask
    refine ⟨hsp.trans (loadSetpoint_value _), hhost.trans (loadNamed_value _ _), hcurve.trans (loadNamed_value _ _),
      hsb.trans (loadQuantity_value (by decide) _), hst.trans (loadQuantity_value (by decide) _), ?_⟩
    rw [← defaultMask_eq]
    exact hmask.trans (loadNamed_value _ _)
  · rw [hmodes]
    exact loadNamed_value _ _
  · rw [hmodes]
    exact loadNamed_value _ _
  · rw [hmodes]
    exact loadNamed_value _ _
  · rw [hmodes]
    exact loadNamed_value _ _
  · rw [hmodes]
    exact loadQuantity_value (by decide) _
  · exact hfb.trans (loadAllowance_value _)
  · exact hlead.trans (loadQuantity_value (by decide) _)
  · exact hea.trans (loadCompSet_value _).1
  · exact heb.trans (loadCompSet_value _).2
  · exact hpermit.trans (loadPermit_value _)
  · exact hvent.trans (loadQuantity_value (by decide) _)
  · exact hfresh.trans (loadQuantity_zero_value _ _)
  · rw [htable]
    simp [loadSettings, loadPoints]
  · rw [htable]
    have hmod : a - 8 * (a / 8) = a % 8 := by omega
    simp [loadSettings, loadPoints, loadQuantity_zero_value, ha, hmod, wordAt, storeAddress]
  · exact hen.trans (loadEnable_value _)
  · exact hrate.trans (loadQuantity_zero_value _ _)

/-- The orders of a load, as the words of the store pack them (R181). -/
theorem loadSettings_orders (m : Memory) {w : Nat → Nat → Nat} (hw : w = fun r c => (Memory.read m (r * 8 + c)).toNat) :
    orderTaken .saloon (w 7 4) (loadSettings m).1.orders.saloon ∧ orderTaken .lower (w 7 5) (loadSettings m).1.orders.lower ∧
      orderTaken .upper (w 7 6) (loadSettings m).1.orders.upper := by
  subst hw
  exact ⟨loadOrder_taken .saloon _, loadOrder_taken .lower _, loadOrder_taken .upper _⟩

end Sys2Proof.Machine

namespace Sys2Proof.Machine

/-! ## Arbiter events that change nothing -/

theorem handHeld_same {a : Arbiter} {s : State} {z : Zone} (h : s.ca = a) : handHeld a s z = s := by
  unfold handHeld
  rw [h]
  exact if_pos rfl

/-- An arbiter event that leaves its arbiter as it is hands on the totals alone. -/
theorem arbEvent_settled {f : Arbiter → ArbResult} {s : State} (h : f s.ca = settledResult s.ca) : arbEvent f s = handTotals s := by
  have hfold : ∀ l : List Zone, l.foldl (handHeld s.ca) (handTotals s) = handTotals s := fun l => by
    induction l with
    | nil => rfl
    | cons z l ih => rw [List.foldl_cons, handHeld_same (a := s.ca) (s := handTotals s) rfl, ih]
  unfold arbEvent
  rw [h]
  exact hfold _

theorem handRequest_none {now : Nat} {z : Zone} {a : Arbiter} (h : (a.entry (.zone z)).kind = .none) :
    handRequest now z .none 0 a = settledResult a := by
  unfold handRequest
  simp only [h, if_true]

/-! ## Entries to Standby from a fresh reset -/

/-- The record of a zone in Standby with its request withdrawn (R31). -/
def standbyRec (r : ZoneRec) : ZoneRec := withdrawnRec { r with opMode := .standby, trim := 0, timer := 0 }

/-- A blower at 0% whose zone is in Standby stays there (R134). -/
theorem computeBlower_standby {s : State} {z : Zone} (hm : (s.blower z).mode = some .standby) (hs : (s.blower z).speed = 0) :
    computeBlower z s = s := by
  unfold computeBlower
  dsimp only
  rw [hm, hs]
  simp [targetSpeed]

theorem handMode_standby {s : State} {z : Zone} (hm : (s.zone z).opMode = .standby) (hs : (s.blower z).speed = 0) :
    handMode z s = s.setBlower z { s.blower z with mode := some .standby, demand := (s.zone z).demand.natAbs } := by
  unfold handMode
  dsimp only
  rw [hm, computeBlower_standby]
  · rw [State.blower_setBlower_self]
  · rw [State.blower_setBlower_self]
    exact hs

theorem withdraw_fresh {s : State} {z : Zone} (hk : (s.ca.entry (.zone z)).kind = .none) (ht : handTotals s = s) :
    withdraw z s = s.setZone z (withdrawnRec (s.zone z)) := by
  unfold withdraw requestTokens
  exact (arbEvent_settled (s := s.setZone z (withdrawnRec (s.zone z))) (handRequest_none hk)).trans
    (congrArg (fun t : State => t.setZone z (withdrawnRec (s.zone z))) ht)

/-- A zone that asks for nothing enters Standby with its own record and its blower's alone. -/
theorem enterStandby_fresh {s : State} {z : Zone} (hop : (s.zone z).opMode ≠ .standby) (hk : (s.ca.entry (.zone z)).kind = .none)
    (ht : handTotals s = s) (hb : (s.blower z).speed = 0) :
    enterStandby z s = (s.setZone z (standbyRec (s.zone z))).setBlower z { s.blower z with mode := some .standby, demand := 0 } := by
  have hw : withdraw z (s.setZone z { s.zone z with opMode := .standby, trim := 0, timer := 0 }) = s.setZone z (standbyRec (s.zone z)) := by
    rw [withdraw_fresh (s := s.setZone z _) hk
      (congrArg (fun t : State => t.setZone z { s.zone z with opMode := .standby, trim := 0, timer := 0 }) ht),
      State.zone_setZone_self, State.setZone_setZone]
    rfl
  unfold enterStandby
  dsimp only
  rw [if_neg hop, hw, handMode_standby]
  · rw [State.zone_setZone_self]
    rfl
  · rw [State.zone_setZone_self]
    rfl
  · exact hb

/-- A state right after a reset's blocks: no zone in Standby, nothing asked, no blower moving. -/
structure FreshBlocks (s : State) : Prop where
  opMode : ∀ z, (s.zone z).opMode ≠ .standby
  seats : ∀ z, (s.zone z).seats = 0
  kind : ∀ z, (s.ca.entry (.zone z)).kind = .none
  totals : handTotals s = s
  blower : ∀ z, (s.blower z).speed = 0 ∧ (s.blower z).held = 0
  precondition : s.psc.precondition = false

/-- The zones of a list have gone to Standby, and nothing but their records and blowers has moved. -/
structure StandbyEntered (l : List Zone) (s t : State) : Prop where
  zone : ∀ z, t.zone z = if z ∈ l then standbyRec (s.zone z) else s.zone z
  blower : ∀ z, (t.blower z).speed = 0 ∧ (t.blower z).held = 0
  rest : ∃ zs bs, t = (s.setZc { s.zc with zones := zs }).setApc { s.apc with blowers := bs }

theorem StandbyEntered.step {l : List Zone} {s t : State} (hf : FreshBlocks s) (h : StandbyEntered l s t) {z : Zone} (hz : z ∉ l) :
    StandbyEntered (z :: l) s (layoverZone t z) := by
  obtain ⟨hzone, hblower, zs, bs, ht⟩ := h
  have hrec : t.zone z = s.zone z := by rw [hzone, if_neg hz]
  have henter : layoverZone t z =
      (t.setZone z (standbyRec (s.zone z))).setBlower z { t.blower z with mode := some .standby, demand := 0 } := by
    unfold layoverZone
    dsimp only
    rw [hrec, if_pos (hf.seats z), show t.psc.precondition = false by rw [ht]; exact hf.precondition, Bool.false_and,
      if_neg Bool.false_ne_true, ← hrec]
    refine enterStandby_fresh (by rw [hrec]; exact hf.opMode z) (by rw [ht]; exact hf.kind z) ?_ (hblower z).1
    rw [ht]
    exact congrArg (fun u : State => (u.setZc { s.zc with zones := zs }).setApc { s.apc with blowers := bs }) hf.totals
  rw [henter]
  refine ⟨fun y => ?_, fun y => ?_, (t.zc.zones.set z (standbyRec (s.zone z))),
    (t.apc.blowers.set z { t.blower z with mode := some .standby, demand := 0 }), by rw [ht]; rfl⟩
  · show (t.setZone z (standbyRec (s.zone z))).zone y = _
    rw [State.zone_setZone, hzone]
    by_cases hy : y = z
    · simp [hy]
    · simp [hy]
  · rw [State.blower_setBlower]
    split
    · exact hblower z
    · exact hblower y

theorem StandbyEntered.foldl {s : State} (hf : FreshBlocks s) (l : List Zone) {done : List Zone} {t : State}
    (h : StandbyEntered done s t) (hn : l.Nodup) (hd : ∀ z ∈ l, z ∉ done) :
    StandbyEntered (l.reverse ++ done) s (l.foldl layoverZone t) := by
  induction l generalizing done t with
  | nil => exact h
  | cons z l ih =>
    obtain ⟨hz, hl⟩ := List.nodup_cons.1 hn
    have := ih (h.step hf (hd z List.mem_cons_self)) hl fun y hy hc => by
      obtain rfl | hc := List.mem_cons.1 hc
      · exact hz hy
      · exact hd y (List.mem_cons_of_mem _ hy) hc
    rwa [List.foldl_cons, List.reverse_cons, List.append_assoc]

theorem standbyEntered_all {s : State} (hf : FreshBlocks s) : StandbyEntered (Zone.all.reverse ++ []) s (Zone.all.foldl layoverZone s) :=
  StandbyEntered.foldl hf Zone.all ⟨fun z => by simp, hf.blower, s.zc.zones, s.apc.blowers, rfl⟩ (by decide) fun _ _ => by simp

/-- The entry to Run or Layover at a reset (R153). -/
theorem resetEntry_fresh {s : State} (hf : FreshBlocks s) :
    ∃ zs bs, resetEntry s =
        ((enterPower (if s.pins.ignition then .run else .layover) s).setZc { s.zc with zones := zs }).setApc
          { s.apc with blowers := bs } ∧
      (∀ z, zs.get z = if s.pins.ignition then s.zone z else standbyRec (s.zone z)) ∧
      ∀ z, (bs.get z).speed = 0 ∧ (bs.get z).held = 0 := by
  cases hi : s.pins.ignition with
  | true => exact ⟨s.zc.zones, s.apc.blowers, by rw [resetEntry, hi]; rfl, fun _ => rfl, hf.blower⟩
  | false =>
    have hp : FreshBlocks (enterPower .layover s) := by
      obtain ⟨hop, hseats, hk, ht, hb, hpre⟩ := hf
      exact ⟨hop, hseats, hk, congrArg (enterPower .layover) ht, hb, hpre⟩
    obtain ⟨hzone, hblower, zs, bs, he⟩ := standbyEntered_all hp
    refine ⟨zs, bs, ?_, fun z => ?_, fun z => ?_⟩
    · rw [resetEntry, hi]
      exact he
    · have := hzone z
      rw [if_pos (by cases z <;> decide), he] at this
      exact this
    · have := hblower z
      rw [he] at this
      exact this

theorem resetBlocks_zone (now : Nat) (pins : Pins) (lineRate : Nat) (cs : Settings → Cooling) (hs : Settings → Heating) (s : State)
    (z : Zone) :
    (resetBlocks now pins lineRate cs hs s).zone z = resetZone ((loadSettings (resetStore s.ps).cells).1.zones.get z) :=
  PerZone.get_map _ _ z

theorem freshBlocks_resetBlocks (now : Nat) (pins : Pins) (lineRate : Nat) {cs : Settings → Cooling} {hs : Settings → Heating} (s : State)
    (hc : ∀ g, (cs g).wantedTotal = 0 ∧ (cs g).sccShort = false) (hh : ∀ g, (hs g).wantedTotal = 0) :
    FreshBlocks (resetBlocks now pins lineRate cs hs s) := by
  have hcool : ∀ g, ({ cs g with wantedTotal := 0, sccShort := false } : Cooling) = cs g := fun g => by
    obtain ⟨hw, hs⟩ := hc g
    rw [← hw, ← hs]
  have hheat : ∀ g, ({ hs g with wantedTotal := 0 } : Heating) = hs g := fun g => by rw [← hh g]
  refine ⟨fun z => ?_, fun z => ?_, fun z => ?_, ?_, fun z => ?_, rfl⟩
  · rw [resetBlocks_zone]
    show opOfHost _ ≠ .standby
    generalize ((loadSettings (resetStore s.ps).cells).1.zones.get z).hostMode = m
    cases m <;> decide
  · rw [resetBlocks_zone]
    rfl
  · cases z <;> rfl
  · unfold handTotals resetBlocks
    dsimp only [State.setCs, State.setHs]
    congr 1
    · exact hcool _
    · exact hheat _
  · cases z <;> exact ⟨rfl, rfl⟩

/-! ## Loads of a state in which no compressor and no blower counts -/

/-- No compressor stage, no zone blower and no screen blower is counted (R72). -/
structure QuietAir (s : State) : Prop where
  comps : ∀ c, compCounted (s.comp c).state = false
  blowers : ∀ z, (s.blower z).speed = 0
  screen : s.scm.active = false

theorem QuietAir.countedLoad_comp {s : State} (h : QuietAir s) (c : Comp) : countedLoad s (.comp c) = 0 := by
  simp only [countedLoad, h.comps c, Bool.false_and, Bool.false_eq_true, if_false]

theorem QuietAir.countedLoad_blower {s : State} (h : QuietAir s) (z : Zone) : countedLoad s (.blower z) = 0 := by
  simp only [countedLoad, h.blowers z, Nat.mul_zero]

/-- Pump and heater are then the whole committed load. -/
theorem QuietAir.committedLoad {s : State} (h : QuietAir s) : committedLoad s = countedLoad s .pump + countedLoad s .heater := by
  simp only [Machine.committedLoad, allItems, List.map_cons, List.map_nil, List.sum_cons, List.sum_nil, h.countedLoad_comp,
    h.countedLoad_blower, screenLoad, h.screen, Bool.false_eq_true, if_false]
  omega

/-! ## The store after a reset (R177) -/

theorem resetStore_idle (p : ProfileStore) : (resetStore p).state = .idle := by
  obtain ⟨cells, st⟩ := p
  cases st <;> rfl

/-- A word in progress is left at 0, and every other word is as it was. -/
theorem read_resetStore (p : ProfileStore) (a : Nat) :
    Memory.read (resetStore p).cells a =
      match p.state with
      | .idle => Memory.read p.cells a
      | .erasing r c _ | .writing r c _ => if a = r * 8 + c then 0 else Memory.read p.cells a := by
  have hwrite : ∀ r c, Memory.read (Memory.write p.cells (storeAddress r c) 0) a = if a = r * 8 + c then 0 else Memory.read p.cells a :=
    fun r c => by
      split
      next h => rw [h]; exact Memory.read_write_self _ _ _
      next h => exact Memory.read_write_of_ne _ _ h
  obtain ⟨cells, st⟩ := p
  cases st with
  | idle => rfl
  | erasing r c v => exact hwrite r c
  | writing r c v => exact hwrite r c

/-! ## What both resets leave (R153, R172, R176) -/

/-- The settings after the entry that a reset makes are those of the store. -/
theorem settingsIn_resetEntry {now : Nat} {pins : Pins} {lineRate : Nat} {cs : Settings → Cooling} {hs : Settings → Heating} {s : State}
    {p : PowerState} {zs : PerZone ZoneRec} {bs : PerZone BlowerRec} {g : Settings}
    (hg : g = (loadSettings (resetStore s.ps).cells).1)
    (hzs : ∀ z, zs.get z = resetZone (g.zones.get z) ∨ zs.get z = standbyRec (resetZone (g.zones.get z)))
    (hc : (cs g).comps.a.enable = g.compEnable.a ∧ (cs g).comps.b.enable = g.compEnable.b) (hh : (hs g).permit = g.permit) :
    SettingsIn g
      (((enterPower p (resetBlocks now pins lineRate cs hs s)).setZc
          { (resetBlocks now pins lineRate cs hs s).zc with zones := zs }).setApc
        { (resetBlocks now pins lineRate cs hs s).apc with blowers := bs }) := by
  subst hg
  refine ⟨⟨rfl, rfl, rfl, rfl, rfl⟩, fun z => ?_, rfl, rfl, rfl, hc, hh, ⟨rfl, rfl, rfl⟩, ?_⟩
  · show (zs.get z).setpoint = _ ∧ (zs.get z).hostMode = _ ∧ (zs.get z).curve = _ ∧ (zs.get z).setbackMin = _ ∧
      (zs.get z).standbyMin = _ ∧ (zs.get z).mask = _
    obtain h | h := hzs z <;> rw [h] <;> exact ⟨rfl, rfl, rfl, rfl, rfl, rfl⟩
  · have := linkOf_setFlag .power (resetLink lineRate (loadSettings (resetStore s.ps).cells).1)
    exact ⟨congrArg HostLink.enabled this, congrArg HostLink.snapshotRate this⟩

end Sys2Proof.Machine

namespace Sys2Proof.Machine

/-! ## POWER_ON_RESET (R152, R153) -/

/-- The link after a reset's POWER: that flag alone, unreported where it is enabled (R168, R172). -/
theorem setFlag_power_resetLink (lineRate : Nat) (g : Settings) :
    setFlag .power (resetLink lineRate g) =
      { resetLink lineRate g with latched := 0x1000, unreported := if g.eventEnable.getLsbD 12 then 0x1000 else 0 } := by
  have h : ¬ hasFlag (resetLink lineRate g).latched .power = true := by
    show ¬ hasFlag 0 .power = true
    decide
  have hm : (0 : Half) ||| flagMask .power = 0x1000 := by decide
  have hu : (if hasFlag (resetLink lineRate g).enabled .power then (0 : Half) ||| flagMask .power else 0) =
      if g.eventEnable.getLsbD 12 then 0x1000 else 0 := by
    rw [hm]
    rfl
  unfold setFlag
  rw [if_neg h]
  exact congrArg₂ (fun l u : Half => { resetLink lineRate g with latched := l, unreported := u }) hm hu

/-- The record that a reset's entry leaves is the zone's reset record, in Standby where that entry is to Layover (R3, R155). -/
theorem resetZone_or_standby {g : Settings} {zs : PerZone ZoneRec} {on : Bool} {z : Zone}
    (h : zs.get z = if on then resetZone (g.zones.get z) else standbyRec (resetZone (g.zones.get z))) :
    (zs.get z = resetZone (g.zones.get z) ∨ zs.get z = standbyRec (resetZone (g.zones.get z))) ∧
      (zs.get z).opMode = (if on then opOfHost (zs.get z).hostMode else .standby) ∧
      (zs.get z).timer = (if on then (zs.get z).setbackMin * 60 else 0) ∧ (zs.get z).seats = 0 ∧ (zs.get z).trim = 0 ∧
      (zs.get z).sensor = .lost ∧ (zs.get z).tempUsed = none ∧ (zs.get z).integ = 0 ∧ (zs.get z).demand = 0 ∧
      (zs.get z).reqKind = .none ∧ (zs.get z).sEff = (zs.get z).setpoint := by
  cases on with
  | true =>
    rw [if_pos rfl] at h
    rw [h]
    exact ⟨.inl rfl, rfl, rfl, rfl, rfl, rfl, rfl, rfl, rfl, rfl, rfl⟩
  | false =>
    rw [if_neg Bool.false_ne_true] at h
    rw [h]
    exact ⟨.inr rfl, rfl, rfl, rfl, rfl, rfl, rfl, rfl, rfl, rfl, rfl⟩

theorem resetArbiter_entry (g : Settings) (i : EntryId) : ∃ k, (resetArbiter g).entry i = ⟨k, 0, 0, none, false, false⟩ := by
  cases i with
  | scc => exact ⟨.cool, rfl⟩
  | sch => exact ⟨.heat, rfl⟩
  | zone z => exact ⟨.none, PerZone.get_const _ z⟩

/-- Settles O3: the blocks stand at their reset values, and the entry to Run or Layover moves zone records and blowers alone. -/
theorem powerOnReset : Obligations.PowerOnReset := by
  intro p s
  have hf : FreshBlocks (resetBlocks 0 p (strapRate p)
      (fun g => resetCooling ⟨powerOnComp 0 g.compEnable.a, powerOnComp 0 g.compEnable.b⟩) (fun g => powerOnHeating 0 g.permit) s) :=
    freshBlocks_resetBlocks 0 p _ s (fun _ => ⟨rfl, rfl⟩) (fun _ => rfl)
  obtain ⟨zs, bs, he, hzs, hbs⟩ := resetEntry_fresh hf
  have hzone := fun z => resetZone_or_standby ((hzs z).trans (by rw [resetBlocks_zone]))
  refine ⟨_, congrArg Host.Outcome.next he, ⟨rfl, rfl, rfl, rfl⟩, fun w hw => ⟨?_, ?_⟩, ⟨rfl, rfl, rfl⟩, rfl, ⟨rfl, rfl, rfl⟩, fun c => ?_,
    fun z => (hzone z).2, fun i => ?_, ⟨rfl, rfl, rfl⟩, ⟨rfl, rfl, rfl, ?_⟩, fun c => ?_, ⟨rfl, rfl, rfl, rfl⟩,
    ⟨rfl, rfl, fun z => (hbs z).1⟩, ⟨rfl, rfl⟩, ?_, resetStore_idle s.ps, read_resetStore s.ps⟩
  · exact settingsTaken_of_settingsIn (settingsIn_resetEntry rfl (fun z => (hzone z).1) ⟨rfl, rfl⟩ rfl) hw
  · exact loadSettings_orders _ hw
  · cases c with
    | zoneTemp z => cases z <;> exact ⟨rfl, rfl, rfl⟩
    | co2 d => cases d <;> exact ⟨rfl, rfl, rfl⟩
    | pressureHigh k => cases k <;> exact ⟨rfl, rfl, rfl⟩
    | pressureLow k => cases k <;> exact ⟨rfl, rfl, rfl⟩
    | coil k => cases k <;> exact ⟨rfl, rfl, rfl⟩
    | _ => exact ⟨rfl, rfl, rfl⟩
  · obtain ⟨k, hk⟩ := resetArbiter_entry (loadSettings (resetStore s.ps).cells).1 i
    exact ⟨congrArg GrantEntry.wanted hk, congrArg GrantEntry.held hk, congrArg GrantEntry.masked hk⟩
  · refine (QuietAir.committedLoad ⟨fun c => ?_, fun z => ?_, rfl⟩).trans rfl
    · cases c <;> rfl
    · exact (hbs z).1
  · cases c <;> exact ⟨rfl, rfl, rfl, rfl⟩
  · have hl := setFlag_power_resetLink (strapRate p) (loadSettings (resetStore s.ps).cells).1
    exact ⟨congrArg HostLink.lineRate hl, congrArg HostLink.framer hl, congrArg HostLink.inHand hl, congrArg HostLink.sending hl,
      congrArg HostLink.latched hl, (congrArg HostLink.unreported hl).trans
        (congrArg (fun e : Half => if e.getLsbD 12 then (0x1000 : Half) else 0) (congrArg HostLink.enabled hl).symm)⟩

end Sys2Proof.Machine

namespace Sys2Proof.Machine

/-! ## Shedding where pump and heater are the whole load (R84 to R86) -/

/-- What shedding pump and heater leaves: everything but the stack, SHED, the pump, and the heater's cause and latched start. -/
structure HeatShed (s t : State) : Prop extends PlantOnly s t where
  ca : t.ca = s.ca
  cs : t.cs = s.cs
  apc : t.apc = s.apc
  account : { t.la with stack := s.la.stack } = s.la
  heater : t.hs.heater = s.hs.heater ∧ t.hs.heaterSince = s.hs.heaterSince
  kept : t.hs.relight = s.hs.relight ∧ t.hs.attempt = s.hs.attempt ∧ t.hs.permit = s.hs.permit ∧ t.hs.band = s.hs.band
  latched : t.hs.latched = true → s.hs.latched = true
  pump : t.hs.pump = true → s.hs.pump = true
  flags : ∀ f, hasFlag s.hlu.latched f = true → hasFlag t.hlu.latched f = true

theorem HeatShed.refl (s : State) : HeatShed s s :=
  ⟨.refl s, rfl, rfl, rfl, rfl, ⟨rfl, rfl⟩, ⟨rfl, rfl, rfl, rfl⟩, id, id, fun _ => id⟩

theorem HeatShed.trans {s t u : State} (h : HeatShed s t) (k : HeatShed t u) : HeatShed s u where
  toPlantOnly := h.1.trans k.1
  ca := k.ca.trans h.ca
  cs := k.cs.trans h.cs
  apc := k.apc.trans h.apc
  account := by rw [← h.account, ← k.account]
  heater := ⟨k.heater.1.trans h.heater.1, k.heater.2.trans h.heater.2⟩
  kept := by
    obtain ⟨h1, h2, h3, h4⟩ := h.kept
    obtain ⟨k1, k2, k3, k4⟩ := k.kept
    exact ⟨k1.trans h1, k2.trans h2, k3.trans h3, k4.trans h4⟩
  latched := h.latched ∘ k.latched
  pump := h.pump ∘ k.pump
  flags f := k.flags f ∘ h.flags f

theorem HeatShed.quietAir {s t : State} (h : HeatShed s t) (hq : QuietAir s) : QuietAir t where
  comps c := by
    rw [State.comp, h.cs]
    exact hq.comps c
  blowers z := by
    rw [State.blower, h.apc]
    exact hq.blowers z
  screen := by
    rw [h.scm]
    exact hq.screen

/-- A stop request finds no run request: the heater goes on as it is, its latched start cleared at most (R122). -/
theorem stopHeater_notRunning {h : Heating} (hr : runRequest h = false) (now : Nat) :
    ∃ c l, (l = true → h.latched = true) ∧ stopHeater now h = { h with cause := c, latched := l } := by
  obtain ⟨pump, pd, band, heater, since, attempt, relight, cause, latched, hd, permit, ss, is, w, ca⟩ := h
  cases heater with
  | ignition => cases hr
  | burning => cases hr
  | off => exact ⟨cause, latched, id, rfl⟩
  | lockout => exact ⟨cause, latched, id, rfl⟩
  | afterRun => exact ⟨some .stop, false, nofun, rfl⟩
  | retryPurge => exact ⟨cause, false, nofun, rfl⟩

theorem shedItem_heater {s : State} (hr : runRequest s.hs = false) : HeatShed s (shedItem .heater s) := by
  obtain ⟨c, l, hl, hst⟩ := stopHeater_notRunning hr s.partTime
  have hhs : (shedItem .heater s).hs = { s.hs with cause := c, latched := l } := hst
  refine ⟨shedItem_plantOnly _ s, rfl, rfl, rfl, rfl, ?_, ?_, ?_, ?_, fun f hf => hasFlag_setFlag_mono .shed hf⟩
  all_goals rw [hhs]
  · exact ⟨rfl, rfl⟩
  · exact ⟨rfl, rfl, rfl, rfl⟩
  · exact hl
  · exact id

theorem shedItem_pump {s : State} (hr : runRequest s.hs = false) : HeatShed s (shedItem .pump s) := by
  obtain ⟨c, l, hl, hst⟩ := stopHeater_notRunning (h := { s.hs with pump := false }) hr s.partTime
  have hhs : (shedItem .pump s).hs = { s.hs with pump := false, cause := c, latched := l } := hst
  refine ⟨shedItem_plantOnly _ s, rfl, rfl, rfl, rfl, ?_, ?_, ?_, ?_, fun f hf => hasFlag_setFlag_mono .shed hf⟩
  all_goals rw [hhs]
  · exact ⟨rfl, rfl⟩
  · exact ⟨rfl, rfl, rfl, rfl⟩
  · exact hl
  · exact nofun

/-- The items among pump and heater that are counted. -/
def countedHeat (s : State) : Nat :=
  (if 0 < countedLoad s .pump then 1 else 0) + if 0 < countedLoad s .heater then 1 else 0

theorem settled_of_countedHeat {s : State} (hq : QuietAir s) (h : countedHeat s = 0) : settled s = true := by
  rw [settled_iff, hq.committedLoad]
  unfold countedHeat at h
  have hp : countedLoad s .pump = 0 := by
    by_contra hp
    rw [if_pos (Nat.pos_of_ne_zero hp)] at h
    omega
  have hh : countedLoad s .heater = 0 := by
    by_contra hh
    rw [if_pos (Nat.pos_of_ne_zero hh)] at h
    omega
  omega

theorem countedLoad_pos_of_sheddable {s : State} (hq : QuietAir s) {i : LoadItem} (h : sheddable s i = true) :
    (i = .pump ∨ i = .heater) ∧ 0 < countedLoad s i := by
  cases i with
  | comp c => simp [sheddable, hq.countedLoad_comp] at h
  | blower z => simp [sheddable, hq.blowers] at h
  | pump =>
    simp only [sheddable, Bool.and_eq_true, decide_eq_true_eq] at h
    exact ⟨.inl rfl, h.2⟩
  | heater =>
    simp only [sheddable, Bool.and_eq_true, decide_eq_true_eq] at h
    exact ⟨.inr rfl, h.2⟩

/-- One shed takes one of them off the count. -/
theorem countedHeat_shedItem {s : State} (hr : runRequest s.hs = false) {i : LoadItem} (hi : i = .pump ∨ i = .heater)
    (hpos : 0 < countedLoad s i) : countedHeat (shedItem i s) + 1 = countedHeat s := by
  have hstack : ∀ i j : LoadItem, onStack (shedItem i s).la j = (i == j || onStack s.la j) := fun i j => by cases i <;> rfl
  obtain rfl | rfl := hi
  · have hp : countedLoad (shedItem .pump s) .pump = 0 := by
      simp only [countedLoad, hstack, beq_self_eq_true, Bool.true_or, Bool.not_true, Bool.and_false, Bool.false_eq_true, if_false]
    have hh : countedLoad (shedItem .pump s) .heater = countedLoad s .heater := by
      simp only [countedLoad, hstack, (shedItem_pump hr).heater.1]
      rfl
    simp only [countedHeat, hp, hh, if_pos hpos, Nat.lt_irrefl, if_false]
    omega
  · have hh : countedLoad (shedItem .heater s) .heater = 0 := by
      simp only [countedLoad, hstack, beq_self_eq_true, Bool.true_or, Bool.not_true, Bool.and_false, Bool.false_eq_true, if_false]
    have hp : countedLoad (shedItem .heater s) .pump = countedLoad s .pump := by
      have hpump : (shedItem .heater s).hs.pump = s.hs.pump := (stopHeater_plant s.partTime s.hs).1
      simp only [countedLoad, hstack, hpump]
      rfl
    simp only [countedHeat, hp, hh, if_pos hpos, Nat.lt_irrefl, if_false]

/-- Sheds of pump and heater, the capacity reports they make due, and the bound that they reach. -/
theorem shedLoop_quiet (n : Nat) {s : State} (hq : QuietAir s) (hb : s.hs.band = 0) (hr : runRequest s.hs = false) :
    HeatShed s (shedLoop n s).1 ∧ (∀ c ∈ (shedLoop n s).2, c = (.heat, 0)) ∧
      (countedHeat s ≤ n → settled (shedLoop n s).1 = true) := by
  induction n generalizing s with
  | zero => exact ⟨.refl s, nofun, fun h => settled_of_countedHeat (s := s) hq (Nat.le_zero.1 h)⟩
  | succ n ih =>
    unfold shedLoop
    split
    next hle => exact ⟨.refl s, nofun, fun _ => (settled_iff s).2 hle⟩
    next hgt =>
      split
      next hnone =>
        refine ⟨.refl s, nofun, fun _ => settled_of_countedHeat hq ?_⟩
        have hmem : ∀ i, i = .pump ∨ i = .heater → i ∈ shedOrder s := fun i hi => by
          unfold shedOrder
          obtain rfl | rfl := hi <;> split <;> simp
        have hno : ∀ i, i = .pump ∨ i = .heater → ¬ 0 < countedLoad s i := fun i hi hpos => by
          refine List.find?_eq_none.1 hnone i (hmem i hi) ?_
          obtain rfl | rfl := hi
          · have hs : onStack s.la .pump = false := by
              by_contra hs
              simp [countedLoad, hs] at hpos
            simp [sheddable, hs, hpos]
          · have hs : onStack s.la .heater = false := by
              by_contra hs
              simp [countedLoad, hs] at hpos
            simp [sheddable, hs, hpos]
        rw [countedHeat, if_neg (hno _ (.inl rfl)), if_neg (hno _ (.inr rfl))]
      next i hfind =>
        obtain ⟨hi, hpos⟩ := countedLoad_pos_of_sheddable hq (List.find?_some hfind)
        have hshed : HeatShed s (shedItem i s) := by
          obtain rfl | rfl := hi
          · exact shedItem_pump hr
          · exact shedItem_heater hr
        have hband : (shedItem i s).hs.band = 0 := hshed.kept.2.2.2.trans hb
        have hrun : runRequest (shedItem i s).hs = false := by
          rw [runRequest, hshed.heater.1]
          exact hr
        have hcount := countedHeat_shedItem hr hi hpos
        obtain ⟨h1, h2, h3⟩ := ih (hshed.quietAir hq) hband hrun
        refine ⟨hshed.trans h1, fun c hc => ?_, fun hn => h3 (by omega)⟩
        obtain hc | hc := List.mem_append.1 hc
        · obtain rfl | rfl := hi
          · rw [List.mem_singleton.1 hc, heatCapacityOf, hband]
            simp
          · cases hc
        · exact h2 c hc

/-- With the heat pool at 0 the reports change nothing. -/
theorem foldl_reportPool_zero (l : List (TokenKind × Nat)) {s : State} (hl : ∀ c ∈ l, c = (.heat, 0)) (hs : s.ca.heatCap = 0) :
    l.foldl (fun s c => reportPool c.1 c.2 s) s = s := by
  induction l with
  | nil => rfl
  | cons c l ih =>
    have hc : reportPool c.1 c.2 s = s := by
      rw [hl c List.mem_cons_self]
      exact if_pos hs
    rw [List.foldl_cons, hc]
    exact ih fun d hd => hl d (List.mem_cons_of_mem _ hd)

/-- The test of shedding where pump and heater are the whole load and the heat pool is empty. -/
theorem shedTest_quiet {s : State} (hq : QuietAir s) (hb : s.hs.band = 0) (hr : runRequest s.hs = false) (hc : s.ca.heatCap = 0) :
    HeatShed s (shedTest s) ∧ settled (shedTest s) = true := by
  obtain ⟨h1, h2, h3⟩ := shedLoop_quiet 10 hq hb hr
  have hfold := foldl_reportPool_zero (shedLoop 10 s).2 h2 (by rw [h1.ca]; exact hc)
  have hle : countedHeat s ≤ 10 := by
    unfold countedHeat
    split <;> split <;> omega
  unfold shedTest
  dsimp only
  rw [hfold]
  exact ⟨h1, h3 hle⟩

/-! ## SOFT_RESET (R172) -/

/-- The settings outside the load account are untouched by the sheds that follow a soft reset. -/
theorem SettingsIn.of_heatShed {g : Settings} {s t : State} (h : SettingsIn g s) (k : HeatShed s t) : SettingsIn g t where
  zc := by rw [k.zc]; exact h.zc
  zone z := by rw [k.toPlantOnly.zone]; exact h.zone z
  modes := by rw [k.ca]; exact h.modes
  fallback := (congrArg LoadAccount.fallback k.account).trans h.fallback
  departLead := by rw [k.psc]; exact h.departLead
  enables := by
    rw [State.comp, State.comp, k.cs]
    exact h.enables
  permit := k.kept.2.2.1.trans h.permit
  air := by rw [k.apc]; exact h.air
  link := ⟨(congrArg HostLink.enabled k.link).trans h.link.1, (congrArg HostLink.snapshotRate k.link).trans h.link.2⟩

/-- The heater after a soft reset (R126): After-run where its run request was on, and no run request in any case. -/
theorem softResetHeating_heater (now : Nat) (permit : Bool) (h : Heating) :
    runRequest (softResetHeating now permit h) = false ∧
      (softResetHeating now permit h).heater = (if runRequest h then .afterRun else h.heater) ∧
      (softResetHeating now permit h).heaterSince = (if runRequest h then now else h.heaterSince) ∧
      (softResetHeating now permit h).relight = h.relight ∧ (softResetHeating now permit h).attempt = h.attempt ∧
      ((softResetHeating now permit h).pump = true → h.pump = true ∧ heaterCounted (softResetHeating now permit h).heater = true) := by
  obtain ⟨pump, pd, band, heater, since, attempt, relight, cause, latched, hd, perm, ss, is, w, ca⟩ := h
  refine ⟨?_, ?_, ?_, ?_, ?_, fun hp => Bool.and_eq_true _ _ ▸ hp⟩ <;> cases heater <;> rfl

theorem softResetComp_state (now : Nat) (en : Bool) (r : CompRec) : compCounted (softResetComp now en r).state = false := by
  obtain ⟨st, _⟩ := r
  cases st <;> rfl

theorem resetBlocks_channel (now : Nat) (pins : Pins) (lineRate : Nat) (cs : Settings → Cooling) (hs : Settings → Heating) (s : State)
    (c : Channel) : (resetBlocks now pins lineRate cs hs s).ssu.get c = resetChannel now := by
  cases c with
  | zoneTemp z => cases z <;> rfl
  | co2 d => cases d <;> rfl
  | pressureHigh k => cases k <;> rfl
  | pressureLow k => cases k <;> rfl
  | coil k => cases k <;> rfl
  | _ => rfl

/-- Settles O4: the blocks stand at their soft reset values, and of what follows only sheds of pump and heater can move anything. -/
theorem softReset : Obligations.SoftReset := by
  intro s
  refine ⟨fun hd => by show Host.Outcome.next _ = _; rw [hd]; rfl, fun hd => ?_⟩
  have hf : FreshBlocks (resetBlocks s.partTime s.pins s.hlu.lineRate
      (fun g => resetCooling ⟨softResetComp s.partTime g.compEnable.a s.cs.comps.a, softResetComp s.partTime g.compEnable.b s.cs.comps.b⟩)
      (fun g => softResetHeating s.partTime g.permit s.hs) s) :=
    freshBlocks_resetBlocks _ _ _ s (fun _ => ⟨rfl, rfl⟩) (fun _ => rfl)
  obtain ⟨zs, bs, he, hzs, hbs⟩ := resetEntry_fresh hf
  have hzone := fun z => resetZone_or_standby ((hzs z).trans (by rw [resetBlocks_zone]))
  have hexec : exec .softReset s = .next (softResetWork s) := by
    show Host.Outcome.next _ = _
    rw [hd]
    rfl
  have hset := settingsIn_resetEntry (s := s) (now := s.partTime) (pins := s.pins) (lineRate := s.hlu.lineRate)
    (p := if s.pins.ignition then .run else .layover) (bs := bs)
    (cs := fun g => resetCooling ⟨softResetComp s.partTime g.compEnable.a s.cs.comps.a, softResetComp s.partTime g.compEnable.b s.cs.comps.b⟩)
    (hs := fun g => softResetHeating s.partTime g.permit s.hs) rfl (fun z => (hzone z).1) ⟨rfl, rfl⟩ rfl
  obtain ⟨hrun, hheater, hsince, hrelight, hattempt, hpump⟩ :=
    softResetHeating_heater s.partTime (loadSettings (resetStore s.ps).cells).1.permit s.hs
  have hq : QuietAir (resetEntry (resetBlocks s.partTime s.pins s.hlu.lineRate
      (fun g => resetCooling ⟨softResetComp s.partTime g.compEnable.a s.cs.comps.a, softResetComp s.partTime g.compEnable.b s.cs.comps.b⟩)
      (fun g => softResetHeating s.partTime g.permit s.hs) s)) := by
    rw [he]
    refine ⟨fun c => ?_, fun z => (hbs z).1, rfl⟩
    cases c <;> exact softResetComp_state _ _ _
  obtain ⟨hshed, hsettled⟩ := shedTest_quiet hq (by rw [he]; rfl) (by rw [he]; exact hrun) (by rw [he]; rfl)
  refine ⟨_, hexec, ?_⟩
  unfold softResetWork
  revert hshed hsettled
  rw [he]
  generalize shedTest _ = t
  intro hshed hsettled
  have hs := SettingsIn.of_heatShed hset hshed
  have hps : t.ps = resetStore s.ps := hshed.ps
  have hrec : ∀ z, t.zone z = zs.get z := fun z => hshed.toPlantOnly.zone z
  have hentry : ∀ i, ∃ k, t.ca.entry i = ⟨k, 0, 0, none, false, false⟩ := fun i => by
    rw [hshed.ca]
    exact resetArbiter_entry _ i
  have hlink : linkOf t.hlu = linkOf (resetLink s.hlu.lineRate (loadSettings (resetStore s.ps).cells).1) :=
    hshed.link.trans (linkOf_setFlag _ _)
  have hrate := congrArg HostLink.lineRate hlink
  refine ⟨⟨hshed.partTime, hshed.pins, hshed.freeCount, hshed.pending, hrate⟩, fun w hw => ?_, ?_, ?_, fun c => ?_,
    fun z => ?_, fun i => ?_, fun c => ?_, ?_, ?_, ?_, ?_, ?_, ?_⟩
  · rw [hps] at hw
    refine ⟨settingsTaken_of_settingsIn hs hw, ?_⟩
    rw [hshed.ca]
    exact loadSettings_orders _ hw
  · rw [hshed.zc]
    exact ⟨rfl, rfl, rfl⟩
  · rw [hshed.psc]
    rfl
  · have hssu : t.ssu.get c = resetChannel s.partTime := by
      rw [hshed.ssu]
      exact resetBlocks_channel s.partTime s.pins s.hlu.lineRate (fun _ => s.cs) (fun _ => s.hs) s c
    rw [hssu]
    exact ⟨rfl, rfl, rfl⟩
  · obtain ⟨-, hop, -, hseats, htrim, -, -, -, -, hkind, -⟩ := hzone z
    rw [hrec]
    exact ⟨hop, hseats, htrim, hkind⟩
  · obtain ⟨k, hk⟩ := hentry i
    rw [hk]
    exact ⟨rfl, rfl, rfl⟩
  · rw [State.comp, hshed.cs]
    cases c <;> exact ⟨rfl, rfl, rfl, rfl⟩
  · refine ⟨hshed.heater.1.trans hheater, hshed.heater.2.trans hsince, ?_, hshed.kept.1.trans hrelight, hshed.kept.2.1.trans hattempt⟩
    by_contra hl
    exact nomatch hshed.latched (Bool.not_eq_false _ ▸ hl)
  · intro hp
    rw [hshed.heater.1]
    exact hpump (hshed.pump hp)
  · exact ⟨congrArg LoadAccount.hostValue hshed.account, congrArg LoadAccount.status hshed.account, hsettled⟩
  · exact ⟨congrArg HostLink.inHand hlink, congrArg HostLink.resetDue hlink, congrArg HostLink.sending hlink,
      congrArg HostLink.framer hlink, hshed.flags _ (hasFlag_setFlag_self _ _)⟩
  · rw [hps]
    exact resetStore_idle s.ps
  · rw [hps]
    exact read_resetStore s.ps

end Sys2Proof.Machine

namespace Sys2Proof.Machine

/-! ## A step that keeps the power state -/

/-- A step of arbiter, loads, plant and air that ends no wind-down leaves zones, screen monitor and power state, but for stopped reports. -/
theorem PlantStep.samePower {s t : State} (h : PlantStep s t) (hp : t.psc.power = s.psc.power) :
    t.zc = s.zc ∧ t.scm = s.scm ∧ { t.psc with stopped := s.psc.stopped } = s.psc := by
  by_cases hw : s.psc.power = .windingDown
  · exact h.winding (hp.trans hw)
  · obtain ⟨hz, hc, hq⟩ := h.other hw
    exact ⟨hz, hc, by rw [hq]⟩

/-! ## One evaluation (R9, R11 to R17) -/

/-- The record after an evaluation, by whether the zone is starved (R14). -/
def evaluatedRec (starved : Bool) (s : State) (z : Zone) : ZoneRec :=
  let r := s.zone z
  let t := temperatureFor s.ssu z r.sensor
  let sEff := effectiveSetpoint s.zc z r (outdoorUsed s) (solarUsed s)
  let r1 := { r with tempUsed := t, sEff := sEff }
  match r.opMode, t with
  | .auto, some temp | .setback, some temp =>
    let e := deadbandError s.zc.db sEff temp
    let integ := integrate s.zc.ki r.integ e starved r.reqKind
    let d := demandOf s.zc.kp e integ
    let k := nextKind r.reqKind d
    { r1 with integ := integ, demand := d, reqKind := k, wanted := wantedFor k d }
  | _, _ => { r1 with integ := 0, demand := 0, reqKind := .none, wanted := 0 }

theorem evaluateRec_eq (s : State) (z : Zone) :
    evaluateRec s z = evaluatedRec (isStarved (s.zone z) (s.ca.entry (.zone z))) s z := by
  unfold evaluateRec evaluatedRec
  rfl

/-- Beside the starved test an evaluation reads the zone's own record, the tuning and the channels. -/
theorem evaluatedRec_congr {s t : State} (h : ZonesOnly s t) {z : Zone} (hz : t.zone z = s.zone z) (b : Bool) :
    evaluatedRec b t z = evaluatedRec b s z := by
  have hset := h.settings
  have hkp : t.zc.kp = s.zc.kp := (congrArg ZoneCtl.kp hset :)
  have hki : t.zc.ki = s.zc.ki := (congrArg ZoneCtl.ki hset :)
  have hdb : t.zc.db = s.zc.db := (congrArg ZoneCtl.db hset :)
  have heff : ∀ r g o, effectiveSetpoint t.zc z r o g = effectiveSetpoint s.zc z r o g := fun r g o => by
    have hshift : t.zc.shift = s.zc.shift := (congrArg ZoneCtl.shift hset :)
    have hoff : t.zc.setbackOffset = s.zc.setbackOffset := (congrArg ZoneCtl.setbackOffset hset :)
    unfold effectiveSetpoint
    rw [hshift, hoff]
  unfold evaluatedRec outdoorUsed solarUsed
  simp only [hz, h.ssu, hkp, hki, hdb, heff]

theorem evaluateZone_plantOnly (z : Zone) (s : State) : PlantOnly (s.setZone z (evaluateRec s z)) (evaluateZone z s) :=
  (handOnRequest_plantOnly z _ _ _ _).trans ((handMode_plantOnly z _).trans (shedTest_plantOnly _))

theorem evaluateZone_zonesOnly (z : Zone) (s : State) : ZonesOnly s (evaluateZone z s) :=
  (setZone_zonesOnly s z _).trans (evaluateZone_plantOnly z s).zonesOnly

theorem evaluateZone_zone (z : Zone) (s : State) (y : Zone) :
    (evaluateZone z s).zone y = if y = z then evaluateRec s z else s.zone y := by
  rw [(evaluateZone_plantOnly z s).zone, State.zone_setZone]

/-- Evaluations of a list of zones: each record is the zone's own evaluation, whatever its starved test then said. -/
theorem foldl_evaluateZone (l : List Zone) (hn : l.Nodup) (s : State) :
    ZonesOnly s (l.foldl (fun s z => evaluateZone z s) s) ∧
      (∀ y, y ∉ l → (l.foldl (fun s z => evaluateZone z s) s).zone y = s.zone y) ∧
      ∀ y, y ∈ l → ∃ b, (l.foldl (fun s z => evaluateZone z s) s).zone y = evaluatedRec b s y := by
  induction l generalizing s with
  | nil => exact ⟨.refl s, fun _ _ => rfl, nofun⟩
  | cons z l ih =>
    obtain ⟨hz, hl⟩ := List.nodup_cons.1 hn
    obtain ⟨hzones, hout, hin⟩ := ih hl (evaluateZone z s)
    have hfirst := evaluateZone_zonesOnly z s
    rw [List.foldl_cons]
    refine ⟨hfirst.trans hzones, fun y hy => ?_, fun y hy => ?_⟩
    · obtain ⟨hyz, hyl⟩ := not_or.1 (mt List.mem_cons.2 hy)
      rw [hout y hyl, evaluateZone_zone, if_neg hyz]
    · by_cases hyz : y = z
      · subst hyz
        exact ⟨_, (hout y hz).trans (by rw [evaluateZone_zone, if_pos rfl, evaluateRec_eq])⟩
      · obtain ⟨b, hb⟩ := hin y ((List.mem_cons.1 hy).resolve_left hyz)
        exact ⟨b, hb.trans (evaluatedRec_congr hfirst (by rw [evaluateZone_zone, if_neg hyz]) b)⟩

/-- The six evaluations of a period (R9). E goes first, so its starved test sees the grant table as it stood. -/
theorem evaluateZones_zone (s : State) :
    ZonesOnly s (Zone.all.foldl (fun s z => evaluateZone z s) s) ∧
      ∀ z, ∃ b, (Zone.all.foldl (fun s z => evaluateZone z s) s).zone z = evaluatedRec b s z ∧
        (z = .e → b = isStarved (s.zone .e) (s.ca.entry (.zone .e))) := by
  obtain ⟨hzones, -, hin⟩ := foldl_evaluateZone Zone.all (by decide) s
  refine ⟨hzones, fun z => ?_⟩
  by_cases hz : z = .e
  · subst hz
    refine ⟨_, ?_, fun _ => rfl⟩
    obtain ⟨-, hout, -⟩ := foldl_evaluateZone [.l1, .l2, .u1, .u2, .u3] (by decide) (evaluateZone .e s)
    rw [Zone.all, List.foldl_cons, hout .e (by decide), evaluateZone_zone, if_pos rfl, evaluateRec_eq]
  · obtain ⟨b, hb⟩ := hin z (mem_zone_all z)
    exact ⟨b, hb, fun h => absurd h hz⟩

/-! ## The stages in the words of the chapter (R7, R12 to R17) -/

theorem effectiveSetpoint_eq (s : State) (z : Zone) (r : ZoneRec) {s2 s3 : Int}
    (h2 : s2 = r.setpoint + s.zc.shift + r.trim - (if deckOf z = .upper then solarUsed s / 100 else 0))
    (h3 : s3 = if r.opMode = .setback then
      if outdoorUsed s < s2 then s2 - s.zc.setbackOffset else s2 + s.zc.setbackOffset
      else s2) :
    effectiveSetpoint s.zc z r (outdoorUsed s) (solarUsed s) = max 160 (min 300 (max s3 (outdoorUsed s - 70))) := by
  have hs2 : (if deckOf z = .upper then r.setpoint + s.zc.shift + r.trim - solarUsed s / 100 else r.setpoint + s.zc.shift + r.trim) = s2 := by
    rw [h2]
    split <;> omega
  unfold effectiveSetpoint
  dsimp only
  rw [hs2, ← h3, clampInt_eq (by decide)]

theorem deadbandError_eq {db sEff temp e e' : Int} (he : e = max (-200) (min 200 (sEff - temp)))
    (he' : e' = if e.natAbs ≤ db then 0 else if db < e then e - db else e + db) : deadbandError db sEff temp = e' := by
  unfold deadbandError
  dsimp only
  rw [clampInt_eq (by decide), ← he, he']
  split <;> split <;> omega

theorem temperatureFor_eq (s : State) (z : Zone) (k : SensorState) {lent : List Int}
    (hl : lent = (Zone.all.filter (fun y =>
        decide (y ≠ z) && decide (deckOf y = deckOf z) && ((s.ssu.get (.zoneTemp y)).status == .good))).filterMap
      (fun y => (s.ssu.get (.zoneTemp y)).lastGood)) :
    temperatureFor s.ssu z k =
      match k with
      | .good | .held => (s.ssu.get (.zoneTemp z)).lastGood
      | .borrowed => if lent = [] then none else some (lent.sum.tdiv lent.length)
      | .lost => none := by
  have hmates : (goodMates s.ssu z).filterMap (fun y => (s.ssu.zoneTemp.get y).lastGood) = lent := by
    rw [hl, goodMates, deckMates, List.filter_filter]
    refine congrArg (List.filterMap _) (List.filter_congr fun y _ => ?_)
    show ((s.ssu.zoneTemp.get y).status == .good && (decide (deckOf y = deckOf z) && y != z)) =
      (decide (y ≠ z) && decide (deckOf y = deckOf z) && ((s.ssu.zoneTemp.get y).status == .good))
    rw [Bool.eq_iff_iff]
    simp only [Bool.and_eq_true, decide_eq_true_eq, bne_iff_ne]
    tauto
  cases k with
  | good => rfl
  | held => rfl
  | lost => rfl
  | borrowed =>
    show borrowedMean s.ssu z = _
    unfold borrowedMean
    rw [hmates]
    cases lent <;> rfl

theorem wantedFor_eq (k : ReqKind) (d : Int) : wantedFor k d = if k = .none then 0 else max 1 ((d.natAbs + 249) / 250) := by
  cases k <;> rfl

theorem sameSign_iff (k : ReqKind) (e : Int) : sameSign k e = true ↔ (k = .cool ∧ e < 0) ∨ (k = .heat ∧ 0 < e) := by
  cases k <;> simp [sameSign]

/-- A starved zone's integrator is kept where the error has the sign of its request (R14). -/
theorem integrate_eq (ki i e : Int) (b : Bool) (k : ReqKind) :
    integrate ki i e b k =
      if b = true ∧ ((k = .cool ∧ e < 0) ∨ (k = .heat ∧ 0 < e)) then i else max (-64000) (min 64000 (i + ki * e)) := by
  simp only [integrate, Bool.and_eq_true, sameSign_iff, clampInt_eq (show (-64000 : Int) ≤ 64000 by decide)]

/-- Without Cool or Heat requested there is no sign to agree with, and shortness of the entry alone decides (R14). -/
theorem isStarved_and_sign (r : ZoneRec) (e : GrantEntry) (x : Int) :
    (isStarved r e = true ∧ ((r.reqKind = .cool ∧ x < 0) ∨ (r.reqKind = .heat ∧ 0 < x))) ↔
      (e.held < e.wanted ∧ ((r.reqKind = .cool ∧ x < 0) ∨ (r.reqKind = .heat ∧ 0 < x))) := by
  unfold isStarved isShort
  cases r.reqKind <;> simp

/-- The record after an evaluation keeps everything but temperature, setpoint in use, I, D and request. -/
theorem evaluatedRec_kept (b : Bool) (s : State) (z : Zone) :
    evaluatedRec b s z =
      { s.zone z with
        tempUsed := temperatureFor s.ssu z (s.zone z).sensor
        sEff := effectiveSetpoint s.zc z (s.zone z) (outdoorUsed s) (solarUsed s)
        integ := (evaluatedRec b s z).integ
        demand := (evaluatedRec b s z).demand
        reqKind := (evaluatedRec b s z).reqKind
        wanted := (evaluatedRec b s z).wanted } := by
  unfold evaluatedRec
  dsimp only
  split <;> rfl

/-- Without a temperature, or out of Auto and Setback, the PI stage does not run (R11). -/
theorem evaluatedRec_idle {s : State} {z : Zone} (b : Bool)
    (h : ((s.zone z).opMode ≠ .auto ∧ (s.zone z).opMode ≠ .setback) ∨ temperatureFor s.ssu z (s.zone z).sensor = none) :
    (evaluatedRec b s z).integ = 0 ∧ (evaluatedRec b s z).demand = 0 ∧ (evaluatedRec b s z).reqKind = .none ∧
      (evaluatedRec b s z).wanted = 0 := by
  unfold evaluatedRec
  dsimp only
  split
  next ho ht =>
    rw [ho, ht] at h
    simp at h
  next ho ht =>
    rw [ho, ht] at h
    simp at h
  next => exact ⟨rfl, rfl, rfl, rfl⟩

/-- The PI stage (R13 to R17). -/
theorem evaluatedRec_active {s : State} {z : Zone} (b : Bool) {temp : Int}
    (ht : temperatureFor s.ssu z (s.zone z).sensor = some temp) (h : (s.zone z).opMode = .auto ∨ (s.zone z).opMode = .setback)
    {e : Int} (he : e = deadbandError s.zc.db (effectiveSetpoint s.zc z (s.zone z) (outdoorUsed s) (solarUsed s)) temp) :
    (evaluatedRec b s z).integ = integrate s.zc.ki (s.zone z).integ e b (s.zone z).reqKind ∧
      (evaluatedRec b s z).demand = demandOf s.zc.kp e (evaluatedRec b s z).integ ∧
      (evaluatedRec b s z).reqKind = nextKind (s.zone z).reqKind (evaluatedRec b s z).demand ∧
      (evaluatedRec b s z).wanted = wantedFor (evaluatedRec b s z).reqKind (evaluatedRec b s z).demand := by
  subst he
  unfold evaluatedRec
  dsimp only
  rw [ht]
  obtain h | h := h <;> rw [h] <;> exact ⟨rfl, rfl, rfl, rfl⟩

/-! ## PERIOD_EXPIRY -/

/-- The count reads no flag. -/
theorem linkOf_countSnapshot {g h : HostLink} (hgh : linkOf g = linkOf h) : linkOf (countSnapshot g) = linkOf (countSnapshot h) := by
  have hcount : ∀ l, linkOf (countSnapshot l) = countSnapshot (linkOf l) := fun l => by
    by_cases hc : 0 < l.snapshotRate ∧ l.snapshotRate ≤ l.snapshotCount + 1
    · exact (congrArg linkOf (if_pos hc)).trans (if_pos hc).symm
    · exact (congrArg linkOf (if_neg hc)).trans (if_neg hc).symm
  rw [hcount, hcount, hgh]

theorem countSnapshot_cases {h : HostLink} {g : HostLink} (hl : linkOf g = linkOf (countSnapshot h)) :
    if 0 < h.snapshotRate ∧ h.snapshotRate ≤ h.snapshotCount + 1 then g.snapshotCount = 0 ∧ g.snapshotWaiting = true
    else g.snapshotCount = h.snapshotCount + 1 ∧ g.snapshotWaiting = h.snapshotWaiting := by
  have hc : g.snapshotCount = (countSnapshot h).snapshotCount := (congrArg HostLink.snapshotCount hl :)
  have hw : g.snapshotWaiting = (countSnapshot h).snapshotWaiting := (congrArg HostLink.snapshotWaiting hl :)
  rw [hc, hw]
  unfold countSnapshot
  dsimp only
  split <;> exact ⟨rfl, rfl⟩

/-- What a period expiry leaves, beside the zone records: the count, and what only the end of a wind-down moves (R9, R170). -/
theorem periodWork_kept (s : State) :
    linkOf (periodWork s).hlu = linkOf (countSnapshot s.hlu) ∧ (s.psc.power ≠ .windingDown → (periodWork s).psc = s.psc) ∧
      ((periodWork s).psc.power = s.psc.power →
        (periodWork s).zc = restartPeriod (Zone.all.foldl (fun s z => evaluateZone z s) s).zc ∧
          { (periodWork s).psc with stopped := s.psc.stopped } = s.psc ∧ (periodWork s).scm = s.scm) ∧
      ((periodWork s).partTime = s.partTime ∧ (periodWork s).ssu = s.ssu ∧ (periodWork s).pins = s.pins ∧ (periodWork s).ps = s.ps) := by
  obtain ⟨hzones, -⟩ := evaluateZones_zone s
  unfold periodWork
  generalize Zone.all.foldl (fun s z => evaluateZone z s) s = u at hzones ⊢
  dsimp only
  generalize hv : (u.setZc (restartPeriod u.zc)).setHlu (countSnapshot (u.setZc (restartPeriod u.zc)).hlu) = v
  have hstep : PlantStep v (endEvent v) := endEvent_plantStep (.refl v)
  have hpsc : v.psc = s.psc := by
    rw [← hv]
    exact hzones.psc
  refine ⟨?_, fun hw => ?_, fun hp => ?_, ?_, ?_, ?_, ?_⟩
  · refine hstep.link.trans ?_
    rw [← hv]
    exact linkOf_countSnapshot hzones.link
  · obtain ⟨-, -, h⟩ := hstep.other (by rw [hpsc]; exact hw)
    exact h.trans hpsc
  · obtain ⟨hz, hc, hq⟩ := hstep.samePower (by rw [hpsc]; exact hp)
    rw [hpsc] at hq
    refine ⟨hz.trans (by rw [← hv]; rfl), hq, hc.trans (by rw [← hv]; exact hzones.scm)⟩
  · exact hstep.partTime.trans (by rw [← hv]; exact hzones.partTime)
  · exact hstep.ssu.trans (by rw [← hv]; exact hzones.ssu)
  · exact hstep.pins.trans (by rw [← hv]; exact hzones.pins)
  · exact hstep.ps.trans (by rw [← hv]; exact hzones.ps)

/-- Settles O38: each zone's record is touched by its own evaluation alone. -/
theorem periodEvaluates : Obligations.PeriodEvaluates := by
  intro s
  refine ⟨fun h => by show Host.Outcome.next _ = _; rw [h]; rfl, fun h => ⟨periodWork s, ?_, ?_⟩⟩
  · show Host.Outcome.next _ = _
    rw [if_pos (Option.isSome_iff_ne_none.2 h)]
  obtain ⟨hlink, hpsc, hsame, ht, hssu, hpins, hps⟩ := periodWork_kept s
  obtain ⟨hzones, hrec⟩ := evaluateZones_zone s
  generalize periodWork s = t at *
  generalize Zone.all.foldl (fun s z => evaluateZone z s) s = u at *
  refine ⟨countSnapshot_cases hlink, hpsc, fun hp => ?_⟩
  obtain ⟨hzc, hq, hscm⟩ := hsame hp
  refine ⟨?_, ⟨ht, hssu, hpins, hps, hscm, hq⟩, ?_⟩
  · rw [hzc]
    exact congrArg restartPeriod hzones.settings
  · rintro z r rfl r' rfl s2 h2 s3 h3 lent hlent
    obtain ⟨b, hb, hstarved⟩ := hrec z
    have hz : t.zone z = evaluatedRec b s z := by
      rw [← hb, State.zone, hzc]
      rfl
    have hkept := evaluatedRec_kept b s z
    have htemp := temperatureFor_eq s z (s.zone z).sensor hlent
    have heff := effectiveSetpoint_eq s z (s.zone z) h2 h3
    have hused : (evaluatedRec b s z).tempUsed = temperatureFor s.ssu z (s.zone z).sensor := congrArg ZoneRec.tempUsed hkept
    have hsEff := congrArg ZoneRec.sEff hkept
    rw [hz]
    refine ⟨?_, fun hi => evaluatedRec_idle b (by rw [← hused]; exact hi), fun temp hu hm e he e' he' => ?_⟩
    · refine hkept.trans ?_
      rw [htemp, heff] <;> rfl
    · have hd : e' = deadbandError s.zc.db (effectiveSetpoint s.zc z (s.zone z) (outdoorUsed s) (solarUsed s)) temp :=
        (deadbandError_eq (he.trans (by rw [hsEff])) he').symm
      obtain ⟨hi, hdem, hk, hw⟩ := evaluatedRec_active b (hused.symm.trans hu) hm hd
      have hint := hi.trans (integrate_eq _ _ _ _ _)
      refine ⟨?_, fun hze => ?_, ?_, ?_, ?_⟩
      · rw [hint]
        split
        next hs => exact .inr ⟨rfl, hs.2⟩
        next => exact .inl rfl
      · rw [hint, hstarved hze]
        subst hze
        exact if_congr (isStarved_and_sign _ _ _) rfl rfl
      · rw [hdem, demandOf, clampInt_eq (by decide)]
      · exact hk
      · rw [hw, wantedFor_eq]

end Sys2Proof.Machine

namespace Sys2Proof.Machine

/-! ## What the operations of an event leave of settings, flags and heating -/

/-- The settings of a zone record (R173). -/
def settingsOf (r : ZoneRec) : ZoneSettings := ⟨r.setpoint, r.hostMode, r.curve, r.setbackMin, r.standbyMin, r.mask⟩

/-- Heating may stop and may not start, its band, permit and attempts being as they were. -/
structure HeatKept (g h : Heating) : Prop where
  same : h.band = g.band ∧ h.permit = g.permit ∧ h.relight = g.relight ∧ h.attempt = g.attempt
  heater : runRequest g = false → h.heater = g.heater ∧ h.heaterSince = g.heaterSince
  latched : h.latched = true → g.latched = true
  cause : h.cause = g.cause ∨ h.cause = some .stop

theorem HeatKept.refl (h : Heating) : HeatKept h h := ⟨⟨rfl, rfl, rfl, rfl⟩, fun _ => ⟨rfl, rfl⟩, id, .inl rfl⟩

theorem HeatKept.trans {g h k : Heating} (a : HeatKept g h) (b : HeatKept h k) : HeatKept g k where
  same := by
    obtain ⟨a1, a2, a3, a4⟩ := a.same
    obtain ⟨b1, b2, b3, b4⟩ := b.same
    exact ⟨b1.trans a1, b2.trans a2, b3.trans a3, b4.trans a4⟩
  heater hr := by
    obtain ⟨h1, h2⟩ := a.heater hr
    obtain ⟨k1, k2⟩ := b.heater (by rw [runRequest, h1]; exact hr)
    exact ⟨k1.trans h1, k2.trans h2⟩
  latched := a.latched ∘ b.latched
  cause := by
    obtain hb | hb := b.cause
    · rw [hb]
      exact a.cause
    · exact .inr hb

theorem stopHeater_heatKept (now : Nat) (h : Heating) : HeatKept h (stopHeater now h) := by
  obtain ⟨pump, pd, band, heater, since, attempt, relight, cause, latched, hd, permit, ss, is, w, ca⟩ := h
  cases heater with
  | ignition => exact ⟨⟨rfl, rfl, rfl, rfl⟩, nofun, nofun, .inr rfl⟩
  | burning => exact ⟨⟨rfl, rfl, rfl, rfl⟩, nofun, nofun, .inr rfl⟩
  | afterRun => exact ⟨⟨rfl, rfl, rfl, rfl⟩, fun _ => ⟨rfl, rfl⟩, nofun, .inr rfl⟩
  | retryPurge => exact ⟨⟨rfl, rfl, rfl, rfl⟩, fun _ => ⟨rfl, rfl⟩, nofun, .inl rfl⟩
  | off => exact .refl _
  | lockout => exact .refl _

theorem stopPump_heatKept (now : Nat) (h : Heating) : HeatKept h (stopPump now h) :=
  HeatKept.trans (h := { h with pump := false }) ⟨⟨rfl, rfl, rfl, rfl⟩, fun _ => ⟨rfl, rfl⟩, id, .inl rfl⟩ (stopHeater_heatKept now _)

/-- The host's settings, the seat counts, the masks and the pointer are as they were, raised flags stay raised, and the heater starts
nothing. -/
structure SettingsKept (s t : State) : Prop where
  flags : ∀ f, hasFlag s.hlu.latched f = true → hasFlag t.hlu.latched f = true
  ca : ArbSettingsStand s.ca t.ca
  la : { t.la with stack := s.la.stack } = s.la
  enable : ∀ c, (t.comp c).enable = (s.comp c).enable
  heat : HeatKept s.hs t.hs
  air : { t.apc with
    blowers := s.apc.blowers, damperLower := s.apc.damperLower, damperUpper := s.apc.damperUpper, damperAt := s.apc.damperAt } = s.apc
  zone : ∀ z, settingsOf (t.zone z) = settingsOf (s.zone z) ∧ (t.zone z).seats = (s.zone z).seats
  zc : { t.zc with zones := s.zc.zones, periodTimer := s.zc.periodTimer } = s.zc
  psc : { t.psc with power := s.psc.power, ignitionOffSince := s.psc.ignitionOffSince, stopped := s.psc.stopped } = s.psc

theorem SettingsKept.refl (s : State) : SettingsKept s s :=
  ⟨fun _ => id, .refl _, rfl, fun _ => rfl, .refl _, rfl, fun _ => ⟨rfl, rfl⟩, rfl, rfl⟩

theorem SettingsKept.trans {s t u : State} (h : SettingsKept s t) (k : SettingsKept t u) : SettingsKept s u where
  flags f := k.flags f ∘ h.flags f
  ca := h.ca.trans k.ca
  la := by rw [← h.la, ← k.la]
  enable c := (k.enable c).trans (h.enable c)
  heat := h.heat.trans k.heat
  air := by rw [← h.air, ← k.air]
  zone z := by
    obtain ⟨h1, h2⟩ := h.zone z
    obtain ⟨k1, k2⟩ := k.zone z
    exact ⟨k1.trans h1, k2.trans h2⟩
  zc := by rw [← h.zc, ← k.zc]
  psc := by rw [← h.psc, ← k.psc]

theorem SettingsKept.ite {s t u : State} {c : Prop} [Decidable c] (h : SettingsKept s t) (k : SettingsKept s u) :
    SettingsKept s (if c then t else u) := by
  split <;> assumption

theorem SettingsKept.foldl {α : Type} {f : State → α → State} (h : ∀ s x, SettingsKept s (f s x)) (l : List α) (s : State) :
    SettingsKept s (l.foldl f s) := by
  induction l generalizing s with
  | nil => exact .refl s
  | cons x l ih => exact (h s x).trans (ih _)

section
variable (s : State)

theorem setHlu_settingsKept {s : State} {v : HostLink} (h : ∀ f, hasFlag s.hlu.latched f = true → hasFlag v.latched f = true) :
    SettingsKept s (s.setHlu v) :=
  ⟨h, .refl _, rfl, fun _ => rfl, .refl _, rfl, fun _ => ⟨rfl, rfl⟩, rfl, rfl⟩

theorem raise_settingsKept (f : Flag) : SettingsKept s (raise f s) := setHlu_settingsKept fun _ => hasFlag_setFlag_mono f

theorem setCa_settingsKept {s : State} {v : Arbiter} (h : ArbSettingsStand s.ca v) : SettingsKept s (s.setCa v) :=
  ⟨fun _ => id, h, rfl, fun _ => rfl, .refl _, rfl, fun _ => ⟨rfl, rfl⟩, rfl, rfl⟩

theorem setStack_settingsKept (k : List ShedEntry) : SettingsKept s (s.setLa { s.la with stack := k }) :=
  ⟨fun _ => id, .refl _, rfl, fun _ => rfl, .refl _, rfl, fun _ => ⟨rfl, rfl⟩, rfl, rfl⟩

theorem setCs_settingsKept {s : State} {v : Cooling} (h : ∀ c, (v.comps.get c).enable = (s.comp c).enable) : SettingsKept s (s.setCs v) :=
  ⟨fun _ => id, .refl _, rfl, h, .refl _, rfl, fun _ => ⟨rfl, rfl⟩, rfl, rfl⟩

theorem setComp_settingsKept {s : State} {c : Comp} {r : CompRec} (h : r.enable = (s.comp c).enable) : SettingsKept s (s.setComp c r) :=
  setCs_settingsKept fun d => by
    show ((s.setComp c r).comp d).enable = _
    by_cases hd : d = c
    · rw [hd, State.comp_setComp_self, h]
    · rw [State.comp_setComp_of_ne s r hd]

theorem setHs_settingsKept {s : State} {v : Heating} (h : HeatKept s.hs v) : SettingsKept s (s.setHs v) :=
  ⟨fun _ => id, .refl _, rfl, fun _ => rfl, h, rfl, fun _ => ⟨rfl, rfl⟩, rfl, rfl⟩

theorem setApc_settingsKept {s : State} {v : AirPath}
    (h : { v with
      blowers := s.apc.blowers, damperLower := s.apc.damperLower, damperUpper := s.apc.damperUpper, damperAt := s.apc.damperAt } = s.apc) :
    SettingsKept s (s.setApc v) :=
  ⟨fun _ => id, .refl _, rfl, fun _ => rfl, .refl _, h, fun _ => ⟨rfl, rfl⟩, rfl, rfl⟩

theorem setBlower_settingsKept (z : Zone) (r : BlowerRec) : SettingsKept s (s.setBlower z r) := setApc_settingsKept rfl

theorem setZone_settingsKept {s : State} {z : Zone} {r : ZoneRec} (h : settingsOf r = settingsOf (s.zone z)) (hs : r.seats = (s.zone z).seats) :
    SettingsKept s (s.setZone z r) := by
  refine ⟨fun _ => id, .refl _, rfl, fun _ => rfl, .refl _, rfl, fun y => ?_, rfl, rfl⟩
  rw [State.zone_setZone]
  split
  next hy =>
    rw [hy]
    exact ⟨h, hs⟩
  next => exact ⟨rfl, rfl⟩

theorem setPsc_settingsKept {s : State} {v : PowerCtl}
    (h : { v with power := s.psc.power, ignitionOffSince := s.psc.ignitionOffSince, stopped := s.psc.stopped } = s.psc) :
    SettingsKept s (s.setPsc v) :=
  ⟨fun _ => id, .refl _, rfl, fun _ => rfl, .refl _, rfl, fun _ => ⟨rfl, rfl⟩, rfl, h⟩

theorem setScm_settingsKept (v : ScreenMonitor) : SettingsKept s (s.setScm v) :=
  ⟨fun _ => id, .refl _, rfl, fun _ => rfl, .refl _, rfl, fun _ => ⟨rfl, rfl⟩, rfl, rfl⟩

theorem setSsu_settingsKept (v : Channels) : SettingsKept s (s.setSsu v) :=
  ⟨fun _ => id, .refl _, rfl, fun _ => rfl, .refl _, rfl, fun _ => ⟨rfl, rfl⟩, rfl, rfl⟩

end

/-! ### Arbiter and zones -/

theorem ArbEventDone.settingsKept {r : ArbResult} {s t : State} (h : ArbEventDone r s t) (hr : ArbSettingsStand s.ca r.arb) :
    SettingsKept s t where
  flags := h.flags
  ca := by
    rw [h.ca]
    exact hr
  la := by
    obtain ⟨k, -, hk⟩ := h.la
    rw [hk]
  enable c := by
    rw [State.comp, h.cs]
    rfl
  heat := by
    rw [h.hs]
    exact ⟨⟨rfl, rfl, rfl, rfl⟩, fun _ => ⟨rfl, rfl⟩, id, .inl rfl⟩
  air := by
    obtain ⟨b, hb⟩ := h.apc
    rw [hb]
  zone z := by
    rw [h.toPlantOnly.zone]
    exact ⟨rfl, rfl⟩
  zc := by rw [h.zc]
  psc := by rw [h.psc]

theorem arbEvent_settingsKept {f : Arbiter → ArbResult} {s : State} (h : ArbSettingsStand s.ca (f s.ca).arb) :
    SettingsKept s (arbEvent f s) :=
  (arbEvent_done f s).settingsKept h

theorem reportPool_settingsKept (k : TokenKind) (n : Nat) (s : State) : SettingsKept s (reportPool k n s) :=
  .ite (.refl s) (arbEvent_settingsKept (reportCapacity_stand _ k n _).2)

theorem requestTokens_settingsKept (z : Zone) (k : ReqKind) (n : Nat) (s : State) : SettingsKept s (requestTokens z k n s) :=
  arbEvent_settingsKept (handRequest_settings _ z k n _)

theorem withdraw_settingsKept (z : Zone) (s : State) : SettingsKept s (withdraw z s) :=
  (setZone_settingsKept (by rfl) (by rfl)).trans (requestTokens_settingsKept z .none 0 _)

theorem computeBlower_settingsKept (z : Zone) (s : State) : SettingsKept s (computeBlower z s) := by
  obtain ⟨k, v, -, he⟩ := computeBlower_cases z s
  rw [he]
  exact (setBlower_settingsKept s z _).trans (setStack_settingsKept _ k)

theorem handMode_settingsKept (z : Zone) (s : State) : SettingsKept s (handMode z s) :=
  (setBlower_settingsKept s z _).trans (computeBlower_settingsKept z _)

theorem takeMode_settingsKept (z : Zone) (m : OpMode) (s : State) : SettingsKept s (takeMode z m s) :=
  (setZone_settingsKept (by rfl) (by rfl)).trans (handMode_settingsKept z _)

theorem enterStandby_settingsKept (z : Zone) (s : State) : SettingsKept s (enterStandby z s) :=
  .ite (.refl s) ((setZone_settingsKept (by rfl) (by rfl)).trans ((withdraw_settingsKept z _).trans (handMode_settingsKept z _)))

theorem bringToAuto_settingsKept (z : Zone) (s : State) : SettingsKept s (bringToAuto z s) :=
  .ite (.ite (setZone_settingsKept (by rfl) (by rfl)) (takeMode_settingsKept z .auto s)) (.refl s)

theorem layoverZone_settingsKept (s : State) (z : Zone) : SettingsKept s (layoverZone s z) :=
  .ite (.ite (bringToAuto_settingsKept z s) (enterStandby_settingsKept z s)) (.refl s)

theorem releaseZone_settingsKept (s : State) (z : Zone) : SettingsKept s (releaseZone s z) := .ite (.refl s) (takeMode_settingsKept z _ s)

theorem applyHostMode_settingsKept (z : Zone) (s : State) : SettingsKept s (applyHostMode z s) := by
  have hset : ∀ m t, SettingsKept s (s.setZone z { s.zone z with opMode := m, timer := t }) := fun _ _ => setZone_settingsKept rfl rfl
  unfold applyHostMode
  dsimp only
  split
  · exact .refl s
  split
  · refine .ite ?_ (.trans ?_ (handMode_settingsKept z _)) <;>
      exact .ite ((hset _ _).trans (withdraw_settingsKept z _)) (hset _ _)
  all_goals exact .ite (hset _ _) ((hset _ _).trans ((withdraw_settingsKept z _).trans (handMode_settingsKept z _)))

/-! ### Loads -/

theorem restoreAttempt_settingsKept (s : State) : SettingsKept s (restoreAttempt s) := by
  obtain ⟨k, -, he⟩ := restoreAttempt_stack s
  rw [he]
  exact setStack_settingsKept s k

theorem shedItem_settingsKept (i : LoadItem) (s : State) : SettingsKept s (shedItem i s) := by
  have hraise : SettingsKept s (raise .shed (s.setLa { s.la with stack := ⟨i, s.partTime⟩ :: s.la.stack })) :=
    (setStack_settingsKept s _).trans (raise_settingsKept _ .shed)
  refine hraise.trans ?_
  cases i with
  | comp c =>
    refine setComp_settingsKept ?_
    unfold unloadRec
    split <;> rfl
  | pump => exact setHs_settingsKept (stopPump_heatKept _ _)
  | heater => exact setHs_settingsKept (stopHeater_heatKept _ _)
  | blower z => exact setBlower_settingsKept _ z _

theorem shedLoop_settingsKept (n : Nat) (s : State) : SettingsKept s (shedLoop n s).1 := by
  induction n generalizing s with
  | zero => exact .refl s
  | succ n ih =>
    unfold shedLoop
    split
    · exact .refl s
    split
    · exact .refl s
    · exact (shedItem_settingsKept _ s).trans (ih _)

theorem shedTest_settingsKept (s : State) : SettingsKept s (shedTest s) :=
  (shedLoop_settingsKept 10 s).trans (.foldl (fun s (c : TokenKind × Nat) => reportPool_settingsKept c.1 c.2 s) _ _)

/-! ### Power states -/

theorem enterPower_settingsKept (p : PowerState) (s : State) : SettingsKept s (enterPower p s) :=
  (setPsc_settingsKept (s := s) (v := { s.psc with power := p, ignitionOffSince := none }) rfl).trans (raise_settingsKept _ .power)

theorem leaveRest_settingsKept {s : State} (h : s.psc.power ≠ .parked) : SettingsKept s (leaveRest s) := by
  unfold leaveRest
  dsimp only
  rw [if_neg h]
  exact ⟨fun _ => id, .refl _, rfl, fun _ => rfl, ⟨⟨rfl, rfl, rfl, rfl⟩, fun _ => ⟨rfl, rfl⟩, id, .inl rfl⟩, rfl, fun _ => ⟨rfl, rfl⟩, rfl, rfl⟩

theorem preconditionZones_settingsKept (s : State) : SettingsKept s (preconditionZones s) :=
  .ite (.foldl (fun s z => bringToAuto_settingsKept z s) _ _) (.refl s)

theorem leaveForRun_settingsKept {s : State} (h : s.psc.power ≠ .parked) : SettingsKept s (leaveForRun s) :=
  (leaveRest_settingsKept h).trans ((enterPower_settingsKept .run _).trans ((SettingsKept.foldl releaseZone_settingsKept _ _).trans
    (preconditionZones_settingsKept _)))

theorem leaveForLayover_settingsKept {s : State} (h : s.psc.power ≠ .parked) : SettingsKept s (leaveForLayover s) :=
  (leaveRest_settingsKept h).trans ((enterPower_settingsKept .layover _).trans ((SettingsKept.foldl releaseZone_settingsKept _ _).trans
    (.foldl layoverZone_settingsKept _ _)))

theorem enterParked_settingsKept (s : State) : SettingsKept s (enterParked s) :=
  (show SettingsKept s (s.setZc { s.zc with periodTimer := none }) from
    ⟨fun _ => id, .refl _, rfl, fun _ => rfl, .refl _, rfl, fun _ => ⟨rfl, rfl⟩, rfl, rfl⟩).trans (enterPower_settingsKept .parked _)

theorem windDownReports_settingsKept (s : State) : SettingsKept s (windDownReports s) := by
  unfold windDownReports
  dsimp only
  split
  next hw =>
    have hp : (s.setPsc { s.psc with stopped := reportStopped s }).psc.power ≠ .parked := by
      show s.psc.power ≠ .parked
      rw [hw]
      decide
    refine (setPsc_settingsKept (s := s) (v := { s.psc with stopped := reportStopped s }) rfl).trans ?_
    exact .ite (.ite ((leaveForRun_settingsKept hp).trans (shedTest_settingsKept _))
      (.ite ((leaveForLayover_settingsKept hp).trans (shedTest_settingsKept _)) (enterParked_settingsKept _))) (.refl _)
  next => exact .refl s

theorem endEvent_settingsKept (s : State) : SettingsKept s (endEvent s) :=
  (shedTest_settingsKept s).trans (windDownReports_settingsKept _)

end Sys2Proof.Machine

namespace Sys2Proof.Machine

/-! ## The channel of a sample (R4, R5) -/

theorem protectComp_settingsKept (c : Comp) (low throttles failed : Bool) (s : State) :
    SettingsKept s (protectComp c low throttles failed s) := by
  have hcharge : ∀ v r, (chargeRec s.partTime v r).enable = r.enable := fun v r => by
    unfold chargeRec
    split
    · cases v <;> rfl
    · rfl
  have htrip : ∀ t : State, SettingsKept t (tripComp c t) := fun t => by
    have hset : SettingsKept t (t.setComp c (tripRec t.partTime (t.comp c))) := setComp_settingsKept rfl
    obtain ⟨k, -, he⟩ := restoreIfFell_stack (committedLoad t)
      (if (tripRec t.partTime (t.comp c)).state = .lockout then
        raise .compLock (raise .compTrip (t.setComp c (tripRec t.partTime (t.comp c))))
      else raise .compTrip (t.setComp c (tripRec t.partTime (t.comp c))))
    unfold tripComp
    dsimp only
    rw [he]
    exact ((hset.trans (raise_settingsKept _ .compTrip)).trans (.ite (raise_settingsKept _ .compLock) (.refl _))).trans
      ((setStack_settingsKept _ k).trans (reportPool_settingsKept _ _ _))
  have hthrottle : ∀ t : State, SettingsKept t (throttleComp c t) := fun t =>
    .ite ((setComp_settingsKept (by rfl)).trans (reportPool_settingsKept _ _ _)) (.refl t)
  exact (SettingsKept.ite (setComp_settingsKept (hcharge _ _)) (.refl s)).trans (.ite (htrip _) (.ite (hthrottle _) (.refl _)))

theorem deriveSensor_settingsKept (s : State) (z : Zone) : SettingsKept s (deriveSensor s z) :=
  (setZone_settingsKept (s := s) (z := z) (r := { s.zone z with sensor := sensorOf s.ssu z }) rfl rfl).trans
    (.ite ((setZone_settingsKept (by rfl) (by rfl)).trans
      ((withdraw_settingsKept z _).trans ((handMode_settingsKept z _).trans (shedTest_settingsKept _)))) (.refl _))

theorem deriveSensors_settingsKept (s : State) : SettingsKept s (deriveSensors s) := .foldl deriveSensor_settingsKept _ s

/-- The state after a coolant sample's band and its report, before the stop requests (R70, R71). -/
def bandReported (s : State) : State := reportHeat (s.setHs { s.hs with band := bandAfter s.hs.band (coolantUsed s) })

/-- The stop requests of a coolant sample: overheat, and the channel's failure (R122). -/
theorem coolantSampled_eq (failed : Bool) (s : State) :
    ((failed = true ∨ ∃ x, coolantUsed s = some x ∧ 750 ≤ x) →
        coolantSampled failed s = (bandReported s).setHs (stopHeater (bandReported s).partTime (bandReported s).hs)) ∧
      (¬ (failed = true ∨ ∃ x, coolantUsed s = some x ∧ 750 ≤ x) → coolantSampled failed s = bandReported s) := by
  unfold coolantSampled bandReported
  dsimp only
  cases coolantUsed s with
  | none => cases failed <;> simp
  | some x =>
    simp only [Option.some.injEq, exists_eq_left', Bool.or_eq_true, decide_eq_true_eq]
    exact ⟨fun h => if_pos h.symm, fun h => if_neg (h ∘ Or.symm)⟩

/-- A coolant sample's stop request and band leave raised flags raised. -/
theorem coolantSampled_flags (failed : Bool) (s : State) {f : Flag} (h : hasFlag s.hlu.latched f = true) :
    hasFlag (coolantSampled failed s).hlu.latched f = true := by
  have hreport : hasFlag (bandReported s).hlu.latched f = true := (reportPool_settingsKept .heat _ _).flags f h
  obtain ⟨hstop, hgo⟩ := coolantSampled_eq failed s
  by_cases hc : failed = true ∨ ∃ x, coolantUsed s = some x ∧ 750 ≤ x
  · rw [hstop hc]
    exact hreport
  · rw [hgo hc]
    exact hreport

theorem sampleUsers_outside (c : Channel) (failed : Bool) (s : State) : OutsideKept s (sampleUsers c failed s) := by
  cases c with
  | zoneTemp z => exact deriveSensors_outside s
  | coolant => exact (coolantSampled_plantOnly failed s).1
  | pressureHigh k => exact (protectComp_plantOnly k _ _ _ s).1
  | pressureLow k => exact (protectComp_plantOnly k _ _ _ s).1
  | coil k => exact (protectComp_plantOnly k _ _ _ s).1
  | _ => exact .refl s

theorem sampleUsers_flags (c : Channel) (failed : Bool) (s : State) {f : Flag} (h : hasFlag s.hlu.latched f = true) :
    hasFlag (sampleUsers c failed s).hlu.latched f = true := by
  unfold sampleUsers
  split
  · exact (deriveSensors_settingsKept s).flags f h
  · exact coolantSampled_flags failed s h
  · exact (protectComp_settingsKept _ _ _ _ s).flags f h
  · exact (protectComp_settingsKept _ _ _ _ s).flags f h
  · exact (protectComp_settingsKept _ _ _ _ s).flags f h
  all_goals exact h

/-- The channel record after a sample, in the words of R5. -/
theorem sampleRec_eq (now : Nat) (c : Channel) (v : Int) (r : ChannelRec) :
    sampleRec now (sampleValid c v) v r =
      if (channelRange c).1 ≤ v ∧ v ≤ (channelRange c).2 then ⟨.good, some v, none, some now⟩
      else
        match r.status, r.heldSince with
        | .good, _ => ⟨.held, r.lastGood, some now, some now⟩
        | .held, some h =>
          if h + 60 ≤ now then ⟨.failed, r.lastGood, none, some now⟩
          else { r with sampledAt := some now }
        | .held, none => { r with sampledAt := some now }
        | .failed, _ => { r with sampledAt := some now } := by
  have hv : sampleValid c v = true ↔ (channelRange c).1 ≤ v ∧ v ≤ (channelRange c).2 := by
    simp only [sampleValid, Bool.and_eq_true, decide_eq_true_eq]
  obtain ⟨st, lg, hs, sa⟩ := r
  unfold sampleRec
  refine if_congr hv rfl ?_
  cases st with
  | good => rfl
  | failed => rfl
  | held =>
    cases hs with
    | none => rfl
    | some h =>
      show (if lasted now (some h) 60 = true then _ else _) = _
      simp only [lasted, passed, decide_eq_true_eq]

theorem takeSample_outsideSsu (c : Channel) (v : Int) (s : State) :
    OutsideKept (s.setSsu (s.ssu.set c (sampleRec s.partTime (sampleValid c v) v (s.ssu.get c)))) (takeSample c v s) := by
  unfold takeSample
  dsimp only
  split
  · exact (raise_plantOnly _ _).1
  · exact .refl _

/-- A sample of a channel moves no other block, but for the flag (R5). -/
theorem takeSample_kept (c : Channel) (v : Int) (s : State) :
    (takeSample c v s).zc = s.zc ∧ (takeSample c v s).hs = s.hs ∧ (takeSample c v s).scm = s.scm ∧ (takeSample c v s).psc = s.psc := by
  unfold takeSample
  dsimp only
  split <;> exact ⟨rfl, rfl, rfl, rfl⟩

/-- Loads and stopped plant do not depend on the channels. -/
theorem takeSample_settled (c : Channel) (v : Int) (s : State) :
    settled (takeSample c v s) = settled s ∧ windDownAtRest (takeSample c v s) = windDownAtRest s := by
  unfold takeSample
  dsimp only
  split <;> exact ⟨rfl, rfl⟩

theorem takeSample_sensor {c : Channel} {v : Int} {s : State} (h : (s.ssu.get c).status ≠ .failed)
    (hf : (sampleRec s.partTime (sampleValid c v) v (s.ssu.get c)).status = .failed) :
    hasFlag (takeSample c v s).hlu.latched .sensor = true := by
  unfold takeSample
  dsimp only
  rw [if_pos ⟨h, hf⟩]
  exact hasFlag_setFlag_self _ _

/-- A sample event that is taken: the channel first, its users, and the end of the event (R4). -/
theorem execSample_taken {c : Channel} {v : Int} {s : State} (hp : s.psc.power ≠ .parked) (ht : (s.ssu.get c).sampledAt ≠ some s.partTime) :
    exec (.sample c v) s =
      .next (endEvent (sampleUsers c ((s.ssu.get c).status != .failed && ((takeSample c v s).ssu.get c).status == .failed)
        (takeSample c v s))) := by
  have hno : ¬ (s.psc.power = .parked ∨ notYet s.partTime (s.ssu.get c).sampledAt = false) := by
    rw [notYet, bne_eq_false_iff_eq]
    exact not_or.2 ⟨hp, ht⟩
  exact congrArg Host.Outcome.next (if_neg hno)

/-- What a sample event leaves outside arbiter, loads, plant and air. -/
theorem sampleEvent_outside (c : Channel) (v : Int) (failed : Bool) (s : State) :
    OutsideKept (s.setSsu (s.ssu.set c (sampleRec s.partTime (sampleValid c v) v (s.ssu.get c))))
      (endEvent (sampleUsers c failed (takeSample c v s))) :=
  (takeSample_outsideSsu c v s).trans ((sampleUsers_outside c failed _).trans (endEvent_plantStep (.refl _)).1)

/-- Settles O36: the users of the channel, and what ends the event, move no channel. -/
theorem sampleMovesChannel : Obligations.SampleMovesChannel := by
  intro c v s
  refine ⟨fun h => ?_, fun hp ht => ⟨_, execSample_taken hp ht, ?_⟩⟩
  · have hno : s.psc.power = .parked ∨ notYet s.partTime (s.ssu.get c).sampledAt = false := by
      rwa [notYet, bne_eq_false_iff_eq]
    exact congrArg Host.Outcome.next (if_pos hno)
  have hrec := sampleRec_eq s.partTime c v (s.ssu.get c)
  generalize hfailed : ((s.ssu.get c).status != .failed && ((takeSample c v s).ssu.get c).status == .failed) = failed
  have hout := sampleEvent_outside c v failed s
  refine ⟨_, hrec, ?_, fun d hd => ?_, fun hs hf => ?_, ⟨hout.partTime, hout.pins, hout.ps, hout.pending⟩, fun hq hc => ?_⟩
  · rw [hout.ssu]
    exact Channels.get_set_self _ _ _
  · rw [hout.ssu]
    exact Channels.get_set_of_ne _ _ hd
  · exact (endEvent_settingsKept _).flags _ (sampleUsers_flags c failed _ (takeSample_sensor hs hf))
  · have husers : sampleUsers c failed (takeSample c v s) = takeSample c v s := by
      obtain rfl | rfl | rfl | rfl | rfl | rfl := hc <;> rfl
    rw [husers]
    obtain ⟨hsettled, hrest⟩ := takeSample_settled c v s
    have hend : endEvent (takeSample c v s) = takeSample c v s := by
      obtain ⟨hs, hw⟩ | hs := hq
      · exact endEvent_settled (hsettled.trans hs) (by rwa [(takeSample_kept c v s).2.2.2])
      · exact endEvent_windDownAtRest (hrest.trans hs)
    rw [hend]
    rfl

end Sys2Proof.Machine

namespace Sys2Proof.Machine

/-! ## Work zone by zone -/

/-- Work on a list of zones of which each step sets its own zone's record alone, to one that the other zones do not enter. -/
theorem foldl_ownZone {f : State → Zone → State} {g : State → Zone → ZoneRec} (hzones : ∀ s z, ZonesOnly s (f s z))
    (hzone : ∀ s z y, (f s z).zone y = if y = z then g s z else s.zone y)
    (hcongr : ∀ s t z, ZonesOnly s t → t.zone z = s.zone z → g t z = g s z) (l : List Zone) (hn : l.Nodup) (s : State) :
    ZonesOnly s (l.foldl f s) ∧ ∀ y, (l.foldl f s).zone y = if y ∈ l then g s y else s.zone y := by
  induction l generalizing s with
  | nil => exact ⟨.refl s, fun y => by rw [if_neg List.not_mem_nil]; rfl⟩
  | cons z l ih =>
    obtain ⟨hz, hl⟩ := List.nodup_cons.1 hn
    obtain ⟨hrest, hy⟩ := ih hl (f s z)
    rw [List.foldl_cons]
    refine ⟨(hzones s z).trans hrest, fun y => ?_⟩
    rw [hy, hzone]
    by_cases hyz : y = z
    · subst hyz
      rw [if_neg hz, if_pos rfl, if_pos List.mem_cons_self]
    · rw [if_neg hyz]
      refine if_congr (by simp [hyz]) ?_ rfl
      exact hcongr s (f s z) y (hzones s z) (by rw [hzone, if_neg hyz])

/-- The same over all zones. -/
theorem foldl_allZones {f : State → Zone → State} {g : State → Zone → ZoneRec} (hzones : ∀ s z, ZonesOnly s (f s z))
    (hzone : ∀ s z y, (f s z).zone y = if y = z then g s z else s.zone y)
    (hcongr : ∀ s t z, ZonesOnly s t → t.zone z = s.zone z → g t z = g s z) (s : State) :
    ZonesOnly s (Zone.all.foldl f s) ∧ ∀ y, (Zone.all.foldl f s).zone y = g s y := by
  obtain ⟨h, hy⟩ := foldl_ownZone hzones hzone hcongr Zone.all (by decide) s
  exact ⟨h, fun y => by rw [hy, if_pos (mem_zone_all y)]⟩

/-! ## Zone sensor states (R7, R8) -/

/-- A zone's record with its sensor state derived again; one that becomes Lost loses temperature, I, D and request. -/
def derivedRec (s : State) (z : Zone) : ZoneRec :=
  let st := sensorOf s.ssu z
  if st = .lost ∧ (s.zone z).sensor ≠ .lost then withdrawnRec { s.zone z with sensor := st, tempUsed := none }
  else { s.zone z with sensor := st }

theorem loseSensor_plantOnly (z : Zone) (s : State) :
    PlantOnly (s.setZone z (withdrawnRec { s.zone z with tempUsed := none })) (loseSensor z s) := by
  have hw : PlantOnly (s.setZone z (withdrawnRec { s.zone z with tempUsed := none })) (withdraw z (s.setZone z { s.zone z with tempUsed := none })) := by
    unfold withdraw
    rw [State.zone_setZone_self, State.setZone_setZone]
    exact requestTokens_plantOnly z .none 0 _
  exact hw.trans ((handMode_plantOnly z _).trans (shedTest_plantOnly _))

theorem deriveSensor_plantOnly (s : State) (z : Zone) : PlantOnly (s.setZone z (derivedRec s z)) (deriveSensor s z) := by
  unfold deriveSensor derivedRec
  dsimp only
  split
  next h =>
    have hlose := loseSensor_plantOnly z (s.setZone z { s.zone z with sensor := sensorOf s.ssu z })
    rwa [State.zone_setZone_self, State.setZone_setZone] at hlose
  next => exact .refl _

theorem deriveSensors_zone (s : State) : ZonesOnly s (deriveSensors s) ∧ ∀ z, (deriveSensors s).zone z = derivedRec s z :=
  foldl_allZones (fun s z => (setZone_zonesOnly s z _).trans (deriveSensor_plantOnly s z).zonesOnly)
    (fun s z y => by rw [(deriveSensor_plantOnly s z).zone, State.zone_setZone])
    (fun s t z h hz => by
      unfold derivedRec
      rw [h.ssu, hz]) s

/-- The table of R7. -/
theorem sensorOf_eq (ch : Channels) (z : Zone) {own : ChannelRec} (ho : own = ch.get (.zoneTemp z)) {lent : Bool}
    (hl : lent = Zone.all.any (fun y => decide (y ≠ z) && decide (deckOf y = deckOf z) && ((ch.get (.zoneTemp y)).status == .good))) :
    sensorOf ch z =
      if own.status = .good then .good
      else if own.status = .held ∧ own.lastGood ≠ none then .held
      else if lent then .borrowed
      else .lost := by
  have hmates : goodMates ch z = [] ↔ ¬ lent = true := by
    rw [hl, goodMates, deckMates, List.filter_filter, List.filter_eq_nil_iff, List.any_eq_true]
    refine ⟨fun h ⟨y, hy, hg⟩ => h y hy ?_, fun h y hy hg => h ⟨y, hy, ?_⟩⟩
    · simp only [Bool.and_eq_true, decide_eq_true_eq, beq_iff_eq, bne_iff_ne] at hg ⊢
      obtain ⟨⟨hne, hd⟩, hgood⟩ := hg
      exact ⟨beq_iff_eq.2 hgood, hd, hne⟩
    · simp only [Bool.and_eq_true, decide_eq_true_eq, bne_iff_ne] at hg ⊢
      obtain ⟨hgood, hd, hne⟩ := hg
      exact ⟨⟨hne, hd⟩, hgood⟩
  subst ho
  unfold sensorOf
  dsimp only
  refine if_congr beq_iff_eq rfl (if_congr (and_congr Iff.rfl Option.isSome_iff_ne_none) rfl ?_)
  by_cases h : lent = true
  · rw [if_neg (mt hmates.1 (not_not_intro h)), if_pos h]
  · rw [if_pos (hmates.2 h), if_neg h]

/-! ## Heating after a coolant sample (R70, R122) -/

theorem bandReported_hs (s : State) :
    ∃ w, (bandReported s).hs = { s.hs with band := bandAfter s.hs.band (coolantUsed s), wantedTotal := w } := by
  unfold bandReported reportHeat reportPool
  split
  · exact ⟨s.hs.wantedTotal, rfl⟩
  · exact ⟨_, (arbEvent_done _ _).hs⟩

theorem bandReported_partTime (s : State) : (bandReported s).partTime = s.partTime :=
  (reportHeat_plantOnly (s.setHs { s.hs with band := bandAfter s.hs.band (coolantUsed s) })).partTime

/-- A stop request ends Ignition and Burning in After-run, and leaves the other states their part time (R122). -/
theorem stopHeater_stops (now : Nat) (h : Heating) :
    runRequest (stopHeater now h) = false ∧ (stopHeater now h).heater = (if runRequest h then .afterRun else h.heater) ∧
      (stopHeater now h).heaterSince = (if runRequest h then now else h.heaterSince) ∧
      (heaterCounted h.heater = true → (stopHeater now h).latched = false ∧ (h.heater ≠ .retryPurge → (stopHeater now h).cause = some .stop)) := by
  obtain ⟨pump, pd, band, heater, since, attempt, relight, cause, latched, hd, permit, ss, is, w, ca⟩ := h
  cases heater with
  | off => exact ⟨rfl, rfl, rfl, nofun⟩
  | ignition => exact ⟨rfl, rfl, rfl, fun _ => ⟨rfl, fun _ => rfl⟩⟩
  | burning => exact ⟨rfl, rfl, rfl, fun _ => ⟨rfl, fun _ => rfl⟩⟩
  | afterRun => exact ⟨rfl, rfl, rfl, fun _ => ⟨rfl, fun _ => rfl⟩⟩
  | retryPurge => exact ⟨rfl, rfl, rfl, fun _ => ⟨rfl, fun h => absurd rfl h⟩⟩
  | lockout => exact ⟨rfl, rfl, rfl, nofun⟩

/-- What a stop request has brought about stands to the end of the event. -/
theorem HeatKept.stopped {now : Nat} {g t : Heating} (h : HeatKept (stopHeater now g) t) :
    t.heater = (if runRequest g then .afterRun else g.heater) ∧ t.heaterSince = (if runRequest g then now else g.heaterSince) ∧
      (heaterCounted g.heater = true → t.latched = false ∧ (g.heater ≠ .retryPurge → t.cause = some .stop)) := by
  obtain ⟨hrun, hheater, hsince, hpurge⟩ := stopHeater_stops now g
  obtain ⟨h1, h2⟩ := h.heater hrun
  refine ⟨h1.trans hheater, h2.trans hsince, fun hc => ?_⟩
  obtain ⟨hlatched, hcause⟩ := hpurge hc
  refine ⟨?_, fun hr => ?_⟩
  · by_contra hl
    exact Bool.false_ne_true (hlatched.symm.trans (h.latched ((Bool.not_eq_false _).mp hl)))
  · obtain hk | hk := h.cause
    · exact hk.trans (hcause hr)
    · exact hk

/-- The coolant sample event (R70, R122). -/
theorem coolantEvent_heat (failed : Bool) (s : State) :
    (endEvent (coolantSampled failed s)).hs.band = bandAfter s.hs.band (coolantUsed s) ∧
      ((failed = true ∨ ∃ x, coolantUsed s = some x ∧ 750 ≤ x) →
        (endEvent (coolantSampled failed s)).hs.heater = (if runRequest s.hs then .afterRun else s.hs.heater) ∧
          (endEvent (coolantSampled failed s)).hs.heaterSince = (if runRequest s.hs then s.partTime else s.hs.heaterSince) ∧
          (heaterCounted s.hs.heater = true → (endEvent (coolantSampled failed s)).hs.latched = false ∧
            (s.hs.heater ≠ .retryPurge → (endEvent (coolantSampled failed s)).hs.cause = some .stop))) := by
  have hkept := (endEvent_settingsKept (coolantSampled failed s)).heat
  generalize endEvent (coolantSampled failed s) = t at hkept ⊢
  obtain ⟨hstop, hgo⟩ := coolantSampled_eq failed s
  obtain ⟨w, hw⟩ := bandReported_hs s
  by_cases hc : failed = true ∨ ∃ x, coolantUsed s = some x ∧ 750 ≤ x
  · rw [hstop hc] at hkept
    have hk : HeatKept (stopHeater s.partTime { s.hs with band := bandAfter s.hs.band (coolantUsed s), wantedTotal := w }) t.hs := by
      rw [← hw, ← bandReported_partTime s]
      exact hkept
    refine ⟨?_, fun _ => hk.stopped⟩
    exact hk.same.1.trans (stopHeater_heatKept _ _).same.1
  · rw [hgo hc, hw] at hkept
    exact ⟨hkept.same.1, fun h => absurd h hc⟩

/-- The thresholds of R70. -/
theorem bandAfter_thresholds {band : Nat} (hb : band ≤ 3) (x : Int) {n : Nat}
    (hn : n = if 700 ≤ x then 3 else if 550 ≤ x then 2 else if 400 ≤ x then 1 else 0) :
    (band < n → bandAfter band (some x) = n) ∧
      (n ≤ band →
        (band = 0 ∨ (band = 1 ∧ 380 ≤ x) ∨ (band = 2 ∧ 530 ≤ x) ∨ (band = 3 ∧ 680 ≤ x) → bandAfter band (some x) = band) ∧
          ((band = 1 ∧ x < 380) ∨ (band = 2 ∧ x < 530) ∨ (band = 3 ∧ x < 680) →
            bandAfter band (some x) = if 680 ≤ x then 3 else if 530 ≤ x then 2 else if 380 ≤ x then 1 else 0)) := by
  have hr : risingBand x = n := hn.symm
  unfold bandAfter
  dsimp only
  rw [hr]
  refine ⟨fun h => if_pos h, fun h => ?_⟩
  rw [if_neg (Nat.not_lt.2 h), fallingBand]
  refine ⟨fun h => ?_, fun h => ?_⟩ <;> repeat' split
  all_goals omega

/-! ## The sample events of the sensors' users -/

theorem derivedRec_eq (s : State) (z : Zone) :
    (derivedRec s z).sensor = sensorOf s.ssu z ∧
      derivedRec s z =
        if (derivedRec s z).sensor = .lost ∧ (s.zone z).sensor ≠ .lost then
          { s.zone z with sensor := .lost, tempUsed := none, integ := 0, demand := 0, reqKind := .none, wanted := 0 }
        else { s.zone z with sensor := (derivedRec s z).sensor } := by
  have hs : (derivedRec s z).sensor = sensorOf s.ssu z := by
    unfold derivedRec
    dsimp only
    split <;> rfl
  refine ⟨hs, ?_⟩
  rw [hs, derivedRec]
  dsimp only
  split
  next h => exact congrArg (fun k => withdrawnRec { s.zone z with sensor := k, tempUsed := none }) h.1
  next => rfl

/-- A zone sample's event: no zone record moves but by its own sensor state. -/
theorem zoneSample_event (s : State) :
    (s.psc.power ≠ .windingDown → (endEvent (deriveSensors s)).psc = s.psc) ∧
      ((endEvent (deriveSensors s)).psc.power = s.psc.power →
        (endEvent (deriveSensors s)).scm = s.scm ∧ { (endEvent (deriveSensors s)).psc with stopped := s.psc.stopped } = s.psc ∧
          ∀ z, (endEvent (deriveSensors s)).zone z = derivedRec s z) := by
  obtain ⟨hzones, hrec⟩ := deriveSensors_zone s
  have hstep : PlantStep (deriveSensors s) (endEvent (deriveSensors s)) := endEvent_plantStep (.refl _)
  generalize endEvent (deriveSensors s) = t at hstep ⊢
  refine ⟨fun hw => ?_, fun hp => ?_⟩
  · obtain ⟨-, -, hpsc⟩ := hstep.other (by rwa [hzones.psc])
    exact hpsc.trans hzones.psc
  · obtain ⟨hzc, hscm, hpsc⟩ := hstep.samePower (by rwa [hzones.psc])
    rw [hzones.psc] at hpsc
    refine ⟨hscm.trans hzones.scm, hpsc, fun z => ?_⟩
    rw [State.zone, hzc]
    exact hrec z

theorem sampleUsers_zoneTemp (c : Zone) (failed : Bool) (s : State) : sampleUsers (.zoneTemp c) failed s = deriveSensors s := rfl

theorem sampleUsers_coolant (failed : Bool) (s : State) : sampleUsers .coolant failed s = coolantSampled failed s := rfl

/-- Settles O37: every zone derives its own sensor state, and what ends the event stops heating at most. -/
theorem sensorUsersFollow : Obligations.SensorUsersFollow := by
  refine ⟨fun c v s hp ht => ?_, fun v s hp ht hb => ?_⟩
  · refine ⟨_, (execSample_taken hp ht).trans (congrArg _ (congrArg _ (sampleUsers_zoneTemp c _ _))), ?_⟩
    obtain ⟨hzc, -, hscm, hpsc⟩ := takeSample_kept (.zoneTemp c) v s
    generalize takeSample (.zoneTemp c) v s = s1 at hzc hscm hpsc ⊢
    obtain ⟨hany, hsame⟩ := zoneSample_event s1
    have hssu : (endEvent (deriveSensors s1)).ssu = s1.ssu :=
      (endEvent_plantStep (.refl (deriveSensors s1))).ssu.trans (deriveSensors_outside s1).ssu
    generalize endEvent (deriveSensors s1) = t at hany hsame hssu ⊢
    rw [hpsc] at hany hsame
    refine ⟨fun hi => hany fun hw => ?_, fun hpower => ?_⟩
    · rw [hw] at hi
      cases hi
    · obtain ⟨hsm, hps, hrec⟩ := hsame hpower
      refine ⟨hsm.trans hscm, hps, fun z own hown lent hlent => ?_⟩
      obtain ⟨hsensor, heq⟩ := derivedRec_eq s1 z
      have hz : s1.zone z = s.zone z := by rw [State.zone, hzc]; rfl
      rw [hssu] at hown hlent
      rw [hrec, ← hz]
      exact ⟨hsensor.trans (sensorOf_eq _ z hown hlent), heq⟩
  · refine ⟨_, (execSample_taken hp ht).trans (congrArg _ (congrArg _ (sampleUsers_coolant _ _))), ?_⟩
    generalize hfailed : ((s.ssu.get .coolant).status != .failed && ((takeSample .coolant v s).ssu.get .coolant).status == .failed) = failed
    have hout := takeSample_outsideSsu .coolant v s
    obtain ⟨hzc, hhs, hscm, hpsc⟩ := takeSample_kept .coolant v s
    generalize takeSample .coolant v s = s1 at hfailed hout hzc hhs hscm hpsc ⊢
    obtain ⟨hband, hstop⟩ := coolantEvent_heat failed s1
    have hstep : PlantStep s1 (endEvent (coolantSampled failed s1)) := endEvent_plantStep (coolantSampled_plantOnly failed s1)
    generalize endEvent (coolantSampled failed s1) = t at hband hstop hstep ⊢
    have hused : coolantUsed s1 = valueUsed (t.ssu.get .coolant) := by
      rw [hstep.ssu]
      rfl
    rw [hused, hhs] at hband hstop
    have hplant : PlantOnly (s.setSsu s1.ssu) s1 :=
      ⟨⟨hout.partTime, hout.freeCount, hout.pins, rfl, hout.ps, hout.pending, hout.link⟩, hzc, hscm, hpsc⟩
    have hnow : s1.partTime = s.partTime := hout.partTime
    refine ⟨?_, fun h => ?_, fun hn => ?_, fun x hx n hn => ?_⟩
    · rw [hstep.ssu]
      exact hplant.then_plantStep hstep
    · rw [hstep.ssu] at h
      rw [hnow, hstep.ssu] at hstop
      refine hstop (h.imp_left fun ⟨hs, ht⟩ => ?_)
      rw [← hfailed]
      simp only [Bool.and_eq_true, bne_iff_ne, beq_iff_eq]
      exact ⟨hs, ht⟩
    · rw [hband, hn]
      rfl
    · rw [hband, hx]
      exact bandAfter_thresholds hb x hn

end Sys2Proof.Machine

namespace Sys2Proof.Machine

/-! ## PROFILE LOAD, up to the depart lead (R23, R36, R66, R78, R107, R124, R141) -/

theorem takeSettings_outside (g : Settings) (s : State) :
    (takeSettings g s).ps = s.ps ∧ (takeSettings g s).partTime = s.partTime ∧ (takeSettings g s).pins = s.pins ∧
      (takeSettings g s).ssu = s.ssu ∧ (takeSettings g s).pending = s.pending ∧ (takeSettings g s).psc = s.psc ∧ (takeSettings g s).scm = s.scm := by
  simp [takeSettings]

/-- The settings that the blocks take before they act (R176). -/
theorem takeSettings_taken (g : Settings) (s : State) :
    ((takeSettings g s).zc.kp = g.kp ∧ (takeSettings g s).zc.ki = g.ki ∧ (takeSettings g s).zc.db = g.db ∧
        (takeSettings g s).zc.pendingPeriod = g.period ∧ (takeSettings g s).zc.setbackOffset = g.setbackOffset) ∧
      (takeSettings g s).ca.modes = g.modes ∧ (takeSettings g s).la.fallback = g.fallback ∧
      (((takeSettings g s).comp .a).enable = g.compEnable.a ∧ ((takeSettings g s).comp .b).enable = g.compEnable.b) ∧
      (takeSettings g s).hs.permit = g.permit ∧
      (takeSettings g s).apc.ventMin = g.ventMin ∧ (takeSettings g s).apc.freshMin = g.freshMin ∧
      (takeSettings g s).apc.curveTable = g.curveTable := by
  simp [takeSettings, State.comp, PerComp.get]

/-- What a load leaves of the parts that its settings stand in. -/
theorem takeSettings_kept (g : Settings) (s : State) :
    (takeSettings g s).zc.period = s.zc.period ∧ (takeSettings g s).zc.shift = s.zc.shift ∧
      (takeSettings g s).apc.pointer = s.apc.pointer ∧ (takeSettings g s).la.hostValue = s.la.hostValue ∧
      (takeSettings g s).la.status = s.la.status ∧ (∀ z, ((takeSettings g s).zone z).seats = (s.zone z).seats) ∧
      ∀ i, ((takeSettings g s).ca.entry i).masked = (s.ca.entry i).masked := by
  have hz : ∀ z, (takeSettings g s).zone z = loadedZone (g.zones.get z) (s.zone z) := fun z => PerZone.get_map _ _ z
  refine ⟨?_, ?_, ?_, ?_, ?_, fun z => by rw [hz]; rfl, fun i => ?_⟩
  all_goals simp [takeSettings]
  rfl

/-- The loaded record of a zone after the ZC's action on it: its timer adapted, a changed host mode brought into its mode (R23, R36). -/
def loadActedRec (old : PerZone ZoneRec) (s : State) (z : Zone) : ZoneRec :=
  let r := adaptTimer s.psc.power s.psc.precondition (s.zone z)
  if r.hostMode = (old.get z).hostMode then r else if inUse s.psc.power = true then hostModeRec r else r

theorem applyHostMode_zone_any (z : Zone) (s : State) (y : Zone) :
    (applyHostMode z s).zone y = if y = z then if inUse s.psc.power = true then hostModeRec (s.zone z) else s.zone z else s.zone y := by
  by_cases h : inUse s.psc.power = true
  · rw [applyHostMode_zone h, if_pos h]
  · have hsame : applyHostMode z s = s := by
      unfold applyHostMode
      exact if_pos (by rw [Bool.eq_false_of_not_eq_true h]; rfl)
    rw [hsame, if_neg h]
    split
    next hy => rw [hy]
    next => rfl

theorem loadZoneActions_zonesOnly (old : PerZone ZoneRec) (s : State) (z : Zone) : ZonesOnly s (loadZoneActions old s z) :=
  .ite (setZone_zonesOnly s z _) ((setZone_zonesOnly s z _).trans (applyHostMode_zonesOnly z _))

theorem loadZoneActions_zone (old : PerZone ZoneRec) (s : State) (z y : Zone) :
    (loadZoneActions old s z).zone y = if y = z then loadActedRec old s z else s.zone y := by
  unfold loadZoneActions loadActedRec
  dsimp only
  rw [State.zone_setZone_self]
  split
  · exact s.zone_setZone z y _
  · rw [applyHostMode_zone_any, State.zone_setZone_self, State.zone_setZone]
    split <;> rfl

/-- The ZC's actions on a load, zone by zone. -/
theorem loadZones_zone (old : PerZone ZoneRec) (s : State) :
    ZonesOnly s (Zone.all.foldl (loadZoneActions old) s) ∧
      ∀ z, (Zone.all.foldl (loadZoneActions old) s).zone z = loadActedRec old s z :=
  foldl_allZones (loadZoneActions_zonesOnly old) (loadZoneActions_zone old)
    (fun s t z h hz => by
      unfold loadActedRec
      rw [h.psc, hz]) s

theorem adaptTimer_kept (p : PowerState) (b : Bool) (r : ZoneRec) :
    settingsOf (adaptTimer p b r) = settingsOf r ∧ (adaptTimer p b r).seats = r.seats ∧ (adaptTimer p b r).trim = r.trim ∧
      (adaptTimer p b r).opMode = r.opMode ∧ (adaptTimer p b r).hostMode = r.hostMode := by
  unfold adaptTimer
  split <;> exact ⟨rfl, rfl, rfl, rfl, rfl⟩

theorem hostModeRec_kept (r : ZoneRec) : (hostModeRec r).trim = r.trim ∧ (hostModeRec r).opMode = opOfHost r.hostMode := by
  unfold hostModeRec
  split <;> exact ⟨rfl, rfl⟩

theorem loadZoneActions_settingsKept (old : PerZone ZoneRec) (s : State) (z : Zone) : SettingsKept s (loadZoneActions old s z) := by
  obtain ⟨hset, hseats, -⟩ := adaptTimer_kept s.psc.power s.psc.precondition (s.zone z)
  have h := setZone_settingsKept (s := s) (z := z) hset hseats
  exact .ite h (h.trans (applyHostMode_settingsKept z _))

/-- Trim and operating mode after the ZC's action on a load: the mode moves with a changed host mode, in Run and Layover alone. -/
theorem loadActedRec_mode (old : PerZone ZoneRec) (s : State) (z : Zone) :
    (loadActedRec old s z).trim = (s.zone z).trim ∧
      (loadActedRec old s z).opMode =
        if inUse s.psc.power = false ∨ (s.zone z).hostMode = (old.get z).hostMode then (s.zone z).opMode else opOfHost (s.zone z).hostMode := by
  obtain ⟨-, -, htrim, hop, hhost⟩ := adaptTimer_kept s.psc.power s.psc.precondition (s.zone z)
  unfold loadActedRec
  dsimp only
  rw [hhost]
  by_cases h : (s.zone z).hostMode = (old.get z).hostMode
  · rw [if_pos h, if_pos (.inr h)]
    exact ⟨htrim, hop⟩
  by_cases hi : inUse s.psc.power = true
  · obtain ⟨ht, ho⟩ := hostModeRec_kept (adaptTimer s.psc.power s.psc.precondition (s.zone z))
    rw [if_neg h, if_pos hi, if_neg (by simp [hi, h]), ht, ho, htrim, hhost]
    exact ⟨rfl, rfl⟩
  · rw [if_neg h, if_neg hi, if_pos (.inl (Bool.eq_false_of_not_eq_true hi))]
    exact ⟨htrim, hop⟩

/-- A load up to its depart lead: settings, zones, arbiter, heater, blowers and dampers. -/
def loadBlocks (g : Settings) (s : State) : State :=
  let s2 := Zone.all.foldl (loadZoneActions s.zc.zones) (takeSettings g s)
  let s3 := arbEvent (actOnSettings s2.partTime) s2
  let s4 := if s.hs.permit && !g.permit then s3.setHs (stopHeater s3.partTime s3.hs) else s3
  let s5 := if s.apc.ventMin = g.ventMin then s4 else computeAllBlowers s4
  if s.apc.freshMin = g.freshMin then s5 else applyFreshMin s5

theorem applyProfile_eq (g : Settings) (s : State) :
    applyProfile g s =
      (let s7 := loadLead g.departLead (loadBlocks g s)
      let s8 := if s.hlu.snapshotRate = g.snapshotRate then s7 else s7.setHlu (setSnapshotRate g.snapshotRate s7.hlu)
      let s9 := shedTest s8
      windDownReports (if allowanceInForce s.la < allowanceInForce s9.la then restoreAttempt s9 else s9)) := rfl

/-- The blocks' actions after the zones' move arbiter, loads, plant and air alone. -/
theorem loadBlocks_plantOnly (g : Settings) (s : State) :
    PlantOnly (Zone.all.foldl (loadZoneActions s.zc.zones) (takeSettings g s)) (loadBlocks g s) := by
  unfold loadBlocks
  dsimp only
  generalize Zone.all.foldl (loadZoneActions s.zc.zones) (takeSettings g s) = s2
  exact ((arbEvent_plantOnly _ s2).trans (.ite (setHs_plantOnly _ _) (.refl _))).trans
    ((PlantOnly.ite (.refl _) (computeAllBlowers_plantOnly _)).trans (.ite (.refl _) (applyFreshMin_plantOnly _)))

theorem applyFreshMin_settingsKept (s : State) : SettingsKept s (applyFreshMin s) :=
  .ite (setApc_settingsKept (by rfl)) (setApc_settingsKept (by rfl))

theorem loadBlocks_settingsKept (g : Settings) (s : State) : SettingsKept (takeSettings g s) (loadBlocks g s) := by
  have hzones := SettingsKept.foldl (loadZoneActions_settingsKept s.zc.zones) Zone.all (takeSettings g s)
  unfold loadBlocks
  dsimp only
  generalize Zone.all.foldl (loadZoneActions s.zc.zones) (takeSettings g s) = s2 at hzones ⊢
  have harb : SettingsKept s2 (arbEvent (actOnSettings s2.partTime) s2) := arbEvent_settingsKept (actOnSettings_settings _ _)
  exact (hzones.trans (harb.trans (.ite (setHs_settingsKept (stopHeater_heatKept _ _)) (.refl _)))).trans
    ((SettingsKept.ite (.refl _) (.foldl (fun s z => computeBlower_settingsKept z s) _ _)).trans
      (.ite (.refl _) (applyFreshMin_settingsKept _)))

end Sys2Proof.Machine

namespace Sys2Proof.Machine

/-! ## The depart lead of a load (R161, R162) -/

/-- The depart record with a loaded lead, its expiry still to come or reached at once (R161). -/
def leadLoaded (lead now : Nat) (p : PowerCtl) : PowerCtl :=
  match p.departTime with
  | some d =>
    if leadPointOf d lead ≤ now then { p with departLead := lead, leadPoint := some (leadPointOf d lead), precondition := true, leadArmed := false }
    else { p with departLead := lead, leadPoint := some (leadPointOf d lead), leadArmed := true }
  | none => { p with departLead := lead }

/-- A standing depart time whose lead point has come. -/
def leadCome (lead now : Nat) (p : PowerCtl) : Prop := ∃ d, p.departTime = some d ∧ leadPointOf d lead ≤ now

/-- The zones of a reached lead (R162). -/
def leadZones (s : State) : State := Zone.all.foldl (fun s z => bringToAuto z s) (wakeToLayover s)

theorem loadLead_eq (lead : Nat) (s : State) :
    (leadCome lead s.partTime s.psc → loadLead lead s = leadZones (raise .depart (s.setPsc (leadLoaded lead s.partTime s.psc)))) ∧
      (¬ leadCome lead s.partTime s.psc → loadLead lead s = s.setPsc (leadLoaded lead s.partTime s.psc)) := by
  unfold loadLead leadLoaded leadCome
  dsimp only
  cases s.psc.departTime with
  | none => exact ⟨fun ⟨_, h⟩ => (nomatch h.1), fun _ => rfl⟩
  | some d =>
    have hiff : (∃ e, some d = some e ∧ leadPointOf e lead ≤ s.partTime) ↔ leadPointOf d lead ≤ s.partTime :=
      ⟨fun ⟨_, he, h⟩ => Option.some.inj he ▸ h, fun h => ⟨d, rfl, h⟩⟩
    rw [hiff]
    dsimp only
    refine ⟨fun h => ?_, fun h => ?_⟩
    · rw [if_pos h, if_pos h]
      rfl
    · rw [if_neg h, if_neg h]
      rfl

theorem leadZones_settingsKept {s : State} (h : s.psc.power ≠ .parked) : SettingsKept s (leadZones s) :=
  (SettingsKept.ite (.refl s) (leaveForLayover_settingsKept h)).trans (.foldl (fun s z => bringToAuto_settingsKept z s) _ _)

theorem leadZones_outside {s : State} (h : s.psc.power ≠ .parked) : OutsideKept s (leadZones s) :=
  (OutsideKept.ite (.refl s) (leaveForLayover_outside h)).trans (.foldl (fun s z => bringToAuto_outside z s) _ _)

/-- The record of a zone that a reached lead has brought to Auto (R33, R162). -/
def autoRec (r : ZoneRec) : ZoneRec := if r.hostMode = .auto then { r with opMode := .auto, timer := autoLength r } else r

theorem bringToAuto_plantOnly (s : State) (z : Zone) : PlantOnly (s.setZone z (autoRec (s.zone z))) (bringToAuto z s) := by
  unfold bringToAuto autoRec
  dsimp only
  split
  next hm =>
    split
    next ho =>
      rw [← ho]
      exact .refl _
    next => exact handMode_plantOnly z _
  next =>
    have hsame : s.setZone z (s.zone z) = s := by
      simp only [State.setZone, State.zone, PerZone.set_get_self]
      rfl
    rw [hsame]
    exact .refl s

theorem bringAllToAuto_zone (s : State) :
    ZonesOnly s (Zone.all.foldl (fun s z => bringToAuto z s) s) ∧
      ∀ z, (Zone.all.foldl (fun s z => bringToAuto z s) s).zone z = autoRec (s.zone z) :=
  foldl_allZones (g := fun s z => autoRec (s.zone z))
    (fun s z => (setZone_zonesOnly s z _).trans (bringToAuto_plantOnly s z).zonesOnly)
    (fun s z y => by rw [(bringToAuto_plantOnly s z).zone, State.zone_setZone])
    (fun s t z _ hz => by rw [hz]) s

/-- A reached lead wakes or abandons to Layover, and leaves the part in Run or Layover as it is, its Auto zones in Auto (R162). -/
theorem leadZones_power (s : State) :
    (inUse s.psc.power = true → ZonesOnly s (leadZones s) ∧ ∀ z, ((leadZones s).zone z).trim = (s.zone z).trim) ∧
      (inUse s.psc.power = false → (leadZones s).psc.power = .layover) ∧
      ∀ z, ((leadZones s).zone z).hostMode = .auto → ((leadZones s).zone z).opMode = .auto := by
  obtain ⟨hzones, hrec⟩ := bringAllToAuto_zone (wakeToLayover s)
  unfold leadZones
  refine ⟨fun h => ?_, fun h => ?_, fun z => ?_⟩
  · have hstay : wakeToLayover s = s := if_pos h
    rw [hstay] at hzones hrec ⊢
    refine ⟨hzones, fun z => ?_⟩
    rw [hrec, autoRec]
    split <;> rfl
  · have hwake : wakeToLayover s = leaveForLayover s := if_neg (by rw [h]; decide)
    rw [hwake] at hzones ⊢
    rw [hzones.psc, leaveForLayover_power]
  · rw [hrec, autoRec]
    split
    · exact fun _ => rfl
    next h => exact fun hm => absurd hm h

end Sys2Proof.Machine

namespace Sys2Proof.Machine

/-! ## PROFILE LOAD as one step (R176) -/

/-- A loaded lead leaves the power state and the depart time as they are. -/
theorem leadLoaded_kept (lead now : Nat) (p : PowerCtl) :
    (leadLoaded lead now p).power = p.power ∧ (leadLoaded lead now p).departTime = p.departTime ∧
      (leadLoaded lead now p).departLead = lead ∧
      (p.departTime = none → leadLoaded lead now p = { p with departLead := lead }) ∧
      ∀ d, p.departTime = some d →
        (leadLoaded lead now p).leadPoint = some (leadPointOf d lead) ∧
          (leadPointOf d lead ≤ now → (leadLoaded lead now p).precondition = true ∧ (leadLoaded lead now p).leadArmed = false) ∧
          (now < leadPointOf d lead → (leadLoaded lead now p).precondition = p.precondition ∧ (leadLoaded lead now p).leadArmed = true) := by
  unfold leadLoaded
  cases p.departTime with
  | none => exact ⟨rfl, rfl, rfl, fun _ => rfl, nofun⟩
  | some d =>
    dsimp only
    by_cases h : leadPointOf d lead ≤ now
    · rw [if_pos h]
      refine ⟨rfl, rfl, rfl, nofun, fun e he => ?_⟩
      cases he
      exact ⟨rfl, fun _ => ⟨rfl, rfl⟩, fun hn => absurd h (Int.not_le.2 hn)⟩
    · rw [if_neg h]
      refine ⟨rfl, rfl, rfl, nofun, fun e he => ?_⟩
      cases he
      exact ⟨rfl, fun hn => absurd hn h, fun _ => ⟨rfl, rfl⟩⟩

theorem SettingsKept.setPsc {s t : State} (h : SettingsKept s t) (v : PowerCtl) : SettingsKept (s.setPsc v) (t.setPsc v) :=
  ⟨h.flags, h.ca, h.la, h.enable, h.heat, h.air, h.zone, h.zc, rfl⟩

/-- The snapshot rate, the test of shedding, the restore attempt and the stopped reports of a load. -/
theorem applyProfile_step (g : Settings) (s : State) :
    ∃ h : HostLink, (h.latched = (loadLead g.departLead (loadBlocks g s)).hlu.latched ∧
        h.enabled = (loadLead g.departLead (loadBlocks g s)).hlu.enabled ∧
        ((loadLead g.departLead (loadBlocks g s)).hlu.snapshotRate = s.hlu.snapshotRate → h.snapshotRate = g.snapshotRate)) ∧
      PlantStep ((loadLead g.departLead (loadBlocks g s)).setHlu h) (applyProfile g s) ∧
      SettingsKept ((loadLead g.departLead (loadBlocks g s)).setHlu h) (applyProfile g s) := by
  rw [applyProfile_eq]
  dsimp only
  generalize loadLead g.departLead (loadBlocks g s) = c
  have htail : ∀ d : State,
      PlantStep d (windDownReports (if allowanceInForce s.la < allowanceInForce (shedTest d).la then restoreAttempt (shedTest d) else shedTest d)) ∧
        SettingsKept d
          (windDownReports (if allowanceInForce s.la < allowanceInForce (shedTest d).la then restoreAttempt (shedTest d) else shedTest d)) :=
    fun d => ⟨((shedTest_plantOnly d).trans (.ite (restoreAttempt_plantOnly _) (.refl _))).then_plantStep (windDownReports_plantStep _),
      (shedTest_settingsKept d).trans ((SettingsKept.ite (restoreAttempt_settingsKept _) (.refl _)).trans (windDownReports_settingsKept _))⟩
  by_cases hr : s.hlu.snapshotRate = g.snapshotRate
  · rw [if_pos hr]
    exact ⟨c.hlu, ⟨rfl, rfl, fun h => h.trans hr⟩, htail c⟩
  · rw [if_neg hr]
    exact ⟨setSnapshotRate g.snapshotRate c.hlu, ⟨rfl, rfl, fun _ => rfl⟩, htail _⟩

/-- A load with its depart record taken, before a reached lead acts (R161). -/
def leadTaken (g : Settings) (s : State) : State := (loadBlocks g s).setPsc (leadLoaded g.departLead s.partTime s.psc)

section
variable {g : Settings} {s : State}

/-- Before the depart lead a load has moved zone records, arbiter, loads, plant and air alone. -/
theorem loadBlocks_zonesOnly : ZonesOnly (takeSettings g s) (loadBlocks g s) :=
  (loadZones_zone s.zc.zones (takeSettings g s)).1.trans (loadBlocks_plantOnly g s).zonesOnly

theorem loadBlocks_psc : (loadBlocks g s).psc = s.psc := by
  obtain ⟨-, -, -, -, -, hpsc, -⟩ := takeSettings_outside g s
  exact loadBlocks_zonesOnly.psc.trans hpsc

theorem loadBlocks_partTime : (loadBlocks g s).partTime = s.partTime := by
  obtain ⟨-, hnow, -⟩ := takeSettings_outside g s
  exact loadBlocks_zonesOnly.partTime.trans hnow

/-- Trim and operating mode of each zone before the depart lead (R23). -/
theorem loadBlocks_mode (z : Zone) :
    ((loadBlocks g s).zone z).trim = (s.zone z).trim ∧
      ((loadBlocks g s).zone z).opMode =
        if inUse s.psc.power = false ∨ (g.zones.get z).hostMode = (s.zone z).hostMode then (s.zone z).opMode
        else opOfHost (g.zones.get z).hostMode := by
  have hz : (takeSettings g s).zone z = loadedZone (g.zones.get z) (s.zone z) := PerZone.get_map _ _ z
  obtain ⟨ht, ho⟩ := loadActedRec_mode s.zc.zones (takeSettings g s) z
  rw [hz] at ht ho
  rw [(loadBlocks_plantOnly g s).zone, (loadZones_zone s.zc.zones (takeSettings g s)).2]
  exact ⟨ht, ho⟩

/-- The depart lead of a load, taken or reached. -/
theorem loadLead_taken :
    (leadCome g.departLead s.partTime s.psc → loadLead g.departLead (loadBlocks g s) = leadZones (raise .depart (leadTaken g s))) ∧
      (¬ leadCome g.departLead s.partTime s.psc → loadLead g.departLead (loadBlocks g s) = leadTaken g s) := by
  have h := loadLead_eq g.departLead (loadBlocks g s)
  rwa [loadBlocks_psc, loadBlocks_partTime] at h

theorem leadTaken_power : (leadTaken g s).psc.power = s.psc.power := (leadLoaded_kept g.departLead s.partTime s.psc).1

theorem loadLead_outside (hp : s.psc.power ≠ .parked) :
    OutsideKept (takeSettings g s) (loadLead g.departLead (loadBlocks g s)) ∧
      SettingsKept ((takeSettings g s).setPsc (leadLoaded g.departLead s.partTime s.psc)) (loadLead g.departLead (loadBlocks g s)) := by
  have hout : OutsideKept (takeSettings g s) (leadTaken g s) :=
    (loadBlocks_zonesOnly (g := g) (s := s)).toOutsideKept.trans (setPsc_outside _ _)
  have hset : SettingsKept ((takeSettings g s).setPsc (leadLoaded g.departLead s.partTime s.psc)) (leadTaken g s) :=
    (loadBlocks_settingsKept g s).setPsc _
  obtain ⟨hcome, hnot⟩ := loadLead_taken (g := g) (s := s)
  by_cases h : leadCome g.departLead s.partTime s.psc
  · have hpark : (raise .depart (leadTaken g s)).psc.power ≠ .parked := by rwa [raise_psc, leadTaken_power]
    rw [hcome h]
    exact ⟨hout.trans ((raise_plantOnly _ _).1.trans (leadZones_outside hpark)),
      hset.trans ((raise_settingsKept _ .depart).trans (leadZones_settingsKept hpark))⟩
  · rw [hnot h]
    exact ⟨hout, hset⟩

/-- A lead that has not come moves no zone, and none moves power state, screen monitor or trims in Run and Layover (R161, R162). -/
theorem loadLead_stays (h : ¬ leadCome g.departLead s.partTime s.psc ∨ inUse s.psc.power = true) :
    (loadLead g.departLead (loadBlocks g s)).psc = leadLoaded g.departLead s.partTime s.psc ∧
      (loadLead g.departLead (loadBlocks g s)).scm = s.scm ∧
      (∀ z, ((loadLead g.departLead (loadBlocks g s)).zone z).trim = (s.zone z).trim) ∧
      (¬ leadCome g.departLead s.partTime s.psc →
        ∀ z, ((loadLead g.departLead (loadBlocks g s)).zone z).opMode = ((loadBlocks g s).zone z).opMode) := by
  obtain ⟨hcome, hnot⟩ := loadLead_taken (g := g) (s := s)
  have htrim : ∀ z, ((leadTaken g s).zone z).trim = (s.zone z).trim := fun z => (loadBlocks_mode z).1
  have hscm : (leadTaken g s).scm = s.scm := by
    obtain ⟨-, -, -, -, -, -, hscm⟩ := takeSettings_outside g s
    exact (loadBlocks_zonesOnly (g := g) (s := s)).scm.trans hscm
  by_cases hc : leadCome g.departLead s.partTime s.psc
  · have hi : inUse (raise .depart (leadTaken g s)).psc.power = true := by
      rw [raise_psc, leadTaken_power]
      exact h.resolve_left (not_not_intro hc)
    obtain ⟨hzones, hz⟩ := (leadZones_power (raise .depart (leadTaken g s))).1 hi
    rw [hcome hc]
    exact ⟨hzones.psc, hzones.scm.trans hscm, fun z => (hz z).trans (htrim z), fun hn => absurd hc hn⟩
  · rw [hnot hc]
    exact ⟨rfl, hscm, htrim, fun _ _ => rfl⟩

/-- A reached lead sets DEPART, abandons a wind-down and brings the Auto zones to Auto (R162). -/
theorem loadLead_reached (hp : s.psc.power ≠ .parked) (h : leadCome g.departLead s.partTime s.psc) :
    hasFlag (loadLead g.departLead (loadBlocks g s)).hlu.latched .depart = true ∧
      (inUse s.psc.power = false → (loadLead g.departLead (loadBlocks g s)).psc.power = .layover) ∧
      ∀ z, ((loadLead g.departLead (loadBlocks g s)).zone z).hostMode = .auto →
        ((loadLead g.departLead (loadBlocks g s)).zone z).opMode = .auto := by
  obtain ⟨-, hwake, hauto⟩ := leadZones_power (raise .depart (leadTaken g s))
  have hpark : (raise .depart (leadTaken g s)).psc.power ≠ .parked := by rwa [raise_psc, leadTaken_power]
  rw [loadLead_taken.1 h]
  rw [raise_psc, leadTaken_power] at hwake
  exact ⟨(leadZones_settingsKept hpark).flags _ (hasFlag_setFlag_self _ _), hwake, hauto⟩

end

/-! ## What a load leaves -/

/-- Settings, flags and heating after a load, against the settings taken with the loaded depart record. -/
theorem applyProfile_settings {g : Settings} {s : State} (hp : s.psc.power ≠ .parked) :
    SettingsKept ((takeSettings g s).setPsc (leadLoaded g.departLead s.partTime s.psc)) (applyProfile g s) := by
  obtain ⟨h, ⟨hlatched, -⟩, -, hkept⟩ := applyProfile_step g s
  exact (loadLead_outside hp).2.trans ((setHlu_settingsKept fun f hf => by rwa [hlatched]).trans hkept)

/-- Every working setting is the loaded one (R176). -/
theorem applyProfile_settingsIn {g : Settings} {s : State} (hp : s.psc.power ≠ .parked) : SettingsIn g (applyProfile g s) := by
  obtain ⟨h, ⟨-, henabled, hrate⟩, hstep, -⟩ := applyProfile_step g s
  have hlink := (loadLead_outside (g := g) hp).1.link
  have hkept := applyProfile_settings (g := g) hp
  generalize applyProfile g s = t at hstep hkept ⊢
  generalize loadLead g.departLead (loadBlocks g s) = c at henabled hrate hstep hlink
  obtain ⟨-, hca, hla, henable, hheat, hair, hzone, hzc, hpsc⟩ := hkept
  have hlead := (leadLoaded_kept g.departLead s.partTime s.psc).2.2.1
  obtain ⟨⟨hkp, hki, hdb, hperiod, hoff⟩, hmodes, hfallback, ⟨hen, hen'⟩, hpermit, hvent, hfresh, htable⟩ := takeSettings_taken g s
  refine ⟨⟨(congrArg ZoneCtl.kp hzc :).trans hkp, (congrArg ZoneCtl.ki hzc :).trans hki, (congrArg ZoneCtl.db hzc :).trans hdb,
      (congrArg ZoneCtl.pendingPeriod hzc :).trans hperiod, (congrArg ZoneCtl.setbackOffset hzc :).trans hoff⟩,
    fun z => ?_, hca.modes.trans hmodes, (congrArg LoadAccount.fallback hla :).trans hfallback,
    (congrArg PowerCtl.departLead hpsc :).trans hlead, ⟨(henable .a).trans hen, (henable .b).trans hen'⟩, hheat.same.2.1.trans hpermit,
    ⟨(congrArg AirPath.ventMin hair :).trans hvent, (congrArg AirPath.freshMin hair :).trans hfresh,
      (congrArg AirPath.curveTable hair :).trans htable⟩, ?_, ?_⟩
  · obtain ⟨hset, -⟩ := hzone z
    have hz : (takeSettings g s).zone z = loadedZone (g.zones.get z) (s.zone z) := PerZone.get_map _ _ z
    have hg : settingsOf (t.zone z) = g.zones.get z := hset.trans (congrArg settingsOf hz)
    rw [← hg]
    exact ⟨rfl, rfl, rfl, rfl, rfl, rfl⟩
  · have h1 : t.hlu.enabled = h.enabled := (congrArg HostLink.enabled hstep.link :)
    have h2 : c.hlu.enabled = g.eventEnable := (congrArg HostLink.enabled hlink :)
    rw [h1, henabled, h2]
  · have h1 : t.hlu.snapshotRate = h.snapshotRate := (congrArg HostLink.snapshotRate hstep.link :)
    have h2 : c.hlu.snapshotRate = s.hlu.snapshotRate := (congrArg HostLink.snapshotRate hlink :)
    rw [h1, hrate h2]

end Sys2Proof.Machine

namespace Sys2Proof.Machine

/-! ## PROFILE LOAD (R176) -/

/-- Part time, pins, channels, store and queue after a load, and no reply in hand before it is formed. -/
theorem applyProfile_outside {g : Settings} {s : State} (hp : s.psc.power ≠ .parked) :
    (applyProfile g s).ps = s.ps ∧ (applyProfile g s).partTime = s.partTime ∧ (applyProfile g s).pins = s.pins ∧
      (applyProfile g s).ssu = s.ssu ∧ (applyProfile g s).pending = s.pending := by
  obtain ⟨h, -, hstep, -⟩ := applyProfile_step g s
  have hout := (loadLead_outside (g := g) hp).1
  generalize loadLead g.departLead (loadBlocks g s) = c at hout hstep
  obtain ⟨hps, hnow, hpins, hssu, hpending, -⟩ := takeSettings_outside g s
  exact ⟨hstep.ps.trans (hout.ps.trans hps), hstep.partTime.trans (hout.partTime.trans hnow), hstep.pins.trans (hout.pins.trans hpins),
    hstep.ssu.trans (hout.ssu.trans hssu), hstep.pending.trans (hout.pending.trans hpending)⟩

theorem inUse_of_not_windingDown {p : PowerState} (hp : p ≠ .parked) (hw : p ≠ .windingDown) : inUse p = true := by
  cases p with
  | run => rfl
  | layover => rfl
  | windingDown => exact absurd rfl hw
  | parked => exact absurd rfl hp

/-- In Run and Layover a load ends in the power state it was taken in, with the loaded depart record (R161, R162). -/
theorem applyProfile_psc {g : Settings} {s : State} (hi : inUse s.psc.power = true) :
    (applyProfile g s).psc = leadLoaded g.departLead s.partTime s.psc := by
  obtain ⟨h, -, hstep, -⟩ := applyProfile_step g s
  obtain ⟨hpsc, -⟩ := loadLead_stays (g := g) (s := s) (.inr hi)
  obtain ⟨-, -, hsame⟩ := hstep.other (by
    show (loadLead g.departLead (loadBlocks g s)).psc.power ≠ .windingDown
    rw [hpsc, (leadLoaded_kept _ _ _).1]
    intro hw
    rw [hw] at hi
    cases hi)
  exact hsame.trans hpsc

/-- A reached lead abandons a wind-down, and every Auto zone is in Auto after the load (R162). -/
theorem applyProfile_reached {g : Settings} {s : State} (hp : s.psc.power ≠ .parked) (hc : leadCome g.departLead s.partTime s.psc) :
    hasFlag (applyProfile g s).hlu.latched .depart = true ∧ (s.psc.power = .windingDown → (applyProfile g s).psc.power = .layover) ∧
      ∀ z, ((applyProfile g s).zone z).hostMode = .auto → ((applyProfile g s).zone z).opMode = .auto := by
  obtain ⟨h, ⟨hlatched, -⟩, hstep, hkept⟩ := applyProfile_step g s
  obtain ⟨hflag, hwake, hauto⟩ := loadLead_reached (g := g) hp hc
  have hpower : (loadLead g.departLead (loadBlocks g s)).psc.power ≠ .windingDown := by
    by_cases hi : inUse s.psc.power = true
    · rw [(loadLead_stays (.inr hi)).1, (leadLoaded_kept _ _ _).1]
      intro hw
      rw [hw] at hi
      cases hi
    · rw [hwake (Bool.eq_false_of_not_eq_true hi)]
      decide
  obtain ⟨hzc, -, hpsc⟩ := hstep.other hpower
  refine ⟨hkept.flags _ (by rw [State.setHlu_hlu, hlatched]; exact hflag), fun hw => ?_, fun z => ?_⟩
  · rw [hpsc]
    exact hwake (by rw [hw]; rfl)
  · rw [State.zone, hzc]
    exact hauto z

/-- While the power state stands, screen monitor and trims do too, and a zone's mode moves with its host mode alone unless the lead is
reached (R23). -/
theorem applyProfile_samePower {g : Settings} {s : State} (hp : s.psc.power ≠ .parked) (hsame : (applyProfile g s).psc.power = s.psc.power) :
    (applyProfile g s).scm = s.scm ∧ ∀ z, ((applyProfile g s).zone z).trim = (s.zone z).trim ∧
      (¬ leadCome g.departLead s.partTime s.psc → ((applyProfile g s).zone z).opMode =
        if inUse s.psc.power = false ∨ (g.zones.get z).hostMode = (s.zone z).hostMode then (s.zone z).opMode
        else opOfHost (g.zones.get z).hostMode) := by
  obtain ⟨h, -, hstep, -⟩ := applyProfile_step g s
  have hstays : ¬ leadCome g.departLead s.partTime s.psc ∨ inUse s.psc.power = true := by
    by_contra hno
    obtain ⟨hc, hi⟩ := not_or.1 hno
    have hw : s.psc.power = .windingDown := by
      by_contra hw
      exact hi (inUse_of_not_windingDown hp hw)
    have hl := (applyProfile_reached hp (not_not.1 hc)).2.1 hw
    rw [hsame, hw] at hl
    cases hl
  obtain ⟨hpsc, hscm, htrim, hop⟩ := loadLead_stays (g := g) (s := s) hstays
  obtain ⟨hzc, hscm2, -⟩ := hstep.samePower (by
    show (applyProfile g s).psc.power = (loadLead g.departLead (loadBlocks g s)).psc.power
    rw [hsame, hpsc, (leadLoaded_kept _ _ _).1])
  have hzone : ∀ z, (applyProfile g s).zone z = (loadLead g.departLead (loadBlocks g s)).zone z := fun z => by
    rw [State.zone, hzc]
    rfl
  refine ⟨hscm2.trans hscm, fun z => ?_⟩
  rw [hzone]
  exact ⟨htrim z, fun hn => (hop hn z).trans (loadBlocks_mode z).2⟩

theorem withReply_ca (rtype st : Byte) (fs : List Byte) (s : State) : (withReply rtype st fs s).ca = s.ca := rfl

/-- Settles O25: settings are taken first, and what acts on them moves no setting again. -/
theorem profileLoadTakes : Obligations.ProfileLoadTakes := by
  intro s hs
  have hp := ((readyForCommand_iff s).1 hs).2
  refine ⟨fun hst => ?_, fun hst => ?_⟩
  · have hidle : cmdProfileLoad s = (s, refusal .busy) := by
      unfold cmdProfileLoad storeIdle
      cases hc : s.ps.state with
      | idle => exact absurd hc hst
      | erasing => rfl
      | writing => rfl
    exact congrArg Host.Outcome.next (completeFrame_refused hs _ hidle)
  have hidle : cmdProfileLoad s = (applyProfile (loadSettings s.ps.cells).1 s, doneReply false (byteField (loadSettings s.ps.cells).2)) := by
    unfold cmdProfileLoad storeIdle
    rw [hst]
    rfl
  refine ⟨_, congrArg Host.Outcome.next (completeFrame_ok hs _ hidle), ?_⟩
  have hcount := loadSettings_count s.ps.cells
  have horders : ∀ w : Nat → Nat → Nat, _ → _ := fun w hw => loadSettings_orders s.ps.cells (w := w) hw
  have htaken : ∀ (w : Nat → Nat → Nat) t, SettingsIn (loadSettings s.ps.cells).1 t → _ → _ :=
    fun w t ht hw => settingsTaken_of_settingsIn (w := w) ht hw
  generalize (loadSettings s.ps.cells).1 = g at horders htaken ⊢
  generalize (loadSettings s.ps.cells).2 = n at hcount ⊢
  have hin := applyProfile_settingsIn (g := g) hp
  obtain ⟨hps, hnow, hpins, hssu, hpending⟩ := applyProfile_outside (g := g) hp
  obtain ⟨-, hca, hla, -, -, hair, hzone, hzc, hpsc⟩ := applyProfile_settings (g := g) hp
  obtain ⟨hperiod, hshift, hpointer, hhost, hstatus, hseats, hmasked⟩ := takeSettings_kept g s
  have hrun := applyProfile_psc (g := g) (s := s)
  have hreached := applyProfile_reached (g := g) hp
  have hsame := applyProfile_samePower (g := g) hp
  generalize applyProfile g s = t at *
  obtain ⟨hpower, hdepart, -, hnone, hsome⟩ := leadLoaded_kept g.departLead s.partTime s.psc
  have hlead : t.psc.leadPoint = (leadLoaded g.departLead s.partTime s.psc).leadPoint := (congrArg PowerCtl.leadPoint hpsc :)
  have harms : t.psc.leadArmed = (leadLoaded g.departLead s.partTime s.psc).leadArmed := (congrArg PowerCtl.leadArmed hpsc :)
  have hflags : t.psc.precondition = (leadLoaded g.departLead s.partTime s.psc).precondition := (congrArg PowerCtl.precondition hpsc :)
  have hpoint : ∀ (d : Nat) (p : Int), p = (d : Int) - 60 * t.psc.departLead → leadPointOf d g.departLead = p := fun d p hpd => by
    rw [hpd, hin.departLead]
    rfl
  have hreply : SettingsIn g (withReply (replyType 39) 0 (byteField n) t) :=
    ⟨hin.zc, hin.zone, hin.modes, hin.fallback, hin.departLead, hin.enables, hin.permit, hin.air, hin.link⟩
  refine ⟨⟨hps, hnow, hpins, hssu, hpending⟩, fun w hw => ⟨?_, htaken w _ hreply hw, fun hf => ?_, fun hf => ?_, fun hf => ?_⟩,
    ⟨(congrArg ZoneCtl.period hzc :).trans hperiod, (congrArg ZoneCtl.shift hzc :).trans hshift,
      (congrArg AirPath.pointer hair :).trans hpointer, (congrArg LoadAccount.hostValue hla :).trans hhost,
      (congrArg LoadAccount.status hla :).trans hstatus⟩,
    fun z => ⟨(hzone z).2.trans (hseats z), (hca.masked (.zone z)).trans (hmasked _)⟩,
    fun hi => (congrArg PowerCtl.power (hrun hi)).trans hpower, fun he => ?_, (congrArg PowerCtl.departTime hpsc :).trans hdepart,
    fun hd => ⟨fun hi => ?_, ?_, ?_, ?_⟩, fun d hd p hpd => ⟨?_, fun hc => ?_, fun hc => ?_⟩⟩
  · rw [hcount, hw]
    rfl
  · have h : t.ca.orders.saloon = g.orders.saloon := hca.saloon (hca.modes ▸ hf)
    rw [withReply_ca, h]
    exact (horders w hw).1
  · have h : t.ca.orders.lower = g.orders.lower := hca.lower (hca.modes ▸ hf)
    rw [withReply_ca, h]
    exact (horders w hw).2.1
  · have h : t.ca.orders.upper = g.orders.upper := hca.upper (hca.modes ▸ hf)
    rw [withReply_ca, h]
    exact (horders w hw).2.2
  · obtain ⟨hscm, hzones⟩ := hsame he
    refine ⟨hscm, fun z => ⟨(hzones z).1, fun hcome => ?_⟩⟩
    obtain ⟨-, hm, -⟩ := hin.zone z
    rw [withReply_zone, hm]
    refine (hzones z).2 fun ⟨d, hd, hle⟩ => ?_
    have hlt := hcome d hd
    rw [hpoint d _ rfl] at hle
    exact absurd hle (Int.not_le.2 hlt)
  · refine (hrun hi).trans ((hnone hd).trans ?_)
    rw [← hin.departLead]
    rfl
  · exact hlead.trans (by rw [hnone hd])
  · exact harms.trans (by rw [hnone hd])
  · exact hflags.trans (by rw [hnone hd])
  · obtain ⟨hp1, -⟩ := hsome d hd
    exact hlead.trans (hp1.trans (congrArg some (hpoint d p hpd)))
  · obtain ⟨-, hset, -⟩ := hsome d hd
    have hle : leadPointOf d g.departLead ≤ s.partTime := by rwa [hpoint d p hpd]
    obtain ⟨hpre, harmed⟩ := hset hle
    obtain ⟨hflag, hwake, hauto⟩ := hreached ⟨d, hd, hle⟩
    exact ⟨hflags.trans hpre, harms.trans harmed, hflag, hwake, hauto⟩
  · obtain ⟨-, -, hset⟩ := hsome d hd
    obtain ⟨hpre, harmed⟩ := hset (by rwa [hpoint d p hpd])
    exact ⟨hflags.trans hpre, harms.trans harmed⟩

end Sys2Proof.Machine

namespace Sys2Proof.Machine

/-! ## The wake that a frame brings (R159, R160) -/

theorem inHand_of_linkOf {g h : HostLink} (hgh : linkOf g = linkOf h) : g.inHand = h.inHand :=
  (congrArg HostLink.inHand hgh :)

/-- What leaving Winding-down or Parked leaves to the entry that follows: link, pins, precondition flag and zones. -/
theorem leaveRest_kept (s : State) :
    (leaveRest s).hlu = s.hlu ∧ (leaveRest s).pins = s.pins ∧ (leaveRest s).psc.precondition = s.psc.precondition ∧
      ∀ z, (leaveRest s).zone z = s.zone z := by
  unfold leaveRest
  dsimp only
  split <;> simp [State.zone]

/-- Leaving them for Layover moves nothing of the link but raised flags. -/
theorem leaveForLayover_link (s : State) : linkOf (leaveForLayover s).hlu = linkOf s.hlu := by
  have hleave : OutsideKept (leaveRest s) (leaveForLayover s) :=
    (enterPower_outside .layover _).trans ((OutsideKept.foldl releaseZone_outside _ _).trans (.foldl layoverZone_outside _ _))
  obtain ⟨hrest, -⟩ := leaveRest_kept s
  rw [hleave.link, hrest]

/-- A frame that finds no command in hand is taken, after the wake that it brings in Parked. -/
theorem readyForCommand_wakeByFrame {s : State} (h : s.hlu.inHand = none) : readyForCommand (wakeByFrame s) = true := by
  rw [readyForCommand_iff]
  by_cases hp : s.psc.power = .parked
  · have hend := endEvent_plantStep (PlantOnly.refl (leaveForLayover s))
    have hw : (leaveForLayover s).psc.power ≠ .windingDown := by
      rw [leaveForLayover_power]
      decide
    obtain ⟨-, -, hpsc⟩ := hend.other hw
    have hwake : wakeByFrame s = endEvent (leaveForLayover s) := if_pos hp
    rw [hwake, inHand_of_linkOf (hend.link.trans (leaveForLayover_link s)), hpsc, leaveForLayover_power]
    exact ⟨h, by decide⟩
  · rw [wakeByFrame_awake hp]
    exact ⟨h, hp⟩

/-! ## HOME (R38) -/

/-- Settles O7: the frame acts on the state its wake leaves, and HOME writes the shift alone. -/
theorem homeClearsShift : Obligations.HomeClearsShift := by
  intro s h
  have hready := readyForCommand_wakeByFrame h
  obtain ⟨-, hp⟩ := (readyForCommand_iff _).1 hready
  exact congrArg Host.Outcome.next ((completeFrame_woken s _ _ hp).trans (completeFrame_ok hready (replyType 0x0A) rfl))

end Sys2Proof.Machine

namespace Sys2Proof.Machine

/-! ## ZONE TIMERS, ZONE CURVE and COMP ENABLE (R36, R107, R132) -/

theorem reloadMaskOfCode_of_lt {m : Byte} (h : m.toNat < 16) :
    reloadMaskOfCode m.toNat = some ⟨m.getLsbD 0, m.getLsbD 1, m.getLsbD 2, m.getLsbD 3⟩ := if_pos h

theorem reloadMaskOfCode_of_gt {n : Nat} (h : 15 < n) : reloadMaskOfCode n = none := if_neg (by omega)

/-- A mask taken from its byte is replied as that byte. -/
theorem byte_of_reloadMask {b : Byte} (h : b.toNat < 16) :
    byteField (codeOfReloadMask ⟨b.getLsbD 0, b.getLsbD 1, b.getLsbD 2, b.getLsbD 3⟩) = [b] := by
  have hall : ∀ n : Fin 16, ∀ b : Byte, b = BitVec.ofNat 8 n →
      byteField (codeOfReloadMask ⟨b.getLsbD 0, b.getLsbD 1, b.getLsbD 2, b.getLsbD 3⟩) = [b] := by
    intro n b hb
    subst hb
    revert n
    decide
  exact hall ⟨b.toNat, h⟩ b (ofNat_eq_byte rfl).symm

/-- Outside Parked a running timer is cut down to the new length of its mode, and a held one takes it (R25, R33, R36). -/
theorem adaptTimer_eq {p : PowerState} (hp : p ≠ .parked) (c : Bool) (r : ZoneRec) :
    adaptTimer p c r =
      { r with
        timer :=
          match r.opMode with
          | .standby => r.timer
          | .off | .vent => r.setbackMin * 60
          | .auto => if r.seats = 0 ∧ c = false then min r.timer (r.setbackMin * 60) else r.setbackMin * 60
          | .setback => if r.seats = 0 then min r.timer (r.standbyMin * 60) else r.standbyMin * 60 } := by
  unfold adaptTimer
  cases hm : r.opMode with
  | standby =>
    dsimp only
    rw [← hm]
  | off => rfl
  | vent => rfl
  | auto => simp [timerRuns, hm, hp, autoLength]
  | setback => simp [timerRuns, hm, hp, setbackLength]

/-- ZONE TIMERS with valid operands: new lengths and mask, and the timer that they leave. -/
theorem cmdZoneTimers_eq {b sb st m : Byte} {s : State} {z : Zone} (hz : zoneOfCode b = some z) (hm : m.toNat < 16) {x y : Nat}
    (hx : x = max 1 (min 60 sb.toNat)) (hy : y = max 1 (min 240 st.toNat)) :
    cmdZoneTimers b sb st m s =
      (s.setZone z
          (adaptTimer s.psc.power s.psc.precondition
            { s.zone z with setbackMin := x, standbyMin := y, mask := ⟨m.getLsbD 0, m.getLsbD 1, m.getLsbD 2, m.getLsbD 3⟩ }),
        doneReply (x != sb.toNat || y != st.toNat) [b, BitVec.ofNat 8 x, BitVec.ofNat 8 y, m]) := by
  rw [← clampNat_eq (by decide)] at hx hy
  subst hx hy
  unfold cmdZoneTimers
  rw [hz, reloadMaskOfCode_of_lt hm]
  dsimp only
  rw [byte_of_reloadMask hm, byteField, ofNat_eq_byte (codeOfZone_of_zoneOfCode hz)]
  rfl

theorem curveOfCode_codeOfCurve (c : CurveCode) : curveOfCode (codeOfCurve c) = some c := by
  cases c with
  | user u => revert u; decide
  | linear => rfl
  | quiet => rfl
  | fastRise => rfl
  | constant => rfl

theorem curveOfCode_invalid {n : Nat} (h : n = 6 ∨ n = 7 ∨ 11 < n) : curveOfCode n = none := by
  rw [← Option.not_isSome_iff_eq_none, curveOfCode_isSome]
  simp only [Bool.or_eq_true, Bool.and_eq_true, decide_eq_true_eq]
  omega

/-- A compressor set taken from its byte is replied as that byte. -/
theorem byte_of_compSet {b : Byte} (h : b.toNat < 4) : byteField (codeOfCompSet ⟨b.getLsbD 0, b.getLsbD 1⟩) = [b] := by
  have hall : ∀ n : Fin 4, ∀ b : Byte, b = BitVec.ofNat 8 n → byteField (codeOfCompSet ⟨b.getLsbD 0, b.getLsbD 1⟩) = [b] := by
    intro n b hb
    subst hb
    revert n
    decide
  exact hall ⟨b.toNat, h⟩ b (ofNat_eq_byte rfl).symm

/-- COMP ENABLE with a valid set: the two enables, and nothing else. -/
theorem cmdCompEnable_eq {b : Byte} (h : b.toNat < 4) (s : State) :
    cmdCompEnable b s =
      ((s.setComp .a { s.comp .a with enable := b.getLsbD 0 }).setComp .b { s.comp .b with enable := b.getLsbD 1 },
        doneReply false [b]) := by
  have hset : compSetOfCode b.toNat = some ⟨b.getLsbD 0, b.getLsbD 1⟩ := if_pos h
  unfold cmdCompEnable
  rw [hset]
  dsimp only
  rw [byte_of_compSet h]
  rfl

/-- Settles O9: each command's effect and answer, put in hand by `completeFrame_done` and its like. -/
theorem zoneAndPlantSettings : Obligations.ZoneAndPlantSettings := by
  intro s h
  obtain ⟨-, hp⟩ := (readyForCommand_iff s).1 h
  refine ⟨fun b sb st m z hz hm => ⟨_, rfl, _, rfl, _, rfl, ?_⟩, fun b sb st m hbad => ?_, fun b k c z hz hc => ?_, fun b k hbad => ?_,
    fun e he => ?_, fun e he => ?_⟩
  · have hcmd := cmdZoneTimers_eq (s := s) hz hm (sb := sb) rfl (st := st) rfl
    rw [adaptTimer_eq hp] at hcmd
    exact congrArg Host.Outcome.next (completeFrame_done h (replyType 0x08) hcmd (by simp))
  · refine congrArg Host.Outcome.next
      (completeFrame_refused h (replyType 0x08) (body := cmdZoneTimers b sb st m) (st := .badValue) ?_)
    unfold cmdZoneTimers
    obtain hb | hm := hbad
    · rw [zoneOfCode_of_gt hb]
    · rw [reloadMaskOfCode_of_gt hm]
      cases zoneOfCode b <;> rfl
  · refine congrArg Host.Outcome.next (completeFrame_ok h (replyType 0x1A) (body := cmdZoneCurve b k) ?_)
    unfold cmdZoneCurve
    rw [hz, ← hc, curveOfCode_codeOfCurve]
    simp only [byteField, ofNat_eq_byte (codeOfZone_of_zoneOfCode hz), ofNat_eq_byte hc]
    rfl
  · refine congrArg Host.Outcome.next (completeFrame_refused h (replyType 0x1A) (body := cmdZoneCurve b k) (st := .badValue) ?_)
    unfold cmdZoneCurve
    obtain hb | hk := hbad
    · rw [zoneOfCode_of_gt hb]
    · rw [curveOfCode_invalid hk]
      cases zoneOfCode b <;> rfl
  · exact congrArg Host.Outcome.next (completeFrame_ok h (replyType 0x13) (cmdCompEnable_eq he s))
  · refine congrArg Host.Outcome.next (completeFrame_refused h (replyType 0x13) (body := cmdCompEnable e) (st := .badValue) ?_)
    have hset : compSetOfCode e.toNat = none := if_neg (by omega)
    unfold cmdCompEnable
    rw [hset]

end Sys2Proof.Machine

namespace Sys2Proof.Machine

/-! ## Reload events on zone records (R25, R27, R28) -/

theorem State.setZone_zone_same (s : State) (z : Zone) : s.setZone z (s.zone z) = s := by
  simp only [State.setZone, State.zone, PerZone.set_get_self]
  rfl

/-- A zone record after an effective reload event, by whether the part is in Run or Layover: outside them Standby holds (R28). -/
def reloadedRec (used : Bool) (r : ZoneRec) : ZoneRec :=
  if r.opMode = .standby ∧ used = false then r else { r with opMode := reloadedMode r, timer := reloadedTimer r }

theorem reloadedRec_auto {r : ZoneRec} (h : r.opMode = .auto) (used : Bool) : reloadedRec used r = { r with timer := autoLength r } := by
  simp only [reloadedRec, reloadedMode, reloadedTimer, h, reduceCtorEq, false_and, if_false]
  rw [← h]
  rfl

theorem reloadedRec_setback {r : ZoneRec} (h : r.opMode = .setback) (used : Bool) :
    reloadedRec used r = { r with opMode := .auto, timer := autoLength r } := by
  simp only [reloadedRec, reloadedMode, reloadedTimer, h, reduceCtorEq, false_and, if_false]
  rfl

theorem reloadedRec_standby {r : ZoneRec} (h : r.opMode = .standby) (used : Bool) :
    reloadedRec used r = if used then { r with opMode := opOfHost r.hostMode, timer := autoLength r } else r := by
  unfold reloadedRec reloadedMode reloadedTimer
  rw [h]
  cases used with
  | false => rfl
  | true => cases r.hostMode <;> rfl

theorem reloadedRec_held {r : ZoneRec} (h : r.opMode = .off ∨ r.opMode = .vent) (used : Bool) : reloadedRec used r = r := by
  unfold reloadedRec reloadedMode reloadedTimer
  obtain h | h := h
  all_goals
    rw [h]
    simp only [reduceCtorEq, false_and, if_false]
    rw [← h]

/-- A zone record after a reload event that reaches it (R27). -/
def eventRec (e : ReloadEvent) (used : Bool) (r : ZoneRec) : ZoneRec := if maskHas r.mask e then reloadedRec used r else r

theorem eventRec_inUse (e : ReloadEvent) (r : ZoneRec) :
    eventRec e true r = if maskHas r.mask e then { r with opMode := reloadedMode r, timer := reloadedTimer r } else r := by
  simp [eventRec, reloadedRec]

theorem eventRec_standby (e : ReloadEvent) {r : ZoneRec} (h : r.opMode = .standby) : eventRec e false r = r := by
  simp [eventRec, reloadedRec, h]

/-- The effect of an effective reload event is its zone's new record; what follows is the air path's (R28). -/
theorem reloadEffect_plantOnly (z : Zone) (s : State) :
    PlantOnly (s.setZone z (reloadedRec (inUse s.psc.power) (s.zone z))) (reloadEffect z s) := by
  have hsame : PlantOnly (s.setZone z (s.zone z)) s := by
    rw [s.setZone_zone_same]
    exact .refl s
  unfold reloadEffect
  dsimp only
  split
  next hm =>
    rw [reloadedRec_auto hm]
    exact .refl _
  next hm =>
    rw [reloadedRec_setback hm]
    exact handMode_plantOnly z _
  next hm =>
    rw [reloadedRec_standby hm]
    split
    · exact handMode_plantOnly z _
    · exact hsame
  next hm =>
    rw [reloadedRec_held (.inl hm)]
    exact hsame
  next hm =>
    rw [reloadedRec_held (.inr hm)]
    exact hsame

theorem reloadEvent_plantOnly (e : ReloadEvent) (z : Zone) (s : State) :
    PlantOnly (s.setZone z (eventRec e (inUse s.psc.power) (s.zone z))) (reloadEvent e z s) := by
  unfold reloadEvent eventRec
  split
  · exact (reloadEffect_plantOnly z s).trans (shedTest_plantOnly _)
  · rw [s.setZone_zone_same]
    exact .refl s

/-- Work on a list of zones of which each step only gives its own zone a record made from the one it had. -/
theorem foldl_zoneRecs {f : State → Zone → State} {g : Bool → Zone → ZoneRec → ZoneRec}
    (h : ∀ s z, PlantOnly (s.setZone z (g (inUse s.psc.power) z (s.zone z))) (f s z)) (l : List Zone) (hn : l.Nodup) (s : State) :
    ZonesOnly s (l.foldl f s) ∧
      ∀ y, (l.foldl f s).zone y = if y ∈ l then g (inUse s.psc.power) y (s.zone y) else s.zone y :=
  foldl_ownZone (g := fun s z => g (inUse s.psc.power) z (s.zone z)) (fun s z => (setZone_zonesOnly s z _).trans (h s z).zonesOnly)
    (fun s z y => by rw [(h s z).zone, State.zone_setZone]) (fun s t z ht hz => by rw [ht.psc, hz]) l hn s

/-! ## The end of a command's or event's work on zones -/

/-- In Run and Layover the end of an event moves no zone. -/
theorem endEvent_inUse {s t : State} (hu : inUse s.psc.power = true) (h : ZonesOnly s t) : PlantOnly t (endEvent t) := by
  rw [endEvent_awake (by rw [h.psc]; intro hw; rw [hw] at hu; cases hu)]
  exact shedTest_plantOnly t

theorem ZonesOnly.endEvent {s t : State} (hu : inUse s.psc.power = true) (h : ZonesOnly s t) : ZonesOnly s (Machine.endEvent t) :=
  h.trans (endEvent_inUse hu h).zonesOnly

/-- In Run and Layover the zones after a command are those its work left. -/
theorem ZonesOnly.zone_withReply {s t : State} (hu : inUse s.psc.power = true) (h : ZonesOnly s t) (rtype st : Byte) (fs : List Byte)
    (y : Zone) : (withReply rtype st fs (Machine.endEvent t)).zone y = t.zone y :=
  (withReply_zone rtype st fs _ y).trans ((endEvent_inUse hu h).zone y)

/-! ### A wind-down in which nothing comes due -/

theorem windDownAtRest_standby {s : State} (h : windDownAtRest s = true) (z : Zone) : (s.zone z).opMode = .standby := by
  simp only [windDownAtRest, Bool.and_eq_true, List.all_eq_true, beq_iff_eq] at h
  obtain ⟨⟨⟨-, hz⟩, -⟩, -⟩ := h
  exact hz z (mem_zone_all z)

theorem windDownAtRest_notInUse {s : State} (h : windDownAtRest s = true) : settled s = true ∧ inUse s.psc.power = false := by
  simp only [windDownAtRest, Bool.and_eq_true, beq_iff_eq] at h
  obtain ⟨⟨⟨⟨hw, hs⟩, -⟩, -⟩, -⟩ := h
  exact ⟨hs, by rw [hw]; rfl⟩

/-- A zone record that stays in Standby leaves the wind-down as it is. -/
theorem windDownAtRest_setZone {s : State} (h : windDownAtRest s = true) (z : Zone) {r : ZoneRec} (hr : r.opMode = .standby) :
    windDownAtRest (s.setZone z r) = true := by
  have hset := settled_setZone (hr.trans (windDownAtRest_standby h z).symm)
  have hall : Zone.all.all (fun y => ((s.setZone z r).zone y).opMode == .standby) = true := by
    rw [List.all_eq_true]
    intro y _
    rw [s.zone_setZone, beq_iff_eq]
    split
    · exact hr
    · exact windDownAtRest_standby h y
  have hreport : reportStopped (s.setZone z r) = reportStopped s := rfl
  simp only [windDownAtRest, Bool.and_eq_true] at h ⊢
  obtain ⟨⟨⟨⟨hw, hs⟩, -⟩, hrep⟩, hstop⟩ := h
  exact ⟨⟨⟨⟨hw, hset.trans hs⟩, hall⟩, hreport ▸ hrep⟩, hstop⟩

/-- There a reload event does nothing: Standby holds, and nothing is shed (R28). -/
theorem reloadEvent_quiet {s : State} (h : windDownAtRest s = true) (e : ReloadEvent) (z : Zone) : reloadEvent e z s = s := by
  obtain ⟨hs, hu⟩ := windDownAtRest_notInUse h
  have heffect : reloadEffect z s = s := by
    unfold reloadEffect
    simp only [windDownAtRest_standby h z, hu]
    rfl
  unfold reloadEvent
  rw [heffect, shedTest_settled hs]
  exact ite_self s

theorem windingDownQuietly_iff (s : State) : windingDownQuietly s = true ↔ s.hlu.inHand = none ∧ windDownAtRest s = true := by
  simp [windingDownQuietly]

theorem readyForCommand_of_quiet {s : State} (h : windingDownQuietly s = true) : readyForCommand s = true := by
  obtain ⟨hi, hr⟩ := (windingDownQuietly_iff s).1 h
  refine (readyForCommand_iff s).2 ⟨hi, fun hp => ?_⟩
  simp [windDownAtRest, hp] at hr

end Sys2Proof.Machine

namespace Sys2Proof.Machine

/-! ## NUDGE (R34) -/

/-- A trim moved by a step in its range, with the answer (R34). -/
theorem cmdNudge_eq {b : Byte} {z : Zone} (hz : zoneOfCode b = some z) (up : Bool) (s : State) {g : Int}
    (hg : g = (s.zone z).trim + (if up then 5 else -5)) :
    cmdNudge b (if up then 1 else 0) s =
      (endEvent (reloadEvent .nudge z (s.setZone z { s.zone z with trim := max (-10) (min 10 g) })),
        doneReply (max (-10) (min 10 g) != g) [b, BitVec.ofInt 8 (max (-10) (min 10 g))]) := by
  have hs : stepped up (s.zone z).trim = g := by
    rw [hg]
    cases up <;> rfl
  have hu : upOfCode (if up then 1 else 0) = some up := by cases up <;> rfl
  rw [← clampInt_eq (by decide), ← hs]
  unfold cmdNudge
  rw [hz, hu]
  simp only [byteField, ofNat_eq_byte (codeOfZone_of_zoneOfCode hz)]
  rfl

theorem execNudge_eq {b : Byte} {z : Zone} (hz : zoneOfCode b = some z) (up : Bool) {s : State} (h : readyForCommand s = true) {g : Int}
    (hg : g = (s.zone z).trim + (if up then 5 else -5)) :
    exec (.nudge b (if up then 1 else 0)) s =
      .next
        (withReply 0x86 (if -10 ≤ g ∧ g ≤ 10 then 0 else 1) [b, BitVec.ofInt 8 (max (-10) (min 10 g))]
          (endEvent (reloadEvent .nudge z (s.setZone z { s.zone z with trim := max (-10) (min 10 g) })))) :=
  congrArg Host.Outcome.next
    (completeFrame_done h (replyType 0x06) (cmdNudge_eq hz up s hg) (by simp only [bne_eq_false_iff_eq]; omega))

theorem cmdNudge_refused {b d : Byte} (hbad : 5 < b.toNat ∨ 1 < d.toNat) (s : State) : cmdNudge b d s = (s, refusal .badValue) := by
  unfold cmdNudge
  obtain hb | hd := hbad
  · rw [zoneOfCode_of_gt hb]
  · rw [upOfCode_of_one_lt hd]
    cases zoneOfCode b <;> rfl

/-! ## TOUCH (R35) -/

theorem zoneSetValid_iff : ∀ b : Byte, zoneSetValid b = true ↔ b.toNat < 64 := by decide +kernel

/-- A zone set's byte has the bits of its zones (R178). -/
theorem zoneSetByte_bit (p : PerZone Bool) (z : Zone) : (BitVec.ofNat 8 (zoneSetByte p)).getLsbD (codeOfZone z) = p.get z := by
  obtain ⟨e, l1, l2, u1, u2, u3⟩ := p
  cases z <;> revert e l1 l2 u1 u2 u3 <;> decide

/-- The zones that a TOUCH names and whose masks have it, as the reply's byte (R35). -/
def touchedByte (zones : Byte) (s : State) : Byte := BitVec.ofNat 8 (zoneSetByte (touchEffective zones s))

theorem touchedByte_bit (zones : Byte) (s : State) (z : Zone) :
    (touchedByte zones s).getLsbD (codeOfZone z) = (zones.getLsbD (codeOfZone z) && (s.zone z).mask.touch) :=
  (zoneSetByte_bit _ z).trans (PerZone.get_map _ _ z)

/-- TOUCH taken by one zone. -/
def touchZone (zones : Byte) (s : State) (z : Zone) : State := if zoneSetHas zones z then reloadEvent .touch z s else s

theorem execTouch_eq {zones : Byte} (hn : zones ≠ 0) (hlt : zones.toNat < 64) {s : State} (h : readyForCommand s = true) :
    exec (.touch zones) s = .next (withReply 0x87 0 [zones, touchedByte zones s] (endEvent (Zone.all.foldl (touchZone zones) s))) := by
  have hbad : ¬(zones = 0 ∨ zoneSetValid zones = false) := by
    rw [(zoneSetValid_iff zones).2 hlt]
    simpa using hn
  refine congrArg Host.Outcome.next (completeFrame_ok h (replyType 0x07) (body := cmdTouch zones) ?_)
  unfold cmdTouch
  rw [if_neg hbad, byteField, ofNat_eq_byte rfl]
  rfl

theorem cmdTouch_refused {zones : Byte} (hbad : zones = 0 ∨ 63 < zones.toNat) (s : State) :
    cmdTouch zones s = (s, refusal .badValue) := by
  refine if_pos (hbad.imp_right fun h => ?_)
  rw [Bool.eq_false_iff, ne_eq, zoneSetValid_iff]
  omega

theorem touchZone_plantOnly (zones : Byte) (s : State) (z : Zone) :
    PlantOnly (s.setZone z (if zoneSetHas zones z then eventRec .touch (inUse s.psc.power) (s.zone z) else s.zone z))
      (touchZone zones s z) := by
  unfold touchZone
  split
  · exact reloadEvent_plantOnly .touch z s
  · rw [s.setZone_zone_same]
    exact .refl s

theorem touchZones_zone (zones : Byte) (s : State) :
    ZonesOnly s (Zone.all.foldl (touchZone zones) s) ∧ ∀ y, (Zone.all.foldl (touchZone zones) s).zone y =
      if zoneSetHas zones y then eventRec .touch (inUse s.psc.power) (s.zone y) else s.zone y := by
  obtain ⟨hzones, hrec⟩ := foldl_zoneRecs (g := fun used z r => if zoneSetHas zones z then eventRec .touch used r else r)
    (touchZone_plantOnly zones) Zone.all (by decide) s
  exact ⟨hzones, fun y => (hrec y).trans (if_pos (mem_zone_all y))⟩

theorem touchZones_quiet {s : State} (h : windDownAtRest s = true) (zones : Byte) : Zone.all.foldl (touchZone zones) s = s := by
  have hone : ∀ z, touchZone zones s z = s := fun z => by
    unfold touchZone
    rw [reloadEvent_quiet h]
    exact ite_self s
  simp only [Zone.all, List.foldl_cons, List.foldl_nil, hone]

/-! ## NUDGE and TOUCH as statements of the chapter -/

/-- In a quiet wind-down NUDGE and TOUCH leave the zones in Standby; the trim moves (R28, R34). -/
theorem nudgeAndTouch_quiet {s : State} (h : windingDownQuietly s = true) :
    (∀ (b : Byte) (up : Bool) (z : Zone), zoneOfCode b = some z → ∃ g, g = (s.zone z).trim + (if up then 5 else -5) ∧
      exec (.nudge b (if up then 1 else 0)) s =
        .next
          (withReply 0x86 (if -10 ≤ g ∧ g ≤ 10 then 0 else 1) [b, BitVec.ofInt 8 (max (-10) (min 10 g))]
            (s.setZone z { s.zone z with trim := max (-10) (min 10 g) }))) ∧
    ∀ zs : Byte, zs ≠ 0 → zs.toNat < 64 → ∃ reached : Byte,
      (∀ z, reached.getLsbD (codeOfZone z) = (zs.getLsbD (codeOfZone z) && (s.zone z).mask.touch)) ∧
      exec (.touch zs) s = .next (withReply 0x87 0 [zs, reached] s) := by
  have hready := readyForCommand_of_quiet h
  obtain ⟨-, hrest⟩ := (windingDownQuietly_iff s).1 h
  refine ⟨fun b up z hz => ⟨_, rfl, ?_⟩, fun zs hn hlt => ⟨_, touchedByte_bit zs s, ?_⟩⟩
  · have hset := windDownAtRest_setZone hrest z (r := { s.zone z with
      trim := max (-10) (min 10 ((s.zone z).trim + (if up then 5 else -5))) }) (windDownAtRest_standby hrest z)
    rw [execNudge_eq hz up hready rfl, reloadEvent_quiet hset, endEvent_windDownAtRest hset]
  · rw [execTouch_eq hn hlt hready, touchZones_quiet hrest, endEvent_windDownAtRest hrest]

/-- Settles O12: a reload event gives its own zone a new record, and the end of the event moves no zone. -/
theorem nudgeAndTouchAct : Obligations.NudgeAndTouchAct := by
  intro s h
  obtain ⟨hi, -⟩ := (readyForCommand_iff s).1 h
  refine ⟨nudgeAndTouch_quiet, fun hu b up z hz => ⟨_, rfl, _, execNudge_eq hz up h rfl, rfl, ?_⟩, fun b d hbad => ?_,
    fun hu zs hn hlt => ⟨_, execTouch_eq hn hlt h, ⟨_, rfl, touchedByte_bit zs s⟩, ?_⟩, fun zs hbad => ?_⟩
  · generalize hr : ({ s.zone z with trim := max (-10) (min 10 ((s.zone z).trim + (if up then 5 else -5))) } : ZoneRec) = r
    have hevent := reloadEvent_plantOnly .nudge z (s.setZone z r)
    rw [State.zone_setZone_self, State.setZone_setZone] at hevent
    have honly := (setZone_zonesOnly s z _).trans hevent.zonesOnly
    refine ⟨(honly.endEvent hu).withoutReply hi _ _ _, fun y hy => ?_, ?_⟩
    · rw [honly.zone_withReply hu, hevent.zone, s.zone_setZone_of_ne _ hy]
    · have hpsc : (s.setZone z r).psc = s.psc := rfl
      rw [honly.zone_withReply hu, hevent.zone, State.zone_setZone_self, hpsc, hu, eventRec_inUse]
      rfl
  · exact congrArg Host.Outcome.next (completeFrame_refused h (replyType 0x06) (cmdNudge_refused hbad s))
  · obtain ⟨honly, hrec⟩ := touchZones_zone zs s
    refine ⟨(honly.endEvent hu).withoutReply hi _ _ _, fun z => ?_⟩
    rw [honly.zone_withReply hu, hrec, hu, eventRec_inUse, ite_and]
    rfl
  · exact congrArg Host.Outcome.next (completeFrame_refused h (replyType 0x07) (cmdTouch_refused hbad s))

end Sys2Proof.Machine

namespace Sys2Proof.Machine

/-! ## SEATS (R24, R25) -/

/-- A zone record with an applied seat count, before the SEAT event of a change (R25). -/
def countedRec (n : Nat) (r : ZoneRec) : ZoneRec := if r.seats = 0 then holdTimer { r with seats := n } else { r with seats := n }

/-- A zone record after its applied seat count and the SEAT event of a change (R24). -/
def seatedRec (n : Nat) (used : Bool) (r : ZoneRec) : ZoneRec := if n = r.seats then r else eventRec .seat used (countedRec n r)

theorem seatCount_plantOnly (z : Zone) (n : Nat) (s : State) :
    PlantOnly (s.setZone z (seatedRec n (inUse s.psc.power) (s.zone z))) (seatCount z n s) := by
  unfold seatCount seatedRec
  dsimp only
  split
  · rw [s.setZone_zone_same]
    exact .refl s
  · have hevent := reloadEvent_plantOnly .seat z (s.setZone z (countedRec n (s.zone z)))
    rwa [State.zone_setZone_self, State.setZone_setZone] at hevent

/-- A counted zone in Standby keeps its timer. -/
theorem countedRec_standby {r : ZoneRec} (h : r.opMode = .standby) (n : Nat) : countedRec n r = { r with seats := n } := by
  unfold countedRec holdTimer
  simp only [h]
  exact ite_self _

/-- A count that rises from 0 sets the timer to the length of the mode, and moves nothing else (R25). -/
theorem countedRec_eq (n : Nat) (r : ZoneRec) :
    countedRec n r =
      { r with
        seats := n
        timer :=
          if r.seats = 0 then
            match r.opMode with
            | .auto => r.setbackMin * 60
            | .setback => r.standbyMin * 60
            | .standby | .off | .vent => r.timer
          else r.timer } := by
  unfold countedRec holdTimer
  dsimp only
  split
  · cases r.opMode <;> rfl
  · rfl

/-- Where the SEAT event is effective it sets the timer anew, whatever the count did to it (R25, R28). -/
theorem reloaded_countedRec (n : Nat) (r : ZoneRec) :
    { countedRec n r with opMode := reloadedMode (countedRec n r), timer := reloadedTimer (countedRec n r) } =
      { r with seats := n, opMode := reloadedMode r, timer := reloadedTimer r } := by
  rw [countedRec_eq]
  unfold reloadedMode reloadedTimer
  cases r.opMode <;> simp

theorem seatedRec_inUse (n : Nat) (r : ZoneRec) :
    seatedRec n true r =
      if n = r.seats then r
      else if r.mask.seat then { r with seats := n, opMode := reloadedMode r, timer := reloadedTimer r }
      else countedRec n r := by
  have hmask : maskHas (countedRec n r).mask .seat = r.mask.seat := by
    rw [countedRec_eq]
    rfl
  rw [seatedRec, eventRec_inUse, hmask, reloaded_countedRec]

/-- The count that a SEATS command applies to a zone (R24). -/
def seatsTaken (n : PerZone Byte) (z : Zone) : Nat := min (n.get z).toNat (capacityOf z)

theorem cmdSeats_eq (n : PerZone Byte) (s : State) :
    ∃ adjusted, (adjusted = false ↔ Zone.all.all (fun z => decide ((n.get z).toNat ≤ capacityOf z)) = true) ∧
      cmdSeats n.e n.l1 n.l2 n.u1 n.u2 n.u3 s =
        (endEvent (Zone.all.foldl (fun s z => seatCount z (seatsTaken n z) s) s),
          doneReply adjusted (Zone.all.map (fun z => BitVec.ofNat 8 (seatsTaken n z)))) := by
  generalize hasked : (⟨n.e.toNat, n.l1.toNat, n.l2.toNat, n.u1.toNat, n.u2.toNat, n.u3.toNat⟩ : PerZone Nat) = asked
  have hget : ∀ z, asked.get z = (n.get z).toNat := fun z => by
    subst hasked
    cases z <;> rfl
  have happlied : ∀ z, (appliedSeats asked).get z = seatsTaken n z := fun z => by
    rw [appliedSeats, PerZone.get_map, hget]
    rfl
  refine ⟨appliedSeats asked != asked, ?_, ?_⟩
  · rw [bne_eq_false_iff_eq, List.all_eq_true]
    refine ⟨fun h z _ => ?_, fun h => PerZone.ext_get fun z => ?_⟩
    · have hz := happlied z
      rw [h, hget] at hz
      exact decide_eq_true (min_eq_left_iff.1 hz.symm)
    · rw [happlied, hget]
      exact Nat.min_eq_left (of_decide_eq_true (h z (mem_zone_all z)))
  · unfold cmdSeats
    simp only [hasked, happlied]
    rfl

theorem execSeats_eq (n : PerZone Byte) {s : State} (h : readyForCommand s = true) :
    exec (.seats n.e n.l1 n.l2 n.u1 n.u2 n.u3) s =
      .next
        (withReply 0x85 (if Zone.all.all (fun z => decide ((n.get z).toNat ≤ capacityOf z)) then 0 else 1)
          (Zone.all.map (fun z => BitVec.ofNat 8 (seatsTaken n z)))
          (endEvent (Zone.all.foldl (fun s z => seatCount z (seatsTaken n z) s) s))) := by
  obtain ⟨adjusted, hadj, hcmd⟩ := cmdSeats_eq n s
  exact congrArg Host.Outcome.next (completeFrame_done h (replyType 0x05) hcmd hadj)

/-- In a quiet wind-down each count is recorded and does nothing more. -/
theorem seatCounts_quiet (k : Zone → Nat) (l : List Zone) {s : State} (h : windDownAtRest s = true) :
    windDownAtRest (l.foldl (fun s z => seatCount z (k z) s) s) = true ∧
      l.foldl (fun s z => seatCount z (k z) s) s = l.foldl (fun s z => s.setZone z { s.zone z with seats := k z }) s := by
  induction l generalizing s with
  | nil => exact ⟨h, rfl⟩
  | cons z l ih =>
    have hstand := windDownAtRest_standby h z
    have hset := windDownAtRest_setZone h z (r := { s.zone z with seats := k z }) hstand
    have hcount : seatCount z (k z) s = s.setZone z { s.zone z with seats := k z } := by
      unfold seatCount
      dsimp only
      split
      next hsame =>
        rw [hsame]
        exact (s.setZone_zone_same z).symm
      next =>
        change reloadEvent .seat z (s.setZone z (countedRec (k z) (s.zone z))) = _
        rw [countedRec_standby hstand, reloadEvent_quiet hset]
    rw [List.foldl_cons, List.foldl_cons, hcount]
    exact ih hset

/-- Records set zone by zone are a change of the zone table alone. -/
theorem foldl_setZone (g : Zone → ZoneRec → ZoneRec) (l : List Zone) (s : State) :
    l.foldl (fun s z => s.setZone z (g z (s.zone z))) s =
      s.setZc { s.zc with zones := l.foldl (fun p z => p.set z (g z (p.get z))) s.zc.zones } := by
  induction l generalizing s with
  | nil => rfl
  | cons z l ih =>
    rw [List.foldl_cons, ih]
    rfl

theorem setAllZones (g : Zone → ZoneRec → ZoneRec) (s : State) :
    Zone.all.foldl (fun s z => s.setZone z (g z (s.zone z))) s = s.setZc { s.zc with zones := s.zc.zones.map g } := by
  have hmap : ∀ p : PerZone ZoneRec, Zone.all.foldl (fun p z => p.set z (g z (p.get z))) p = p.map g := fun p => by
    obtain ⟨e, l1, l2, u1, u2, u3⟩ := p
    rfl
  rw [foldl_setZone, hmap]

theorem seatCounts_zone (k : Zone → Nat) (s : State) :
    ZonesOnly s (Zone.all.foldl (fun s z => seatCount z (k z) s) s) ∧
      ∀ y, (Zone.all.foldl (fun s z => seatCount z (k z) s) s).zone y = seatedRec (k y) (inUse s.psc.power) (s.zone y) := by
  obtain ⟨hzones, hrec⟩ := foldl_zoneRecs (g := fun used z r => seatedRec (k z) used r) (fun s z => seatCount_plantOnly z (k z) s)
    Zone.all (by decide) s
  exact ⟨hzones, fun y => (hrec y).trans (if_pos (mem_zone_all y))⟩

/-- Settles O11: each zone's count gives its own record alone a change, and the end of the event moves no zone. -/
theorem seatsAct : Obligations.SeatsAct := by
  intro n s k st hst
  refine ⟨fun h => ?_, fun h hu => ⟨_, execSeats_eq n h, hst ▸ rfl, ?_⟩⟩
  · obtain ⟨-, hrest⟩ := (windingDownQuietly_iff s).1 h
    obtain ⟨hquiet, hcounts⟩ := seatCounts_quiet (seatsTaken n) Zone.all hrest
    have hend := (endEvent_windDownAtRest hquiet).trans
      (hcounts.trans (setAllZones (fun z r => { r with seats := seatsTaken n z }) s))
    rw [hst]
    exact (execSeats_eq n (readyForCommand_of_quiet h)).trans (congrArg (fun t => Host.Outcome.next (withReply _ _ _ t)) hend)
  · obtain ⟨hi, -⟩ := (readyForCommand_iff s).1 h
    obtain ⟨honly, hrec⟩ := seatCounts_zone (seatsTaken n) s
    refine ⟨(honly.endEvent hu).withoutReply hi _ _ _, fun z => ?_⟩
    rw [honly.zone_withReply hu, hrec, hu, seatedRec_inUse, countedRec_eq]
    rfl

end Sys2Proof.Machine

namespace Sys2Proof.Machine

/-! ## INACTIVITY_TIMER_EXPIRY (R29 to R31) -/

/-- Entry to Setback gives the zone its mode and timer; what follows is a flag and the air path's (R29). -/
theorem enterSetback_plantOnly (z : Zone) (s : State) :
    PlantOnly (s.setZone z { s.zone z with opMode := .setback, timer := setbackLength (s.zone z) }) (enterSetback z s) :=
  (raise_plantOnly .setback _).trans (handMode_plantOnly z _)

/-- Entry to Standby clears what R31 names; a zone already there has none. -/
theorem enterStandby_plantOnly (z : Zone) (s : State) :
    PlantOnly (s.setZone z (if (s.zone z).opMode = .standby then s.zone z else standbyRec (s.zone z))) (enterStandby z s) := by
  unfold enterStandby
  dsimp only
  split
  · rw [s.setZone_zone_same]
    exact .refl s
  · have hw := requestTokens_plantOnly z .none 0 (s.setZone z (standbyRec (s.zone z)))
    refine .trans ?_ (handMode_plantOnly z _)
    unfold withdraw
    rw [State.zone_setZone_self, State.setZone_setZone]
    exact hw

/-- The zone record after an expired timer in Auto or Setback (R29, R30). -/
def expiredRec (r : ZoneRec) : ZoneRec :=
  if r.opMode = .auto then { r with opMode := .setback, timer := setbackLength r } else standbyRec r

/-- An expired timer sets SETBACK and gives its zone a new record; what follows is arbiter and air path (R29, R30). -/
theorem timerExpired_zone {z : Zone} {s : State} (h : (s.zone z).opMode = .auto ∨ (s.zone z).opMode = .setback) :
    ZonesOnly s (timerExpired z s) ∧ hasFlag (timerExpired z s).hlu.latched .setback = true ∧
      ∀ y, (timerExpired z s).zone y = if y = z then expiredRec (s.zone z) else s.zone y := by
  unfold timerExpired
  obtain h | h := h
  · have hrec : expiredRec (s.zone z) = _ := if_pos h
    rw [h, hrec]
    dsimp only
    have hplant := enterSetback_plantOnly z s
    refine ⟨(setZone_zonesOnly s z _).trans hplant.zonesOnly, ?_, fun y => ?_⟩
    · exact (handMode_settingsKept z _).flags _ (hasFlag_setFlag_self .setback _)
    · exact (hplant.zone y).trans (s.zone_setZone z y _)
  · have hrec : expiredRec (s.zone z) = standbyRec (s.zone z) := if_neg (by rw [h]; decide)
    have hraise := raise_plantOnly .setback s
    have hstand := enterStandby_plantOnly z (raise .setback s)
    rw [hraise.zone, h, if_neg (by decide)] at hstand
    rw [h, hrec]
    dsimp only
    refine ⟨hraise.zonesOnly.trans ((setZone_zonesOnly _ z _).trans hstand.zonesOnly), ?_, fun y => ?_⟩
    · exact (enterStandby_settingsKept z _).flags _ (hasFlag_setFlag_self .setback _)
    · rw [hstand.zone, State.zone_setZone, hraise.zone]

theorem timerDue_iff (z : Zone) (s : State) :
    timerDue z s =
      (decide ((s.zone z).timer = 0) && decide ((s.zone z).seats = 0) && decide (s.psc.power ≠ .parked) &&
        (decide ((s.zone z).opMode = .setback) || (decide ((s.zone z).opMode = .auto) && !s.psc.precondition))) := by
  unfold timerDue timerRuns
  rw [Bool.eq_iff_iff]
  cases (s.zone z).opMode <;> simp <;> tauto

/-- Settles O39: an expiry that is due gives its own zone a new record, and the end of the event moves no zone and clears no flag. -/
theorem inactivityExpires : Obligations.InactivityExpires := by
  intro z s r hr due hdue
  subst hr
  rw [← timerDue_iff] at hdue
  refine ⟨fun h => ?_, fun h hu => ?_⟩
  · rw [hdue] at h
    exact congrArg Host.Outcome.next (if_neg (by rw [h]; decide))
  · rw [hdue] at h
    have hmode : (s.zone z).opMode = .auto ∨ (s.zone z).opMode = .setback := by
      rw [timerDue_iff] at h
      simp only [Bool.and_eq_true, Bool.or_eq_true, decide_eq_true_eq] at h
      obtain ⟨-, hset | ⟨hauto, -⟩⟩ := h
      · exact .inr hset
      · exact .inl hauto
    obtain ⟨honly, hflag, hzone⟩ := timerExpired_zone hmode
    have hend := endEvent_inUse hu honly
    refine ⟨_, congrArg Host.Outcome.next (if_pos h), honly.endEvent hu, (endEvent_settingsKept _).flags _ hflag, fun y hy => ?_, ?_⟩
    · rw [hend.zone, hzone, if_neg hy]
    · rw [hend.zone, hzone, if_pos rfl]
      rfl

/-! ## DOOR_EDGE (R27, R158 to R160) -/

/-- The pins after a door edge. -/
def doorPins (d : Door) (p : Pins) : Pins :=
  match d with
  | .front => { p with frontDoor := !p.frontDoor }
  | .middle => { p with middleDoor := !p.middleDoor }

theorem doorChanged_eq (d : Door) (s : State) :
    doorChanged d s =
      if inUse s.psc.power then (doorZones d).foldl (fun s z => reloadEvent .door z s) (s.setPins (doorPins d s.pins))
      else leaveForLayover (s.setPins (doorPins d s.pins)) := by
  have hpins : doorChanged d s =
      if inUse s.psc.power then (doorZones d).foldl (fun s z => reloadEvent .door z s) (s.setPins (doorPins d s.pins))
      else wakeToLayover (s.setPins (doorPins d s.pins)) := by cases d <;> rfl
  rw [hpins]
  split
  · rfl
  next hu => exact if_neg hu

/-- In Run and Layover a door edge is a reload event of the zones that the door reaches (R27). -/
theorem doorReload_zone (d : Door) (s : State) :
    ZonesOnly s ((doorZones d).foldl (fun s z => reloadEvent .door z s) s) ∧
      ∀ y, ((doorZones d).foldl (fun s z => reloadEvent .door z s) s).zone y =
        if y ∈ doorZones d then eventRec .door (inUse s.psc.power) (s.zone y) else s.zone y :=
  foldl_zoneRecs (g := fun used _ r => eventRec .door used r) (fun s z => reloadEvent_plantOnly .door z s) (doorZones d)
    (by cases d <;> decide) s

/-! ### Leaving Winding-down or Parked for Layover (R155, R160) -/

/-- The record of a zone released from the Standby of the power state (R160). -/
def releasedRec (r : ZoneRec) : ZoneRec :=
  if r.seats = 0 then r else { r with opMode := opOfHost r.hostMode, timer := autoLength r }

theorem releaseZone_plantOnly (s : State) (z : Zone) : PlantOnly (s.setZone z (releasedRec (s.zone z))) (releaseZone s z) := by
  unfold releaseZone releasedRec
  dsimp only
  split
  · rw [s.setZone_zone_same]
    exact .refl s
  · exact handMode_plantOnly z _

/-- The record of a zone after an entry to Layover, by the precondition flag (R155). -/
def layoverRec (precondition : Bool) (r : ZoneRec) : ZoneRec :=
  if r.seats = 0 then
    if precondition && r.hostMode == .auto then autoRec r else if r.opMode = .standby then r else standbyRec r
  else r

theorem layoverZone_plantOnly (s : State) (z : Zone) :
    PlantOnly (s.setZone z (layoverRec s.psc.precondition (s.zone z))) (layoverZone s z) := by
  unfold layoverZone layoverRec
  dsimp only
  split
  · split
    · exact bringToAuto_plantOnly s z
    · exact enterStandby_plantOnly z s
  · rw [s.setZone_zone_same]
    exact .refl s

/-- The mode in which the release and the entry to Layover together leave a zone (R155, R160). -/
theorem layoverRec_mode (c : Bool) (r : ZoneRec) :
    (layoverRec c (releasedRec r)).opMode =
      if r.seats = 0 then if c = true ∧ r.hostMode = .auto then .auto else .standby else opOfHost r.hostMode := by
  by_cases hs : r.seats = 0
  · have hrel : releasedRec r = r := if_pos hs
    rw [hrel, layoverRec, if_pos hs, if_pos hs]
    simp only [Bool.and_eq_true, beq_iff_eq]
    split
    next h => simp [autoRec, h.2]
    next =>
      split
      next h => exact h
      next => rfl
  · have hrel : releasedRec r = { r with opMode := opOfHost r.hostMode, timer := autoLength r } := if_neg hs
    rw [hrel, layoverRec, if_neg hs, if_neg hs]

/-- What the part's leaving Winding-down or Parked for Layover does to pins, flags and zones (R158 to R160). -/
theorem leaveForLayover_zone (s : State) :
    (leaveForLayover s).pins = s.pins ∧ hasFlag (leaveForLayover s).hlu.latched .power = true ∧
      ∀ z, (leaveForLayover s).zone z = layoverRec s.psc.precondition (releasedRec (s.zone z)) := by
  obtain ⟨-, hpins, hpre, hzone⟩ := leaveRest_kept s
  have henter : ZonesOnly (enterPower .layover (leaveRest s)) (leaveForLayover s) ∧
      ∀ z, (leaveForLayover s).zone z =
        layoverRec (leaveRest s).psc.precondition (releasedRec ((leaveRest s).zone z)) := by
    obtain ⟨hrel, hrelRec⟩ := foldl_allZones (g := fun s z => releasedRec (s.zone z))
      (fun s z => (setZone_zonesOnly s z _).trans (releaseZone_plantOnly s z).zonesOnly)
      (fun s z y => by rw [(releaseZone_plantOnly s z).zone, State.zone_setZone])
      (fun s t z _ hz => by rw [hz]) (enterPower .layover (leaveRest s))
    obtain ⟨hlay, hlayRec⟩ := foldl_allZones (g := fun s z => layoverRec s.psc.precondition (s.zone z))
      (fun s z => (setZone_zonesOnly s z _).trans (layoverZone_plantOnly s z).zonesOnly)
      (fun s z y => by rw [(layoverZone_plantOnly s z).zone, State.zone_setZone])
      (fun s t z ht hz => by rw [ht.psc, hz]) (Zone.all.foldl releaseZone (enterPower .layover (leaveRest s)))
    refine ⟨hrel.trans hlay, fun z => (hlayRec z).trans ?_⟩
    rw [hrelRec, hrel.psc]
    rfl
  have hkept : SettingsKept (enterPower .layover (leaveRest s)) (leaveForLayover s) :=
    (SettingsKept.foldl releaseZone_settingsKept _ _).trans (.foldl layoverZone_settingsKept _ _)
  obtain ⟨honly, hrec⟩ := henter
  refine ⟨honly.pins.trans hpins, hkept.flags _ (hasFlag_setFlag_self .power _), fun z => ?_⟩
  rw [hrec, hpre, hzone]

/-- Settles O35: in use the edge gives each zone the door reaches a new record; at rest it is the wake to Layover. -/
theorem doorEdgesAct : Obligations.DoorEdgesAct := by
  intro d s p hp
  have hpins : p = doorPins d s.pins := by
    rw [hp]
    cases d <;> rfl
  have hexec := congrArg (fun t => Host.Outcome.next (φ := Fault) (ρ := Refusal) (endEvent t)) (doorChanged_eq d s)
  rw [← hpins] at hexec
  refine ⟨fun hu => ?_, fun hu => ?_⟩
  · simp only [hu, if_true] at hexec
    obtain ⟨honly, hrec⟩ := doorReload_zone d (s.setPins p)
    refine ⟨_, hexec, honly.endEvent hu, fun z => ?_⟩
    have hused : inUse (s.setPins p).psc.power = true := hu
    rw [(endEvent_inUse hused honly).zone, hrec, hused, eventRec_inUse, ← ite_and]
    refine if_congr (and_congr_left' ?_) rfl rfl
    cases d <;> cases z <;> decide
  · simp only [hu, Bool.false_eq_true, if_false] at hexec
    obtain ⟨hkept, hflag, hrec⟩ := leaveForLayover_zone (s.setPins p)
    have hpower := leaveForLayover_power (s.setPins p)
    have hend := endEvent_inUse (by rw [hpower]; rfl) (.refl (leaveForLayover (s.setPins p)))
    refine ⟨_, hexec, ⟨by rw [hend.psc, hpower], hend.pins.trans hkept, (endEvent_settingsKept _).flags _ hflag⟩, fun z => ?_⟩
    rw [hend.zone, hrec, layoverRec_mode]
    rfl

end Sys2Proof.Machine

namespace Sys2Proof.Machine

/-! ## Properties of the arbiter that its moves keep -/

/-- A property of the arbiter that serving and preemption in one pool keep: gains of its servable entries and losses of its holders (R50 to
R53). -/
structure PoolClosed (now : Nat) (k : TokenKind) (Q : Arbiter → Prop) : Prop where
  gain : ∀ {i a}, servable k a i = true → Q a → Q (gainToken now i a)
  lose : ∀ {i a}, 0 < heldOfKind k (a.entry i) → Q a → Q (loseToken i a)

section
variable {now : Nat} {k : TokenKind} {Q : Arbiter → Prop} (hQ : PoolClosed now k Q)
include hQ

theorem PoolClosed.distribute (n : Nat) {a : Arbiter} (h : Q a) : Q (distribute now k n a) := by
  induction n generalizing a with
  | zero => exact h
  | succ n ih =>
    unfold Machine.distribute
    split
    next i hi => exact ih (hQ.gain (nextServed_servable hi) h)
    next => exact h

omit hQ in
/-- One step of preemption: a servable requester gains what a holder of the kind loses, with no free token left (R52). -/
theorem preempt_succ (n : Nat) (a : Arbiter) : (Machine.preempt now k (n + 1) a).1 = a ∨
    ∃ r v, servable k (loseToken v a) r = true ∧ 0 < heldOfKind k (a.entry v) ∧ a.free k = 0 ∧
      (Machine.preempt now k (n + 1) a).1 = (Machine.preempt now k n (gainToken now r (loseToken v a))).1 := by
  rw [Machine.preempt]
  split
  next hfree =>
    split
    next r hr =>
      split
      next v hv =>
        have hsr : servable k a r = true := (Bool.and_eq_true _ _ ▸ List.find?_some hr).1
        obtain ⟨hne, hheld⟩ := eligible_holds (List.find?_some hv)
        refine .inr ⟨r, v, ?_, hheld, hfree, rfl⟩
        rw [servable_iff] at hsr ⊢
        rwa [loseToken_entry, if_neg hne.symm]
      next => exact .inl rfl
    next => exact .inl rfl
  next => exact .inl rfl

theorem PoolClosed.preempt (n : Nat) {a : Arbiter} (h : Q a) : Q (preempt now k n a).1 := by
  induction n generalizing a with
  | zero => exact h
  | succ n ih =>
    rcases preempt_succ n a with he | ⟨r, v, hsr, hheld, -, he⟩ <;> rw [he]
    · exact h
    · exact ih (hQ.gain hsr (hQ.lose hheld h))

theorem PoolClosed.servePool {a : Arbiter} (h : Q a) : Q (servePool now k a).1 := hQ.preempt _ (hQ.distribute _ h)

end

/-- A property of the arbiter that gains of servable entries and losses keep, the moves that serve passes and reclaims consist of (R50 to
R57). A reclaim takes from a holder of the kind or, where no zone is one, from the screen-clear entry. -/
structure TokensClosed (now : Nat) (Q : Arbiter → Prop) : Prop where
  gain : ∀ {k i a}, servable k a i = true → Q a → Q (gainToken now i a)
  lose : ∀ {k i a}, 0 < heldOfKind k (a.entry i) ∨ i = screenEntry k → Q a → Q (loseToken i a)

section
variable {now : Nat} {Q : Arbiter → Prop} (hQ : TokensClosed now Q)
include hQ

theorem TokensClosed.pool (k : TokenKind) : PoolClosed now k Q := ⟨hQ.gain, fun h => hQ.lose (.inl h)⟩

theorem TokensClosed.servePass {a : Arbiter} (h : Q a) : Q (servePass now a).arb := by
  rw [servePass_arb]
  exact (hQ.pool .heat).servePool ((hQ.pool .cool).servePool h)

theorem TokensClosed.servedOr {a : Arbiter} {r : ArbResult} (h : Q a) (hr : servedOr now a r) : Q r.arb := by
  rcases hr with rfl | rfl
  · exact h
  · exact hQ.servePass h

end

/-- The victim of a reclaim holds a token of the kind or is the screen-clear entry (R56, R57). -/
theorem reclaimVictim_cases (k : TokenKind) (a : Arbiter) :
    0 < heldOfKind k (a.entry (reclaimVictim k a)) ∨ reclaimVictim k a = screenEntry k := by
  have hvictim : ∀ o : Option EntryId, (∀ i, o = some i → i ∈ holdersLowestFirst k a) →
      0 < heldOfKind k (a.entry (o.getD (screenEntry k))) ∨ o.getD (screenEntry k) = screenEntry k := by
    intro o ho
    cases o with
    | some i => exact .inl (mem_holdersLowestFirst (ho i rfl))
    | none => exact .inr rfl
  unfold reclaimVictim
  dsimp only
  split
  · exact hvictim _ fun i hi => List.mem_of_mem_head? hi
  · exact hvictim _ fun i hi => List.mem_of_mem_head? hi
  · exact hvictim _ fun i hi => mostRecent_mem hi

theorem TokensClosed.reclaim {now : Nat} {Q : Arbiter → Prop} (hQ : TokensClosed now Q) (k : TokenKind) (n : Nat) {a : Arbiter}
    (h : Q a) : Q (reclaim k n a) := by
  induction n generalizing a with
  | zero => exact h
  | succ n ih => exact ih (hQ.lose (reclaimVictim_cases k a) h)

/-- A property that a capacity report keeps (R56). -/
def ReportClosed (now : Nat) (Q : Arbiter → Prop) : Prop := ∀ k n a, Q a → Q (reportCapacity now k n a).arb

theorem TokensClosed.reportClosed {now : Nat} {Q : Arbiter → Prop} (hQ : TokensClosed now Q)
    (hcap : ∀ k n a, Q a → Q (a.setCapacity k n)) : ReportClosed now Q := by
  intro k n a h
  have hset := hcap k n a h
  rcases reportCapacity_cases now k n a with ⟨hr, -⟩ | ⟨hr, -⟩ | ⟨hr, -⟩ <;> rw [hr]
  · exact hset
  · exact hQ.servePass hset
  · exact hQ.servePass (hQ.reclaim k _ hset)

/-- A property that the end of every event keeps: capacity reports, and the withdrawals of a wind-down that ends (R84, R158). -/
structure EndClosed (now : Nat) (Q : Arbiter → Prop) : Prop where
  report : ReportClosed now Q
  withdraw : ∀ z a, Q a → Q (handRequest now z .none 0 a).arb

/-- A property that every event at the arbiter keeps but a new mask set and a reset. -/
structure ArbClosed (Q : Arbiter → Prop) : Prop where
  report : ∀ now, ReportClosed now Q
  request : ∀ now z k n a, Q a → Q (handRequest now z k n a).arb
  assertScreen : ∀ now a, Q a → Q (assertScreenEntries now a).arb
  releaseScreen : ∀ now a, Q a → Q (releaseScreenEntries now a).arb
  modes : ∀ now m a, Q a → Q (setModes now m a).arb
  order : ∀ now id ls a, ls.Perm (arbiterLines id) ∨ ls.Perm (a.orders.get id) → Q a → Q (setOrder now id ls a).arb
  settings : ∀ now a, Q a → Q (actOnSettings now a).arb
  loaded : ∀ o m a, ordersLawful o → Q a → Q { a with orders := o, modes := m }
  holdEnd : ∀ now i a, Q a → Q (takeHoldEnd now i a).arb

theorem ArbClosed.ends {Q : Arbiter → Prop} (hQ : ArbClosed Q) (now : Nat) : EndClosed now Q :=
  ⟨hQ.report now, fun z a h => hQ.request now z .none 0 a h⟩

/-- The entry that a withdrawn request leaves (R48). -/
def emptiedEntry (e : GrantEntry) : GrantEntry := { e with kind := .none, wanted := 0, held := 0, since := none, holdPending := false }

/-- A withdrawal empties the zone's entry, takes it from the queue and serves at most; where nothing was requested it does nothing (R48). -/
theorem handRequest_withdrawn (now : Nat) (z : Zone) (n : Nat) (a : Arbiter) :
    (handRequest now z .none n a = settledResult a ∧ (a.entry (.zone z)).kind = .none) ∨
      servedOr now { a.setEntry (.zone z) (emptiedEntry (a.entry (.zone z))) with queue := leaveQueue (.zone z) a.queue }
        (handRequest now z .none n a) := by
  unfold handRequest
  rw [if_pos rfl]
  split
  next hk => exact .inl ⟨rfl, hk⟩
  next =>
    refine .inr ?_
    dsimp only
    split
    · exact .inr rfl
    · exact .inl rfl

/-- A request hand-off rewrites the zone's entry, its mask kept and its tokens not above what they were, and serves at most (R47, R48). -/
theorem handRequest_rewrites (now : Nat) (z : Zone) (k : ReqKind) (n : Nat) (a : Arbiter) :
    handRequest now z k n a = settledResult a ∨
      ∃ e q, e.masked = (a.entry (.zone z)).masked ∧ e.held ≤ (a.entry (.zone z)).held ∧
        servedOr now { a.setEntry (.zone z) e with queue := q } (handRequest now z k n a) := by
  by_cases hk : k = .none
  · subst hk
    rcases handRequest_withdrawn now z n a with ⟨hr, -⟩ | hr
    · exact .inl hr
    · exact .inr ⟨emptiedEntry (a.entry (.zone z)), leaveQueue (.zone z) a.queue, rfl, Nat.zero_le _, hr⟩
  · rcases handRequest_cases now z k n a with ⟨hr, -⟩ | ⟨e, q, he, -, hr⟩
    · exact .inl hr
    · refine .inr ⟨e, q, he.masked, ?_, hr⟩
      obtain ⟨t, ht⟩ : ∃ t, k = kindOf t := by
        cases k with
        | none => exact absurd rfl hk
        | cool => exact ⟨.cool, rfl⟩
        | heat => exact ⟨.heat, rfl⟩
      calc e.held = heldOfKind t e := (heldOfKind_of_eq (he.kind.trans ht)).symm
        _ ≤ heldOfKind t (a.entry (.zone z)) := he.held t
        _ ≤ (a.entry (.zone z)).held := by unfold heldOfKind; split <;> omega

/-- A property kept by gains, losses, rewritten entries that keep their masks and gain nothing, and settings is kept by every event. -/
theorem ArbClosed.of_tokens {Q : Arbiter → Prop} (hQ : ∀ now, TokensClosed now Q) (hcap : ∀ k n a, Q a → Q (a.setCapacity k n))
    (hrewrite : ∀ i e q a, e.masked = (a.entry i).masked → e.held ≤ (a.entry i).held → Q a →
      Q { a.setEntry i e with queue := q })
    (hmove : ∀ now hold m a, Q a → Q { a with modes := m, table := moveHoldEnds now hold a.table })
    (horder : ∀ id ls a, ls.Perm (arbiterLines id) ∨ ls.Perm (a.orders.get id) → Q a → Q { a with orders := a.orders.set id ls })
    (hloaded : ∀ o m a, ordersLawful o → Q a → Q { a with orders := o, modes := m }) : ArbClosed Q where
  report now := (hQ now).reportClosed hcap
  request now z k n a h := by
    rcases handRequest_rewrites now z k n a with hr | ⟨e, q, hm, hh, hr⟩
    · rw [hr]; exact h
    · exact (hQ now).servedOr (hrewrite _ e q a hm hh h) hr
  assertScreen now a h := by
    have hc := hrewrite .scc { a.entry .scc with wanted := 2 } a.queue a rfl le_rfl h
    exact (hQ now).servePass
      (hrewrite .sch { a.entry .sch with wanted := 2 } (joinQueue .sch (joinQueue .scc a.queue)) _ rfl le_rfl hc)
  releaseScreen now a h := by
    have hc := hrewrite .scc (releasedEntry (a.entry .scc)) a.queue a rfl (Nat.zero_le _) h
    exact (hQ now).servePass
      (hrewrite .sch (releasedEntry (a.entry .sch)) (leaveQueue .sch (leaveQueue .scc a.queue)) _ rfl (Nat.zero_le _) hc)
  modes now m a h := (hQ now).servePass (hmove now m.hold m a h)
  order now id ls a hp h := (hQ now).servePass (horder id ls a hp h)
  settings now a h := (hQ now).servePass (hmove now a.modes.hold a.modes a h)
  loaded := hloaded
  holdEnd now i a h :=
    (hQ now).servePass (hrewrite i { a.entry i with holdPending := false } a.queue a rfl le_rfl h)

/-! ### The orders stay lawful (R44) -/

theorem ordersLawful_tokens (now : Nat) : TokensClosed now fun a => ordersLawful a.orders where
  gain {k i a} _ h := by
    obtain ⟨-, -, -, -, ho⟩ := gainToken_cases now i a
    rcases ho with ho | ⟨z, ho⟩ <;> rw [ho]
    · exact h
    · exact rotateServed_lawful a.modes z h
  lose _ h := h

theorem ordersLawful_closed : ArbClosed fun a => ordersLawful a.orders :=
  .of_tokens ordersLawful_tokens (fun k _ _ h => by cases k <;> exact h) (fun _ _ _ _ _ _ h => h) (fun _ _ _ _ h => h)
    (fun _ _ _ hp h => ordersLawful_set h (hp.elim id fun hp => hp.trans (Orders.get_perm h _))) (fun _ _ _ ho _ => ho)

/-! ### A masked entry gains nothing (R59) -/

/-- An entry that is masked holds at most `n` tokens. -/
def MaskedAtMost (i : EntryId) (n : Nat) (a : Arbiter) : Prop := (a.entry i).masked = true → (a.entry i).held ≤ n

/-- A rewritten entry that keeps its mask and gains nothing stays within what it was. -/
theorem maskedAtMost_of_entry {i j : EntryId} {n : Nat} {a b : Arbiter} {e : GrantEntry} (hb : b.entry i = if i = j then e else a.entry i)
    (hm : e.masked = (a.entry j).masked) (hh : (a.entry j).masked = true → e.held ≤ (a.entry j).held) (h : MaskedAtMost i n a) :
    MaskedAtMost i n b := by
  unfold MaskedAtMost
  rw [hb]
  split
  next hij =>
    subst hij
    exact fun he => (hh (hm ▸ he)).trans (h (hm ▸ he))
  next => exact h

theorem maskedAtMost_tokens (i : EntryId) (n now : Nat) : TokensClosed now (MaskedAtMost i n) where
  gain {k j a} hs h := by
    refine maskedAtMost_of_entry (gainToken_entry now j i a) rfl (fun hm => ?_) h
    rw [((servable_iff k a j).1 hs).2.2] at hm
    cases hm
  lose {k j a} _ h := maskedAtMost_of_entry (loseToken_entry j i a) rfl (fun _ => Nat.sub_le _ _) h

theorem maskedAtMost_moveHoldEnds {i : EntryId} {n : Nat} {a : Arbiter} (now hold : Nat) (m : ArbModes) (h : MaskedAtMost i n a) :
    MaskedAtMost i n { a with modes := m, table := moveHoldEnds now hold a.table } := by
  have he : ({ a with modes := m, table := moveHoldEnds now hold a.table } : Arbiter).entry i =
      { a.entry i with holdPending := isProtected now hold (a.entry i) } := moveHoldEnds_get now hold a.table i
  unfold MaskedAtMost
  rw [he]
  exact h

theorem maskedAtMost_closed (i : EntryId) (n : Nat) : ArbClosed (MaskedAtMost i n) :=
  .of_tokens (maskedAtMost_tokens i n)
    (fun k m a h => by
      unfold MaskedAtMost
      rw [Arbiter.entry_setCapacity]
      exact h)
    (fun j e q a hm hh h => maskedAtMost_of_entry (a.entry_setEntry j i e) hm (fun _ => hh) h)
    (fun now hold m _ h => maskedAtMost_moveHoldEnds now hold m h) (fun _ _ _ _ h => h) (fun _ _ _ _ h => h)

/-- Every event but a new mask set and a reset leaves the masks. -/
theorem masked_closed (i : EntryId) : ArbClosed fun a => (a.entry i).masked = true := by
  have hentry : ∀ {a b : Arbiter} {j : EntryId} {e : GrantEntry}, b.entry i = (if i = j then e else a.entry i) →
      e.masked = (a.entry j).masked → (a.entry i).masked = true → (b.entry i).masked = true := by
    intro a b j e hb he h
    rw [hb]
    split
    next hij => exact he.trans (hij ▸ h)
    next => exact h
  refine .of_tokens
    (fun now => ⟨fun {k j a} _ h => hentry (gainToken_entry now j i a) rfl h, fun {k j a} _ h => hentry (loseToken_entry j i a) rfl h⟩)
    (fun k m a h => by rw [Arbiter.entry_setCapacity]; exact h) (fun j e q a hm _ h => hentry (a.entry_setEntry j i e) hm h)
    (fun now hold m a h => ?_) (fun _ _ _ _ h => h) (fun _ _ _ _ h => h)
  have he : ({ a with modes := m, table := moveHoldEnds now hold a.table } : Arbiter).entry i =
      { a.entry i with holdPending := isProtected now hold (a.entry i) } := moveHoldEnds_get now hold a.table i
  rw [he]
  exact h

theorem ArbClosed.and {P Q : Arbiter → Prop} (hP : ArbClosed P) (hQ : ArbClosed Q) : ArbClosed fun a => P a ∧ Q a where
  report now k n a h := ⟨hP.report now k n a h.1, hQ.report now k n a h.2⟩
  request now z k n a h := ⟨hP.request now z k n a h.1, hQ.request now z k n a h.2⟩
  assertScreen now a h := ⟨hP.assertScreen now a h.1, hQ.assertScreen now a h.2⟩
  releaseScreen now a h := ⟨hP.releaseScreen now a h.1, hQ.releaseScreen now a h.2⟩
  modes now m a h := ⟨hP.modes now m a h.1, hQ.modes now m a h.2⟩
  order now id ls a hp h := ⟨hP.order now id ls a hp h.1, hQ.order now id ls a hp h.2⟩
  settings now a h := ⟨hP.settings now a h.1, hQ.settings now a h.2⟩
  loaded o m a ho h := ⟨hP.loaded o m a ho h.1, hQ.loaded o m a ho h.2⟩
  holdEnd now i a h := ⟨hP.holdEnd now i a h.1, hQ.holdEnd now i a h.2⟩

end Sys2Proof.Machine

namespace Sys2Proof.Machine

/-! ## What operations do to the arbiter, for any property that its events keep -/

/-- At part time `now` the arbiter has a property. -/
structure ArbAt (now : Nat) (Q : Arbiter → Prop) (s : State) : Prop where
  time : s.partTime = now
  holds : Q s.ca

theorem Untouched.arb {Q : Arbiter → Prop} {s t : State} (k : Untouched s t) (h : Q s.ca) : Q t.ca := k.ca.symm ▸ h

theorem BooksUntouched.arb {Q : Arbiter → Prop} {s t : State} (k : BooksUntouched s t) (h : Q s.ca) : Q t.ca := k.ca.symm ▸ h

theorem ArbAt.of_untouched {now : Nat} {Q : Arbiter → Prop} {s t : State} (h : ArbAt now Q s) (o : t.partTime = s.partTime)
    (k : Untouched s t) : ArbAt now Q t := ⟨o.trans h.time, k.arb h.holds⟩

theorem ArbAt.ite {now : Nat} {Q : Arbiter → Prop} {t u : State} {c : Prop} [Decidable c] (h : ArbAt now Q t) (k : ArbAt now Q u) :
    ArbAt now Q (if c then t else u) := by
  split <;> assumption

theorem ArbAt.foldl {now : Nat} {Q : Arbiter → Prop} {α : Type} {f : State → α → State}
    (hf : ∀ s x, ArbAt now Q s → ArbAt now Q (f s x)) (l : List α) {s : State} (h : ArbAt now Q s) : ArbAt now Q (l.foldl f s) := by
  induction l generalizing s with
  | nil => exact h
  | cons x l ih => exact ih (hf s x h)

theorem arbEvent_arb {Q : Arbiter → Prop} {f : Arbiter → ArbResult} {s : State} (h : Q (f s.ca).arb) : Q (arbEvent f s).ca := by
  rw [(arbEvent_done f s).ca]
  exact h

/-! ### The end of an event (R84, R157, R158) -/

section
variable {now : Nat} {Q : Arbiter → Prop}

theorem reportPool_arbAt (hQ : ReportClosed now Q) (k : TokenKind) (n : Nat) {s : State} (h : ArbAt now Q s) :
    ArbAt now Q (reportPool k n s) := by
  refine ⟨(reportPool_plantOnly k n s).partTime.trans h.time, ?_⟩
  unfold reportPool
  split
  · exact h.holds
  · refine arbEvent_arb ?_
    rw [h.time]
    exact hQ k n _ h.holds

theorem shedTest_arbAt (hQ : ReportClosed now Q) {s : State} (h : ArbAt now Q s) : ArbAt now Q (shedTest s) := by
  have hloop : ArbAt now Q (shedLoop 10 s).1 :=
    ⟨(shedLoop_plantOnly 10 s).partTime.trans h.time, (shedLoop_reports 10 s).1.arb h.holds⟩
  exact ArbAt.foldl (f := fun s (c : TokenKind × Nat) => reportPool c.1 c.2 s) (fun _ c => reportPool_arbAt hQ c.1 c.2) _ hloop

section
variable (hQ : EndClosed now Q)
include hQ

theorem withdraw_arbAt (z : Zone) {s : State} (h : ArbAt now Q s) : ArbAt now Q (withdraw z s) := by
  refine ⟨(withdraw_outside z s).partTime.trans h.time, ?_⟩
  unfold withdraw
  rw [(requestTokens_done z .none 0 _).ca]
  change Q (handRequest s.partTime z .none 0 s.ca).arb
  rw [h.time]
  exact hQ.withdraw z _ h.holds

theorem enterStandby_arbAt (z : Zone) {s : State} (h : ArbAt now Q s) : ArbAt now Q (enterStandby z s) := by
  refine .ite h ?_
  have hset : ArbAt now Q (s.setZone z { s.zone z with opMode := .standby, trim := 0, timer := 0 }) := ⟨h.time, h.holds⟩
  exact (withdraw_arbAt hQ z hset).of_untouched (handMode_plantOnly z _).partTime (handMode_untouched z _)

theorem layoverZone_arbAt (s : State) (z : Zone) (h : ArbAt now Q s) : ArbAt now Q (layoverZone s z) :=
  .ite (.ite (h.of_untouched (bringToAuto_outside z s).partTime (bringToAuto_untouched z s)) (enterStandby_arbAt hQ z h)) h

theorem enterLayover_arbAt {s : State} (h : ArbAt now Q s) : ArbAt now Q (enterLayover s) :=
  .foldl (layoverZone_arbAt hQ) _ (h.of_untouched (enterPower_outside _ s).partTime (enterPower_untouched _ s))

end

theorem leaveRest_partTime (s : State) : (leaveRest s).partTime = s.partTime := by
  unfold leaveRest
  dsimp only
  split <;> rfl

theorem leaveForRun_partTime (s : State) : (leaveForRun s).partTime = s.partTime :=
  ((enterPower_outside .run _).trans
    ((OutsideKept.foldl releaseZone_outside _ _).trans (preconditionZones_outside _))).partTime.trans (leaveRest_partTime s)

theorem leaveForLayover_arbAt (hQ : EndClosed now Q) {s : State} (h : ArbAt now Q s) : ArbAt now Q (leaveForLayover s) := by
  have h1 : ArbAt now Q (enterPower .layover (leaveRest s)) :=
    (h.of_untouched (leaveRest_partTime s) (leaveRest_untouched s)).of_untouched (enterPower_outside .layover _).partTime
      (enterPower_untouched .layover _)
  refine .foldl (layoverZone_arbAt hQ) _ (.foldl (fun s z hs => ?_) _ h1)
  exact hs.of_untouched (releaseZone_outside s z).partTime (releaseZone_untouched s z)

theorem windDownReports_arbAt (hQ : EndClosed now Q) {s : State} (h : ArbAt now Q s) : ArbAt now Q (windDownReports s) := by
  have h1 : ArbAt now Q (s.setPsc { s.psc with stopped := reportStopped s }) := ⟨h.time, h.holds⟩
  refine .ite (.ite (.ite ?_ (.ite ?_ ?_)) h1) h
  · exact shedTest_arbAt hQ.report (h1.of_untouched (leaveForRun_partTime _) (leaveForRun_untouched _))
  · exact shedTest_arbAt hQ.report (leaveForLayover_arbAt hQ h1)
  · exact h1.of_untouched (enterParked_outside _).partTime (enterParked_untouched _)

theorem endEvent_arbAt (hQ : EndClosed now Q) {s : State} (h : ArbAt now Q s) : ArbAt now Q (endEvent s) :=
  windDownReports_arbAt hQ (shedTest_arbAt hQ.report h)

end

end Sys2Proof.Machine

namespace Sys2Proof.Machine

/-! ## Every operation keeps what the arbiter's events keep -/

/-- The arbiter of a state has a property. -/
structure ArbHas (Q : Arbiter → Prop) (s : State) : Prop where
  holds : Q s.ca

theorem ArbHas.same {Q : Arbiter → Prop} {s t : State} (h : ArbHas Q s) (hc : t.ca = s.ca) : ArbHas Q t := ⟨hc.symm ▸ h.holds⟩

theorem ArbHas.of_untouched {Q : Arbiter → Prop} {s t : State} (h : ArbHas Q s) (k : Untouched s t) : ArbHas Q t := h.same k.ca

theorem ArbHas.ite {Q : Arbiter → Prop} {t u : State} {c : Prop} [Decidable c] (h : ArbHas Q t) (k : ArbHas Q u) :
    ArbHas Q (if c then t else u) := by
  split <;> assumption

theorem ArbHas.foldl {Q : Arbiter → Prop} {α : Type} {f : State → α → State} (hf : ∀ s x, ArbHas Q s → ArbHas Q (f s x)) (l : List α)
    {s : State} (h : ArbHas Q s) : ArbHas Q (l.foldl f s) := by
  induction l generalizing s with
  | nil => exact h
  | cons x l ih => exact ih (hf s x h)

theorem ArbHas.arbEvent {Q : Arbiter → Prop} {f : Arbiter → ArbResult} {s : State} (h : Q (f s.ca).arb) :
    ArbHas Q (Machine.arbEvent f s) := by
  refine ⟨?_⟩
  rw [(arbEvent_done f s).ca]
  exact h

section
variable {Q : Arbiter → Prop} (hQ : ArbClosed Q)
include hQ

theorem reportPool_arb (k : TokenKind) (n : Nat) {s : State} (h : ArbHas Q s) : ArbHas Q (reportPool k n s) :=
  ⟨(reportPool_arbAt (hQ.report _) k n ⟨rfl, h.holds⟩).holds⟩

theorem reportCool_arb {s : State} (h : ArbHas Q s) : ArbHas Q (reportCool s) := reportPool_arb hQ _ _ h

theorem reportHeat_arb {s : State} (h : ArbHas Q s) : ArbHas Q (reportHeat s) := reportPool_arb hQ _ _ h

theorem shedTest_arb {s : State} (h : ArbHas Q s) : ArbHas Q (shedTest s) :=
  ⟨(shedTest_arbAt (hQ.report _) ⟨rfl, h.holds⟩).holds⟩

theorem withdraw_arb (z : Zone) {s : State} (h : ArbHas Q s) : ArbHas Q (withdraw z s) :=
  ⟨(withdraw_arbAt (hQ.ends _) z ⟨rfl, h.holds⟩).holds⟩

theorem enterStandby_arb (z : Zone) {s : State} (h : ArbHas Q s) : ArbHas Q (enterStandby z s) :=
  ⟨(enterStandby_arbAt (hQ.ends _) z ⟨rfl, h.holds⟩).holds⟩

theorem enterLayover_arb {s : State} (h : ArbHas Q s) : ArbHas Q (enterLayover s) :=
  ⟨(enterLayover_arbAt (hQ.ends _) ⟨rfl, h.holds⟩).holds⟩

theorem leaveForLayover_arb {s : State} (h : ArbHas Q s) : ArbHas Q (leaveForLayover s) :=
  ⟨(leaveForLayover_arbAt (hQ.ends _) ⟨rfl, h.holds⟩).holds⟩

theorem windDownReports_arb {s : State} (h : ArbHas Q s) : ArbHas Q (windDownReports s) :=
  ⟨(windDownReports_arbAt (hQ.ends _) ⟨rfl, h.holds⟩).holds⟩

theorem endEvent_arb {s : State} (h : ArbHas Q s) : ArbHas Q (endEvent s) := ⟨(endEvent_arbAt (hQ.ends _) ⟨rfl, h.holds⟩).holds⟩

/-! ### Sequencers -/

theorem unloadComp_arb (c : Comp) {s : State} (h : ArbHas Q s) : ArbHas Q (unloadComp c s) := reportCool_arb hQ (h.same rfl)

theorem tripComp_arb (c : Comp) {s : State} (h : ArbHas Q s) : ArbHas Q (tripComp c s) := by
  have h1 : ArbHas Q (raise .compTrip (s.setComp c (tripRec s.partTime (s.comp c)))) := h.same rfl
  have h2 : ArbHas Q (if (tripRec s.partTime (s.comp c)).state = .lockout then
      raise .compLock (raise .compTrip (s.setComp c (tripRec s.partTime (s.comp c)))) else
      raise .compTrip (s.setComp c (tripRec s.partTime (s.comp c)))) := .ite (h1.same rfl) h1
  exact reportCool_arb hQ (h2.of_untouched (restoreIfFell_untouched _ _))

theorem throttleComp_arb (c : Comp) {s : State} (h : ArbHas Q s) : ArbHas Q (throttleComp c s) :=
  .ite (reportCool_arb hQ (h.same rfl)) h

theorem protectComp_arb (c : Comp) (low throttles failed : Bool) {s : State} (h : ArbHas Q s) :
    ArbHas Q (protectComp c low throttles failed s) := by
  have h1 : ArbHas Q (if low then s.setComp c (chargeRec s.partTime (lowUsed s c) (s.comp c)) else s) := .ite (h.same rfl) h
  exact .ite (tripComp_arb hQ c h1) (.ite (throttleComp_arb hQ c h1) h1)

omit hQ in
theorem tryStarts_arb {s : State} (h : ArbHas Q s) : ArbHas Q (tryStarts s) := by
  have ask : ∀ c t, ArbHas Q t → ArbHas Q (askStart c t) := fun c t ht => .ite (ht.same rfl) (ht.same rfl)
  unfold tryStarts
  split
  · exact ask .a s h
  next k _ =>
    have h1 := h.of_untouched (refuseStart_untouched .a k s)
    dsimp only
    split
    · exact ask .b _ h1
    · exact h1.of_untouched (refuseStart_untouched .b _ _)

theorem stagingStop_arb (c : Comp) {s : State} (h : ArbHas Q s) : ArbHas Q (stagingStop c s) :=
  .ite ((unloadComp_arb hQ c h).same rfl) h

theorem stopForSurplus_arb {s : State} (h : ArbHas Q s) : ArbHas Q (stopForSurplus s) := by
  unfold stopForSurplus
  refine .ite ?_ h
  split
  · exact stagingStop_arb hQ _ h
  · exact h

theorem stagingUpdate_arb {s : State} (h : ArbHas Q s) : ArbHas Q (stagingUpdate s) := by
  have h1 : ArbHas Q (s.setCs { s.cs with comps := s.cs.comps.map (ageRec s.partTime), checkedAt := some s.partTime }) := h.same rfl
  have trip : ∀ (c : Comp) (t : State), ArbHas Q t → ArbHas Q (if chargeTrip t c then tripComp c t else t) := fun c t ht =>
    .ite (tripComp_arb hQ c ht) ht
  have release : ∀ c t, ArbHas Q t → ArbHas Q (releaseTripped c t) := fun c t ht => .ite (ht.same rfl) ht
  exact release .b _ (release .a _ (trip .b _ (trip .a _ h1)))

theorem stagingWork_arb {s : State} (h : ArbHas Q s) : ArbHas Q (stagingWork s) := by
  have disabled : ∀ c t, ArbHas Q t → ArbHas Q (stopDisabled c t) := fun c t ht => .ite (unloadComp_arb hQ c ht) ht
  have idle : ∀ t, ArbHas Q t → ArbHas Q (stopForIdle t) := fun t ht =>
    .ite (stagingStop_arb hQ .b (stagingStop_arb hQ .a ht)) ht
  have h1 : ArbHas Q (stagingStretches (stagingUpdate s)) := (stagingUpdate_arb hQ h).of_untouched (stagingStretches_untouched _)
  have h2 := idle _ (stopForSurplus_arb hQ (disabled .b _ (disabled .a _ h1)))
  exact .ite (tryStarts_arb h2) h2

theorem stopPumpNow_arb {s : State} (h : ArbHas Q s) : ArbHas Q (stopPumpNow s) := by
  have h1 : ArbHas Q (s.setHs (stopPump s.partTime s.hs)) := h.same rfl
  exact .ite (reportHeat_arb hQ (h1.of_untouched (restoreIfFell_untouched _ _))) h

theorem pumpStart_arb {s : State} (h : ArbHas Q s) : ArbHas Q (pumpStart s) :=
  .ite (.ite (reportHeat_arb hQ (h.same rfl)) (h.same rfl)) h

theorem heatingWork_arb {s : State} (h : ArbHas Q s) : ArbHas Q (heatingWork s) := by
  have h1 : ArbHas Q (heatingStretches s) := h.same rfl
  have h2 : ArbHas Q (pumpDecision (heatingStretches s)) := .ite (.ite (stopPumpNow_arb hQ h1) h1) (pumpStart_arb hQ h1)
  exact h2.of_untouched (heaterDecision_untouched _)

theorem coolantSampled_arb (failed : Bool) {s : State} (h : ArbHas Q s) : ArbHas Q (coolantSampled failed s) := by
  have h1 : ArbHas Q (bandReported s) := reportHeat_arb hQ (h.same rfl)
  exact .ite (h1.same rfl) h1

theorem windDownPump_arb {s : State} (h : ArbHas Q s) : ArbHas Q (windDownPump s) := .ite (stopPumpNow_arb hQ h) h

theorem endPurge_arb {s : State} (h : ArbHas Q s) : ArbHas Q (endPurge s) := by
  have h1 : ArbHas Q (s.setHs (enterOff s.partTime s.hs)) := h.same rfl
  exact .ite (h.same rfl) (windDownPump_arb hQ (h1.of_untouched (restoreIfFell_untouched _ _)))

/-! ### Zone Controller -/

theorem withdraw_handMode_arb (z : Zone) {s : State} (h : ArbHas Q s) : ArbHas Q (handMode z (withdraw z s)) :=
  (withdraw_arb hQ z h).of_untouched (handMode_untouched z _)

theorem applyHostMode_arb (z : Zone) {s : State} (h : ArbHas Q s) : ArbHas Q (applyHostMode z s) := by
  have hset : ∀ m n, ArbHas Q (s.setZone z { s.zone z with opMode := m, timer := n }) := fun m n => h.same rfl
  unfold applyHostMode
  refine .ite h ?_
  split
  · have h2 : ArbHas Q (if (s.zone z).opMode = .off ∨ (s.zone z).opMode = .vent then
        withdraw z (s.setZone z { s.zone z with opMode := .auto, timer := autoLength (s.zone z) }) else
        s.setZone z { s.zone z with opMode := .auto, timer := autoLength (s.zone z) }) := .ite (withdraw_arb hQ z (hset _ _)) (hset _ _)
    exact .ite h2 (h2.of_untouched (handMode_untouched z _))
  · exact .ite (hset _ _) (withdraw_handMode_arb hQ z (hset _ _))
  · exact .ite (hset _ _) (withdraw_handMode_arb hQ z (hset _ _))

theorem reloadEvent_arb (e : ReloadEvent) (z : Zone) {s : State} (h : ArbHas Q s) : ArbHas Q (reloadEvent e z s) :=
  .ite (shedTest_arb hQ (h.of_untouched (reloadEffect_untouched z s))) h

theorem seatCount_arb (z : Zone) (n : Nat) {s : State} (h : ArbHas Q s) : ArbHas Q (seatCount z n s) :=
  .ite h (reloadEvent_arb hQ .seat z (h.same rfl))

theorem deriveSensor_arb (s : State) (z : Zone) (h : ArbHas Q s) : ArbHas Q (deriveSensor s z) := by
  have h1 : ArbHas Q (s.setZone z { s.zone z with sensor := sensorOf s.ssu z }) := h.same rfl
  have lose : ∀ t, ArbHas Q t → ArbHas Q (loseSensor z t) := fun t ht =>
    shedTest_arb hQ (withdraw_handMode_arb hQ z (ht.same (t := t.setZone z { t.zone z with tempUsed := none }) rfl))
  exact .ite (lose _ h1) h1

theorem requestTokens_arb (z : Zone) (k : ReqKind) (n : Nat) {s : State} (h : ArbHas Q s) : ArbHas Q (requestTokens z k n s) :=
  .arbEvent (hQ.request _ z k n _ h.holds)

theorem evaluateZone_arb (z : Zone) {s : State} (h : ArbHas Q s) : ArbHas Q (evaluateZone z s) := by
  have handOn : ∀ b k n t, ArbHas Q t → ArbHas Q (handOnRequest z b k n t) := fun b k n t ht =>
    requestTokens_arb hQ z k n (.ite (requestTokens_arb hQ z .none 0 ht) ht)
  exact shedTest_arb hQ
    ((handOn _ _ _ _ (h.same (t := s.setZone z (evaluateRec s z)) rfl)).of_untouched (handMode_untouched z _))

theorem timerExpired_arb (z : Zone) {s : State} (h : ArbHas Q s) : ArbHas Q (timerExpired z s) := by
  unfold timerExpired
  split
  · exact h.of_untouched (enterSetback_untouched z s)
  · exact enterStandby_arb hQ z (h.same rfl)
  all_goals exact h

/-! ### Screen Clear Monitor and Power State Controller -/

theorem assertScreen_arb {s : State} (h : ArbHas Q s) : ArbHas Q (assertScreen s) := by
  unfold assertScreen
  generalize hs1 : raise .screen (s.setScm _) = s1
  have h1 : ArbHas Q s1 := hs1 ▸ h.same rfl
  have h2 : ArbHas Q (arbEvent (assertScreenEntries s.partTime) s1) := .arbEvent (hQ.assertScreen _ _ h1.holds)
  dsimp only
  generalize arbEvent (assertScreenEntries s.partTime) s1 = s2 at h2
  exact shedTest_arb hQ (h2.same rfl)

theorem releaseScreen_arb {s : State} (h : ArbHas Q s) : ArbHas Q (releaseScreen s) := by
  have h1 : ArbHas Q (arbEvent (releaseScreenEntries s.partTime) (s.setScm { s.scm with active := false, activeSince := none })) :=
    .arbEvent (hQ.releaseScreen _ _ h.holds)
  exact (shedTest_arb hQ h1).of_untouched (restoreAttempt_untouched _)

theorem screenWork_arb {s : State} (h : ArbHas Q s) : ArbHas Q (screenWork s) := by
  have h1 : ArbHas Q (s.setScm (screenUpdate s)) := h.same rfl
  exact .ite (.ite (releaseScreen_arb hQ h1) h1) (.ite (assertScreen_arb hQ h1) h1)

theorem windDown_arb {s : State} (h : ArbHas Q s) : ArbHas Q (windDown s) := by
  have h0 : ArbHas Q (enterPower .windingDown (s.setPsc { s.psc with stopped := ⟨false, false, false⟩ })) := h.same rfl
  have h1 : ArbHas Q (Zone.all.foldl (fun s z => enterStandby z s)
      (enterPower .windingDown (s.setPsc { s.psc with stopped := ⟨false, false, false⟩ }))) :=
    .foldl (fun _ z => enterStandby_arb hQ z) _ h0
  have screen : ∀ t, ArbHas Q t → ArbHas Q (windDownScreen t) := fun t ht => by
    have h2 : ArbHas Q (if t.scm.active then releaseScreen t else t) := .ite (releaseScreen_arb hQ ht) ht
    exact h2.same rfl
  have heating : ∀ t, ArbHas Q t → ArbHas Q (windDownHeating t) := fun t ht => windDownPump_arb hQ (ht.same rfl)
  have h4 := heating _ (unloadComp_arb hQ .b (unloadComp_arb hQ .a (screen _ h1)))
  exact endEvent_arb hQ (h4.of_untouched (dampersToFreshMin_untouched _))

theorem reachLead_arb {s : State} (h : ArbHas Q s) : ArbHas Q (reachLead s) := by
  have h1 : ArbHas Q (raise .depart (s.setPsc { s.psc with precondition := true, leadArmed := false })) := h.same rfl
  have wake : ∀ t, ArbHas Q t → ArbHas Q (wakeToLayover t) := fun t ht => .ite ht (leaveForLayover_arb hQ ht)
  exact .foldl (fun s z hs => hs.of_untouched (bringToAuto_untouched z s)) _ (wake _ h1)

theorem setDepart_arb (minutes : Nat) {s : State} (h : ArbHas Q s) : ArbHas Q (setDepart minutes s) :=
  .ite (reachLead_arb hQ (h.same rfl)) (h.same rfl)

theorem loadLead_arb (lead : Nat) {s : State} (h : ArbHas Q s) : ArbHas Q (loadLead lead s) := by
  unfold loadLead
  dsimp only
  split
  · exact .ite (reachLead_arb hQ (h.same rfl)) (h.same rfl)
  · exact h.same rfl

omit hQ in
theorem ignitionChanged_arb (on : Bool) {s : State} (h : ArbHas Q s) : ArbHas Q (ignitionChanged on s) := by
  have h1 : ArbHas Q (s.setPins { s.pins with ignition := on }) := h.same rfl
  unfold ignitionChanged
  refine .ite ?_ (.ite (h1.same rfl) h1)
  split
  · exact h1.same rfl
  · exact h1.of_untouched (enterPower_untouched _ _)
  · exact h1.of_untouched (leaveForRun_untouched _)
  · exact h1.of_untouched (leaveForRun_untouched _)

theorem doorChanged_arb (d : Door) {s : State} (h : ArbHas Q s) : ArbHas Q (doorChanged d s) := by
  have h1 : ArbHas Q (s.setPins (doorPins d s.pins)) := h.same rfl
  rw [doorChanged_eq]
  exact .ite (.foldl (fun _ z => reloadEvent_arb hQ .door z) _ h1) (leaveForLayover_arb hQ h1)

theorem periodWork_arb {s : State} (h : ArbHas Q s) : ArbHas Q (periodWork s) := by
  have h1 : ArbHas Q (Zone.all.foldl (fun s z => evaluateZone z s) s) := .foldl (fun _ z => evaluateZone_arb hQ z) _ h
  unfold periodWork
  dsimp only
  generalize Zone.all.foldl (fun s z => evaluateZone z s) s = s1 at h1
  exact endEvent_arb hQ (h1.same rfl)

theorem sampleUsers_arb (c : Channel) (failed : Bool) {s : State} (h : ArbHas Q s) : ArbHas Q (sampleUsers c failed s) := by
  unfold sampleUsers
  split
  · exact .foldl (deriveSensor_arb hQ) _ h
  · exact coolantSampled_arb hQ failed h
  · exact protectComp_arb hQ _ false true failed h
  · exact protectComp_arb hQ _ true false failed h
  · exact protectComp_arb hQ _ false true false h
  all_goals exact h

theorem sampleWork_arb (c : Channel) (v : Int) {s : State} (h : ArbHas Q s) : ArbHas Q (sampleWork c v s) :=
  .ite h (endEvent_arb hQ (sampleUsers_arb hQ c _ (h.of_untouched (takeSample_untouched c v s))))

theorem loadBlocks_arb {g : Settings} (hg : ordersLawful g.orders) {s : State} (h : ArbHas Q s) : ArbHas Q (loadBlocks g s) := by
  have h1 : ArbHas Q (takeSettings g s) :=
    ArbHas.of_untouched (s := s.setCa { s.ca with orders := g.orders, modes := g.modes }) ⟨hQ.loaded _ _ _ hg h.holds⟩
      (takeSettings_untouched g s)
  have hzone : ∀ t z, ArbHas Q t → ArbHas Q (loadZoneActions s.zc.zones t z) := fun t z ht => by
    have h2 : ArbHas Q (t.setZone z (adaptTimer t.psc.power t.psc.precondition (t.zone z))) := ht.same rfl
    exact .ite h2 (applyHostMode_arb hQ z h2)
  have h2 : ArbHas Q (Zone.all.foldl (loadZoneActions s.zc.zones) (takeSettings g s)) := .foldl hzone _ h1
  unfold loadBlocks
  dsimp only
  generalize Zone.all.foldl (loadZoneActions s.zc.zones) (takeSettings g s) = s2 at h2
  have h3 : ArbHas Q (arbEvent (actOnSettings s2.partTime) s2) := .arbEvent (hQ.settings _ _ h2.holds)
  generalize arbEvent (actOnSettings s2.partTime) s2 = s3 at h3
  have h4 : ArbHas Q (if s.hs.permit && !g.permit then s3.setHs (stopHeater s3.partTime s3.hs) else s3) := .ite (h3.same rfl) h3
  generalize (if s.hs.permit && !g.permit then s3.setHs (stopHeater s3.partTime s3.hs) else s3) = s4 at h4
  have h5 : ArbHas Q (if s.apc.ventMin = g.ventMin then s4 else computeAllBlowers s4) :=
    .ite h4 (h4.of_untouched (computeAllBlowers_untouched _))
  exact .ite h5 (h5.of_untouched (applyFreshMin_untouched _))

theorem applyProfile_arb {g : Settings} (hg : ordersLawful g.orders) {s : State} (h : ArbHas Q s) : ArbHas Q (applyProfile g s) := by
  have h7 := loadLead_arb hQ g.departLead (loadBlocks_arb hQ hg h)
  rw [applyProfile_eq]
  dsimp only
  generalize loadLead g.departLead (loadBlocks g s) = s7 at h7
  have h9 : ArbHas Q (shedTest (if s.hlu.snapshotRate = g.snapshotRate then s7 else s7.setHlu (setSnapshotRate g.snapshotRate s7.hlu))) :=
    shedTest_arb hQ (.ite h7 (h7.same rfl))
  exact windDownReports_arb hQ (.ite (h9.of_untouched (restoreAttempt_untouched _)) h9)

end

end Sys2Proof.Machine

namespace Sys2Proof.Machine

/-! ## Commands and events, by what they may move -/

/-- The effects of the commands that frames carry: a command's own, or an answer alone. -/
inductive FrameBody : CommandBody → Prop
  | command (i : Instr) : FrameBody (bodyOf i)
  | answer (f : State → Reply) : FrameBody fun s => (s, f s)

/-- A host command in the queue is the completion of a frame that carries it (R165). -/
theorem exec_hostCommand {i : Instr} (h : isHostCommand i = true) :
    ∃ rtype body, FrameBody body ∧ ∀ s, exec i s = .next (completeFrame rtype body s) := by
  have own : ∀ rtype, (∀ s, exec i s = .next (completeFrame rtype (bodyOf i) s)) →
      ∃ rtype body, FrameBody body ∧ ∀ s, exec i s = .next (completeFrame rtype body s) := fun rtype hi => ⟨rtype, _, .command i, hi⟩
  cases i with
  | curveWrite vs =>
    refine ⟨replyType 0x18, if 1 ≤ vs.length ∧ vs.length ≤ 9 then cmdCurveWrite vs else refuse .badLength, ?_, fun _ => rfl⟩
    split
    · exact .command (.curveWrite vs)
    · exact .answer _
  | arbOrder a ls =>
    refine ⟨replyType 0x0C, if ls.length = 2 ∨ ls.length = 3 then cmdArbOrder a ls else refuse .badLength, ?_, fun _ => rfl⟩
    split
    · exact .command (.arbOrder a ls)
    · exact .answer _
  | _ => cases h <;> exact own _ fun _ => rfl

theorem frameWork_eq (type : Byte) (payload : List Byte) :
    ∃ rtype body, FrameBody body ∧ ∀ s, frameWork type payload s = completeFrame rtype body s := by
  unfold frameWork
  split
  · exact ⟨_, _, .answer _, fun _ => rfl⟩
  · exact ⟨_, _, .answer _, fun _ => rfl⟩
  · exact ⟨_, _, .command _, fun _ => rfl⟩

/-- What the laws of the arbiter and of the loads read of a state is as it was. -/
structure LoadSame (s t : State) : Prop where
  ca : t.ca = s.ca
  stack : t.la.stack = s.la.stack
  allowance : allowanceInForce t.la = allowanceInForce s.la
  comp : ∀ c, (t.comp c).state = (s.comp c).state
  pump : t.hs.pump = s.hs.pump
  counted : heaterCounted t.hs.heater = heaterCounted s.hs.heater
  request : runRequest t.hs = runRequest s.hs
  blower : ∀ z, (t.blower z).mode = (s.blower z).mode ∧ (t.blower z).speed = (s.blower z).speed
  ventMin : t.apc.ventMin = s.apc.ventMin
  opMode : ∀ z, (t.zone z).opMode = (s.zone z).opMode
  screen : t.scm.active = s.scm.active

theorem LoadSame.refl (s : State) : LoadSame s s := ⟨rfl, rfl, rfl, fun _ => rfl, rfl, rfl, rfl, fun _ => ⟨rfl, rfl⟩, rfl, fun _ => rfl, rfl⟩

theorem LoadSame.trans {s t u : State} (h : LoadSame s t) (k : LoadSame t u) : LoadSame s u where
  ca := k.ca.trans h.ca
  stack := k.stack.trans h.stack
  allowance := k.allowance.trans h.allowance
  comp c := (k.comp c).trans (h.comp c)
  pump := k.pump.trans h.pump
  counted := k.counted.trans h.counted
  request := k.request.trans h.request
  blower z := ⟨(k.blower z).1.trans (h.blower z).1, (k.blower z).2.trans (h.blower z).2⟩
  ventMin := k.ventMin.trans h.ventMin
  opMode z := (k.opMode z).trans (h.opMode z)
  screen := k.screen.trans h.screen

theorem LoadSame.ite {s t u : State} {c : Prop} [Decidable c] (h : LoadSame s t) (k : LoadSame s u) : LoadSame s (if c then t else u) := by
  split <;> assumption

/-- Blocks that the laws of arbiter and loads do not read. -/
theorem loadSame_of_blocks {s t : State} (ca : t.ca = s.ca) (la : t.la = s.la) (cs : t.cs = s.cs) (hs : t.hs = s.hs) (apc : t.apc = s.apc)
    (zc : t.zc = s.zc) (scm : t.scm = s.scm) : LoadSame s t where
  ca := ca
  stack := by rw [la]
  allowance := by rw [la]
  comp c := by unfold State.comp; rw [cs]
  pump := by rw [hs]
  counted := by rw [hs]
  request := by rw [hs]
  blower z := by unfold State.blower; rw [apc]; exact ⟨rfl, rfl⟩
  ventMin := by rw [apc]
  opMode z := by unfold State.zone; rw [zc]
  screen := by rw [scm]

theorem setHlu_loadSame (s : State) (h : HostLink) : LoadSame s (s.setHlu h) := loadSame_of_blocks rfl rfl rfl rfl rfl rfl rfl

theorem setPs_loadSame (s : State) (p : ProfileStore) : LoadSame s (s.setPs p) := loadSame_of_blocks rfl rfl rfl rfl rfl rfl rfl

theorem setPsc_loadSame (s : State) (p : PowerCtl) : LoadSame s (s.setPsc p) := loadSame_of_blocks rfl rfl rfl rfl rfl rfl rfl

theorem setPins_loadSame (s : State) (p : Pins) : LoadSame s (s.setPins p) := loadSame_of_blocks rfl rfl rfl rfl rfl rfl rfl

theorem raise_loadSame (f : Flag) (s : State) : LoadSame s (raise f s) := setHlu_loadSame s _

theorem setPending_loadSame (s : State) (q : List Instr) : LoadSame s (s.setPending q) := loadSame_of_blocks rfl rfl rfl rfl rfl rfl rfl

theorem setZc_loadSame {s : State} {zc : ZoneCtl} (h : ∀ z, (zc.zones.get z).opMode = (s.zone z).opMode) : LoadSame s (s.setZc zc) :=
  ⟨rfl, rfl, rfl, fun _ => rfl, rfl, rfl, rfl, fun _ => ⟨rfl, rfl⟩, rfl, h, rfl⟩

theorem setZone_loadSame {s : State} {z : Zone} {r : ZoneRec} (h : r.opMode = (s.zone z).opMode) : LoadSame s (s.setZone z r) :=
  setZc_loadSame fun y => by
    change ((s.setZone z r).zone y).opMode = (s.zone y).opMode
    rw [State.zone_setZone]
    split
    next hy => rw [h, hy]
    next => rfl

theorem setApc_loadSame {s : State} {a : AirPath} (hv : a.ventMin = s.apc.ventMin)
    (h : ∀ z, (a.blowers.get z).mode = (s.blower z).mode ∧ (a.blowers.get z).speed = (s.blower z).speed) : LoadSame s (s.setApc a) :=
  ⟨rfl, rfl, rfl, fun _ => rfl, rfl, rfl, rfl, h, hv, fun _ => rfl, rfl⟩

theorem setCs_loadSame {s : State} {c : Cooling} (h : ∀ i, (c.comps.get i).state = (s.comp i).state) : LoadSame s (s.setCs c) :=
  ⟨rfl, rfl, rfl, h, rfl, rfl, rfl, fun _ => ⟨rfl, rfl⟩, rfl, fun _ => rfl, rfl⟩

theorem setHs_loadSame {s : State} {h : Heating} (hp : h.pump = s.hs.pump) (hc : heaterCounted h.heater = heaterCounted s.hs.heater)
    (hr : runRequest h = runRequest s.hs) : LoadSame s (s.setHs h) :=
  ⟨rfl, rfl, rfl, fun _ => rfl, hp, hc, hr, fun _ => ⟨rfl, rfl⟩, rfl, fun _ => rfl, rfl⟩

theorem adaptTimer_opMode (p : PowerState) (b : Bool) (r : ZoneRec) : (adaptTimer p b r).opMode = r.opMode := by
  unfold adaptTimer
  split <;> rfl

theorem tickTimer_opMode (p : PowerState) (b : Bool) (r : ZoneRec) : (tickTimer p b r).opMode = r.opMode := by
  unfold tickTimer
  split <;> rfl

theorem writePoints_ventMin (vs : List Nat) (a : AirPath) : (writePoints vs a).ventMin = a.ventMin := by
  induction vs generalizing a with
  | nil => rfl
  | cons v rest ih => exact ih _

theorem readPoints_ventMin (n : Nat) (a : AirPath) : (readPoints n a).2.ventMin = a.ventMin := by
  induction n generalizing a with
  | zero => rfl
  | succ n ih => exact ih _

/-- The commands of the host that move no plant, which only answer or act on a setting, leave arbiter and loads. -/
theorem bodyOf_loadSame {i : Instr} (h : (isHostCommand i && movesPlant i) = false) (s : State) : LoadSame s (bodyOf i s).1 := by
  cases i with
  | tune => exact setZc_loadSame fun _ => rfl
  | period => exact setZc_loadSame fun _ => rfl
  | queryZone z =>
    dsimp only [bodyOf, cmdQueryZone]
    split <;> exact .refl s
  | zoneTimers z sb st m =>
    dsimp only [bodyOf, cmdZoneTimers]
    split
    · exact setZone_loadSame (adaptTimer_opMode _ _ _)
    · exact .refl s
  | shift d =>
    dsimp only [bodyOf, cmdShift]
    split
    · exact setZc_loadSame fun _ => rfl
    · exact .refl s
  | home => exact setZc_loadSame fun _ => rfl
  | compEnable en =>
    dsimp only [bodyOf, cmdCompEnable]
    split
    · exact setCs_loadSame fun c => by cases c <;> rfl
    · exact .refl s
  | curvePointer a d sc =>
    dsimp only [bodyOf, cmdCurvePointer]
    split
    · split
      · exact setApc_loadSame rfl fun _ => ⟨rfl, rfl⟩
      · exact .refl s
    · exact .refl s
  | curveWrite vs => exact setApc_loadSame (writePoints_ventMin _ _) fun _ => by rw [writePoints_blowers]; exact ⟨rfl, rfl⟩
  | curveRead n => exact setApc_loadSame (readPoints_ventMin _ _) fun _ => by rw [readPoints_blowers]; exact ⟨rfl, rfl⟩
  | zoneCurve z c =>
    dsimp only [bodyOf, cmdZoneCurve]
    split
    · exact setZone_loadSame rfl
    · exact .refl s
  | eventEnable f =>
    dsimp only [bodyOf, cmdEventEnable]
    split
    · exact setHlu_loadSame s _
    · exact .refl s
  | eventClear f =>
    dsimp only [bodyOf, cmdEventClear]
    split
    · exact setHlu_loadSame s _
    · exact .refl s
  | snapshotRate r => exact setHlu_loadSame s _
  | profileWrite r c v =>
    dsimp only [bodyOf, cmdProfileWrite]
    split
    · exact .refl s
    · split
      · exact setPs_loadSame s _
      · exact .refl s
  | profileRead r c =>
    dsimp only [bodyOf, cmdProfileRead]
    split
    · exact .refl s
    · split <;> exact .refl s
  | _ => cases h <;> exact .refl s

theorem advanceTime_loadSame (s : State) : LoadSame s (advanceTime s) :=
  .ite (loadSame_of_blocks rfl rfl rfl rfl rfl rfl rfl) (loadSame_of_blocks rfl rfl rfl rfl rfl rfl rfl)

/-- A flame that appears brings a heater in Ignition to Burning, and its run request stands (R119). -/
theorem flameAppears_loadSame (s : State) : LoadSame s (s.setHs (flameAppears s.hs s.partTime)) := by
  have h : (flameAppears s.hs s.partTime).pump = s.hs.pump ∧ heaterCounted (flameAppears s.hs s.partTime).heater = heaterCounted s.hs.heater ∧
      runRequest (flameAppears s.hs s.partTime) = runRequest s.hs := by
    unfold flameAppears
    split
    next hi => exact ⟨rfl, by rw [hi]; rfl, by unfold runRequest; rw [hi]; rfl⟩
    all_goals exact ⟨rfl, rfl, rfl⟩
  exact setHs_loadSame h.1 h.2.1 h.2.2

/-- A fresh host value that turns stale stays in force (R75, R76). -/
theorem staleness_loadSame {s : State} (h : staleDue s = true) :
    LoadSame s (raise .allowance (s.setLa { s.la with status := .stale })) := by
  have hfresh : s.la.status = .fresh := by
    simp only [staleDue, Bool.and_eq_true, beq_iff_eq] at h
    exact h.1
  have hforce : allowanceInForce { s.la with status := .stale } = allowanceInForce s.la := by
    unfold allowanceInForce
    rw [hfresh]
  exact LoadSame.trans (t := s.setLa { s.la with status := .stale })
    ⟨rfl, rfl, hforce, fun _ => rfl, rfl, rfl, rfl, fun _ => ⟨rfl, rfl⟩, rfl, fun _ => rfl, rfl⟩ (raise_loadSame _ _)

/-- Every command is the completion of a frame, an event that leaves arbiter and loads, or an event that moves plant. -/
theorem exec_split (i : Instr) (s : State) :
    (∃ u rtype body, LoadSame s u ∧ FrameBody body ∧ exec i s = .next (completeFrame rtype body u)) ∨
      (∃ t, exec i s = .next t ∧ LoadSame s t) ∨ (movesPlant i = true ∧ isHostCommand i = false) := by
  by_cases hh : isHostCommand i = true
  · obtain ⟨rtype, body, hb, he⟩ := exec_hostCommand hh
    exact .inl ⟨s, rtype, body, .refl s, hb, he s⟩
  by_cases hm : movesPlant i = true
  · exact .inr (.inr ⟨hm, Bool.eq_false_iff.2 hh⟩)
  have hno : (isHostCommand i || movesPlant i) = false := by rw [Bool.or_eq_false_iff, Bool.eq_false_iff, Bool.eq_false_iff]; exact ⟨hh, hm⟩
  clear hh hm
  have quiet : ∀ {t}, exec i s = .next t → LoadSame s t →
      (∃ u rtype body, LoadSame s u ∧ FrameBody body ∧ exec i s = .next (completeFrame rtype body u)) ∨
        (∃ t, exec i s = .next t ∧ LoadSame s t) ∨ (movesPlant i = true ∧ isHostCommand i = false) := fun he hs => .inr (.inl ⟨_, he, hs⟩)
  cases i with
  | frameComplete type payload =>
    obtain ⟨rtype, body, hb, he⟩ := frameWork_eq type payload
    exact .inl ⟨s, rtype, body, .refl s, hb, congrArg Host.Outcome.next (he s)⟩
  | byteReceived b e =>
    cases e with
    | true => exact quiet rfl (setHlu_loadSame s _)
    | false =>
      have he : exec (.byteReceived b false) s = .next (byteWork b false s) := rfl
      unfold byteWork at he
      rw [if_neg (by decide)] at he
      dsimp only at he
      split at he
      next type payload _ =>
        obtain ⟨rtype, body, hb, hw⟩ := frameWork_eq type payload
        exact .inl ⟨_, rtype, body, setHlu_loadSame s _, hb, he.trans (congrArg Host.Outcome.next (hw _))⟩
      next => exact quiet he (setHlu_loadSame s _)
  | gap => exact quiet rfl (setHlu_loadSame s _)
  | replyStart => exact quiet rfl (setHlu_loadSame s _)
  | eventReport => exact quiet rfl (.ite (setHlu_loadSame s _) (.refl s))
  | snapshotReport => exact quiet rfl (.ite (setHlu_loadSame s _) (.refl s))
  | frameSent => exact quiet rfl (setHlu_loadSame s _)
  | partTimeTick =>
    refine quiet rfl ((advanceTime_loadSame s).trans (setZc_loadSame fun z => ?_))
    dsimp only
    rw [PerZone.get_map]
    exact tickTimer_opMode _ _ _
  | flamePresent =>
    exact quiet rfl (.ite (.refl s) ((setPins_loadSame s _).trans (flameAppears_loadSame (s.setPins { s.pins with flame := true }))))
  | staleness =>
    refine quiet rfl ?_
    split
    next hd => exact staleness_loadSame hd
    next => exact .refl s
  | damperStep => exact quiet rfl (.ite (setApc_loadSame rfl fun _ => ⟨rfl, rfl⟩) (.refl s))
  | departTime => exact quiet rfl (.ite (setPsc_loadSame s _) (.refl s))
  | eraseEnd => exact quiet rfl (setPs_loadSame s _)
  | storeWriteComplete =>
    refine quiet rfl ?_
    unfold endWrite
    split
    · exact (setPs_loadSame s _).trans (raise_loadSame _ _)
    all_goals exact .refl s
  | _ => cases hno

end Sys2Proof.Machine

namespace Sys2Proof.Machine

/-! ## Every step keeps what the arbiter's events keep -/

theorem ArbHas.of_loadSame {Q : Arbiter → Prop} {s t : State} (h : ArbHas Q s) (k : LoadSame s t) : ArbHas Q t := h.same k.ca

section
variable {Q : Arbiter → Prop} (hQ : ArbClosed Q)
include hQ

theorem setLimits_arb (vent fresh : Nat) {s : State} (h : ArbHas Q s) : ArbHas Q (setLimits vent fresh s) := by
  have h1 : ArbHas Q (s.setApc { s.apc with ventMin := vent, freshMin := fresh }) := h.same rfl
  unfold setLimits
  dsimp only
  generalize s.setApc { s.apc with ventMin := vent, freshMin := fresh } = s1 at h1
  have h2 : ArbHas Q (if s.apc.ventMin = vent then s1 else computeAllBlowers s1) := .ite h1 (h1.of_untouched (computeAllBlowers_untouched _))
  exact endEvent_arb hQ (.ite h2 (h2.of_untouched (applyFreshMin_untouched _)))

theorem applyOrder_arb {id : ArbiterId} {ls : List Line} {s : State} (hls : ls.Perm (arbiterLines id) ∨ ls.Perm (s.ca.orders.get id))
    (h : ArbHas Q s) : ArbHas Q (applyOrder id ls s).1 := by
  have h1 : ArbHas Q (arbEvent (setOrder s.partTime id ls) s) := .arbEvent (hQ.order _ id ls _ hls h.holds)
  unfold applyOrder
  dsimp only
  exact endEvent_arb hQ h1

theorem setModes_event_arb (m : ArbModes) {s : State} (h : ArbHas Q s) : ArbHas Q (arbEvent (setModes s.partTime m) s) :=
  .arbEvent (hQ.modes _ m _ h.holds)

theorem allowanceMoved_arb (n : Nat) {s : State} (h : ArbHas Q s) : ArbHas Q (allowanceMoved n s) :=
  .ite (endEvent_arb hQ h) (.ite (h.of_untouched (restoreAttempt_untouched s)) h)

theorem takeScreen_arb (v : ScreenValue) {s : State} (h : ArbHas Q s) : ArbHas Q (takeScreen v s) := by
  unfold takeScreen
  split
  · exact h
  · exact h.same rfl
  · have h1 : ArbHas Q (s.setScm { s.scm with hostRequest := true }) := h.same rfl
    exact .ite (endEvent_arb hQ (assertScreen_arb hQ h1)) h1

/-- The effect of every command but MASK keeps what the arbiter's events keep. -/
theorem bodyOf_arb {i : Instr} (hi : ∀ zs, i ≠ .mask zs) {s : State} (h : ArbHas Q s) : ArbHas Q (bodyOf i s).1 := by
  by_cases hm : (isHostCommand i && movesPlant i) = false
  · exact h.of_loadSame (bodyOf_loadSame hm s)
  cases i with
  | zoneSet z m sp =>
    dsimp only [bodyOf, cmdZoneSet]
    split
    next z m _ _ => exact endEvent_arb hQ (applyHostMode_arb hQ z (h.same (t := s.setZone z (zoneSetRec m (stepSetpoint sp.toInt) (s.zone z))) rfl))
    next => exact h
  | seats => exact endEvent_arb hQ (.foldl (fun _ z => seatCount_arb hQ z _) _ h)
  | nudge z d =>
    dsimp only [bodyOf, cmdNudge]
    split
    · dsimp only
      exact endEvent_arb hQ (reloadEvent_arb hQ _ _ (h.same rfl))
    · exact h
  | touch zs =>
    dsimp only [bodyOf, cmdTouch]
    split
    · exact h
    · exact endEvent_arb hQ (.foldl (fun _ z ht => .ite (reloadEvent_arb hQ .touch z ht) ht) _ h)
  | arbMode a b c d e =>
    dsimp only [bodyOf, cmdArbMode]
    split
    · dsimp only
      exact endEvent_arb hQ (setModes_event_arb hQ _ h)
    · exact h
  | arbOrder a ls =>
    dsimp only [bodyOf, cmdArbOrder]
    split
    · split
      next ho => exact applyOrder_arb hQ (.inl (orderOfCodes_perm ho)) h
      next => exact h
    · exact h
  | rotate a l =>
    dsimp only [bodyOf, cmdRotate]
    split
    next id line _ _ =>
      split
      · exact applyOrder_arb hQ (.inr (rotateOrder_perm line _)) h
      · exact h
    next => exact h
  | mask zs => exact absurd rfl (hi zs)
  | release z =>
    dsimp only [bodyOf, cmdRelease]
    split
    · dsimp only
      exact endEvent_arb hQ (withdraw_arb hQ _ h)
    · exact h
  | allowance w => exact allowanceMoved_arb hQ _ (h.same rfl)
  | clearLockout t =>
    dsimp only [bodyOf, cmdClearLockout]
    split
    next c _ =>
      have h1 : ArbHas Q (s.setComp c (clearComp s.partTime (s.comp c))) := h.same rfl
      dsimp only
      exact endEvent_arb hQ h1
    next =>
      have h1 : ArbHas Q (s.setHs (clearHeater s.partTime s.hs)) := h.same rfl
      dsimp only
      exact endEvent_arb hQ h1
    next => exact h
  | fuelPermit p =>
    dsimp only [bodyOf, cmdFuelPermit]
    split
    next on _ =>
      have h1 : ArbHas Q (s.setHs (setPermit s.partTime on s.hs)) := h.same rfl
      dsimp only
      exact endEvent_arb hQ h1
    next => exact h
  | ventLimits v f => exact setLimits_arb hQ _ _ h
  | screen v =>
    dsimp only [bodyOf, cmdScreen]
    split
    · exact takeScreen_arb hQ _ h
    · exact h
  | park =>
    dsimp only [bodyOf, cmdPark]
    split
    · exact h
    · split
      · exact h
      · dsimp only [powerReply]
        exact windDown_arb hQ h
    all_goals split <;> exact h
  | depart m => exact .ite (h.same rfl) (endEvent_arb hQ (setDepart_arb hQ _ h))
  | profileLoad =>
    dsimp only [bodyOf, cmdProfileLoad]
    split
    · dsimp only
      exact applyProfile_arb hQ (ordersLawful_loadSettings _) h
    · exact h
  | _ => exact absurd rfl hm

theorem wakeByFrame_arb {s : State} (h : ArbHas Q s) : ArbHas Q (wakeByFrame s) :=
  .ite (endEvent_arb hQ (leaveForLayover_arb hQ h)) h

theorem resetEntry_arb {s : State} (h : ArbHas Q s) : ArbHas Q (resetEntry s) :=
  .ite (h.of_untouched (enterPower_untouched _ _)) (enterLayover_arb hQ h)

/-- Every event that moves plant, but the two resets, keeps what the arbiter's events keep. -/
theorem plantEvent_arb {i : Instr} (hm : movesPlant i = true) (hh : isHostCommand i = false) (hr : isReset i = false) {s t : State}
    (he : exec i s = .next t) (h : ArbHas Q s) : ArbHas Q t := by
  have due : ∀ {u : State} {c : Prop} [Decidable c], exec i s = .next (if c then u else s) → ArbHas Q u → ArbHas Q t := fun hu k => by
    cases he.symm.trans hu
    exact .ite k h
  have always : ∀ {u : State}, exec i s = .next u → ArbHas Q u → ArbHas Q t := fun hu k => by
    cases he.symm.trans hu
    exact k
  clear he
  cases i with
  | ignition on => exact always rfl (.ite h (endEvent_arb hQ (ignitionChanged_arb on h)))
  | doorEdge d => exact always rfl (endEvent_arb hQ (doorChanged_arb hQ d h))
  | flameLoss =>
    have h1 : ArbHas Q (s.setPins { s.pins with flame := false }) := h.same rfl
    exact due rfl (endEvent_arb hQ (h1.of_untouched (flameGoes_untouched _)))
  | sample c v => exact always rfl (sampleWork_arb hQ c v h)
  | periodExpiry => exact due rfl (periodWork_arb hQ h)
  | inactivityTimerExpiry z => exact due rfl (endEvent_arb hQ (timerExpired_arb hQ z h))
  | holdEnd e => exact due rfl (endEvent_arb hQ (.arbEvent (hQ.holdEnd _ e _ h.holds)))
  | fallback => exact due rfl (allowanceMoved_arb hQ _ (h.same rfl))
  | stagingCheck => exact due rfl (endEvent_arb hQ (stagingWork_arb hQ h))
  | startingExpiry c =>
    have h1 : ArbHas Q (s.setComp c (runRec s.partTime (lowUsed s c) (s.comp c))) := h.same rfl
    exact due rfl (endEvent_arb hQ (reportCool_arb hQ h1))
  | unloadingExpiry c =>
    have h1 : ArbHas Q (s.setComp c (stopRec s.partTime (s.comp c))) := h.same rfl
    exact due rfl (endEvent_arb hQ (h1.of_untouched (restoreIfFell_untouched _ _)))
  | heatingCheck => exact due rfl (endEvent_arb hQ (heatingWork_arb hQ h))
  | ignitionExpiry => exact due rfl (endEvent_arb hQ (h.of_untouched (endIgnition_untouched s)))
  | purgeExpiry => exact due rfl (endEvent_arb hQ (endPurge_arb hQ h))
  | screenCheck => exact due rfl (endEvent_arb hQ (screenWork_arb hQ h))
  | ignitionOffExpiry => exact due rfl (endEvent_arb hQ (enterLayover_arb hQ h))
  | leadExpiry => exact due rfl (endEvent_arb hQ (reachLead_arb hQ h))
  | softReset => cases hr
  | powerOnReset pins => cases hr
  | _ => revert hm hh; exact nofun

end

/-- A completed frame keeps a property through the wake and its command's effect. -/
theorem completeFrame_arb {Q W : Arbiter → Prop} (hQ : ArbClosed Q) (hQW : ∀ a, Q a → W a) (rtype : Byte) {body : CommandBody}
    (hb : ∀ s, ArbHas Q s → ArbHas W (body s).1) {s : State} (h : ArbHas Q s) : ArbHas W (completeFrame rtype body s) := by
  have h1 := wakeByFrame_arb hQ h
  have h2 := hb _ h1
  exact .ite ⟨hQW _ h1.holds⟩ (h2.same rfl)

/-- Every step keeps a property of the arbiter that its events, a new mask set and the resets keep. `Q` may be stronger than the `W`
that follows, for what a new mask set weakens. -/
theorem exec_arb {Q W : Arbiter → Prop} (hQ : ArbClosed Q) (hW : ArbClosed W) (hQW : ∀ a, Q a → W a)
    (hmask : ∀ now m a, Q a → W (setMasks now m a).arb) (hreset : ∀ g, ordersLawful g.orders → W (resetArbiter g)) {i : Instr} {s t : State}
    (he : exec i s = .next t) (h : ArbHas Q s) : ArbHas W t := by
  have weaken : ∀ {u}, ArbHas Q u → ArbHas W u := fun k => ⟨hQW _ k.holds⟩
  have hbody : ∀ {body}, FrameBody body → ∀ s, ArbHas Q s → ArbHas W (body s).1 := by
    intro body hb u hu
    cases hb with
    | answer f => exact weaken hu
    | command j =>
      by_cases hj : ∃ zs, j = .mask zs
      · obtain ⟨zs, rfl⟩ := hj
        dsimp only [bodyOf, cmdMask]
        split
        · have h1 : ArbHas W (arbEvent (setMasks u.partTime (zonesOfSet zs)) u) := .arbEvent (hmask _ _ _ hu.holds)
          dsimp only
          exact endEvent_arb hW h1
        · exact weaken hu
      · exact weaken (bodyOf_arb hQ (fun zs hz => hj ⟨zs, hz⟩) hu)
  have hfresh : ∀ now pins rate cs hs, ArbHas W (resetBlocks now pins rate cs hs s) := fun _ _ _ _ _ =>
    ⟨hreset _ (ordersLawful_loadSettings _)⟩
  rcases exec_split i s with ⟨u, rtype, body, hu, hb, hx⟩ | ⟨u, hx, hu⟩ | ⟨hm, hh⟩
  · cases he.symm.trans hx
    exact completeFrame_arb hQ hQW rtype (hbody hb) (h.of_loadSame hu)
  · cases he.symm.trans hx
    exact weaken (h.of_loadSame hu)
  · by_cases hr : isReset i = false
    · exact weaken (plantEvent_arb hQ hm hh hr he h)
    · cases i with
      | softReset =>
        cases he
        exact .ite (shedTest_arb hW (resetEntry_arb hW (hfresh _ _ _ _ _))) (weaken h)
      | powerOnReset pins =>
        cases he
        exact resetEntry_arb hW (hfresh _ _ _ _ _)
      | _ => exact absurd rfl hr

/-! ## A masked zone never gains tokens (R59) -/

/-- What a new mask set leaves masked holds no more than it did. -/
theorem setMasks_maskedAtMost (now : Nat) (m : PerZone Bool) (z : Zone) {n : Nat} {a : Arbiter} (h : (a.entry (.zone z)).held ≤ n) :
    MaskedAtMost (.zone z) n (setMasks now m a).arb := by
  have he : ∀ zones, zones = a.table.zones.map (fun z e => { e with masked := m.get z }) →
      MaskedAtMost (.zone z) n { a with table := { a.table with zones := zones } } := by
    intro zones hz _
    subst hz
    change ((a.table.zones.map fun z (e : GrantEntry) => { e with masked := m.get z }).get z).held ≤ n
    rw [PerZone.get_map]
    exact h
  unfold setMasks
  dsimp only
  split
  · exact (maskedAtMost_tokens (.zone z) n now).servePass (he _ rfl)
  · exact he _ rfl

/-- Settles O57: held tokens of a masked entry are bounded through every event of the arbiter, `ArbClosed`. -/
theorem maskedZonesNeverGain : Obligations.MaskedZonesNeverGain := by
  intro i z s t he hs ht
  have h0 : ArbHas (fun a => (a.entry (.zone z)).masked = true ∧ MaskedAtMost (.zone z) (s.ca.entry (.zone z)).held a) s :=
    ⟨⟨hs, fun _ => le_rfl⟩⟩
  refine (exec_arb ((masked_closed _).and (maskedAtMost_closed _ _)) (maskedAtMost_closed _ _) (fun _ h => h.2) (fun now m a h => ?_)
    (fun g _ hz => ?_) he h0).holds ht
  · exact setMasks_maskedAtMost now m z (h.2 h.1)
  · cases z <;> cases hz

end Sys2Proof.Machine

namespace Sys2Proof.Machine

/-! ## Output pins (R60, R94, R117, R133, R136, R139) -/

/-- The fan outputs of a compressor record: half while the contactor is closed, full too with the throttle set (R94, R103). -/
theorem fanOutputs (r : CompRec) : fanHalfOutput (fanSpeed r) = compCounted r.state ∧
    fanFullOutput (fanSpeed r) = (compCounted r.state && r.throttle) := by
  unfold fanSpeed contactorClosed
  cases compCounted r.state with
  | false => exact ⟨rfl, rfl⟩
  | true => cases r.throttle <;> exact ⟨rfl, rfl⟩

theorem valvePosition_eq (a : Arbiter) (k : TokenKind) (z : Zone) {own : Nat}
    (h : own = 25 * (if (a.entry (.zone z)).kind = kindOf k then (a.entry (.zone z)).held else 0)) :
    valvePosition a k z = if z = .u1 then min 100 (own + 25 * (a.entry (screenEntry k)).held) else own := by
  subst h
  cases z <;> rfl

/-- Settles O50: each pin is a function of its owner's record, and a zone's two valves are `valvePosition` of the two kinds. -/
theorem outputsFollowState : Obligations.OutputsFollowState := by
  rintro s o rfl
  refine ⟨fun c => ?_, fun z => PerZone.get_map _ _ z, fun z e he cool hc heat hh => ?_, rfl, ?_, rfl, rfl, rfl⟩
  · have hf := fanOutputs (s.comp c)
    exact ⟨PerComp.get_map _ _ c, (PerComp.get_map _ _ c).trans hf.1, (PerComp.get_map _ _ c).trans hf.2⟩
  · subst he
    exact ⟨(PerZone.get_map _ _ z).trans (valvePosition_eq s.ca .cool z hc), (PerZone.get_map _ _ z).trans (valvePosition_eq s.ca .heat z hh)⟩
  · change runRequest s.hs = _
    unfold runRequest
    cases s.hs.heater <;> rfl

/-! ## The laws at the reset values -/

theorem arbiterLawful_reset : arbiterLawful State.reset := by
  have hlaw : ∀ i, entryLawful (State.reset.ca.entry i) ∧ isShort (State.reset.ca.entry i) = false := by
    intro i
    obtain ⟨k, hk⟩ := reset_entry i
    rw [hk]
    exact ⟨⟨le_rfl, Nat.zero_le _, fun _ => rfl, iff_of_true rfl rfl⟩, rfl⟩
  refine ⟨⟨.refl _, .refl _, .refl _⟩, ⟨fun i => (hlaw i).1, rfl, rfl⟩, fun k => ?_, ⟨List.nodup_nil, fun i => ?_⟩, rfl, rfl⟩
  · cases k <;> exact le_rfl
  · rw [(hlaw i).2]
    exact ⟨nofun, nofun⟩

theorem loadLawful_reset : loadLawful State.reset := by
  refine ⟨List.nodup_nil, fun z => ?_, ⟨nofun, nofun, nofun⟩, by decide⟩
  obtain ⟨door, hz⟩ := reset_zone z
  unfold blowerLawful
  rw [reset_blower, hz]
  exact ⟨.inr rfl, fun _ => rfl, nofun, nofun⟩

theorem handoffsLawful_reset : handoffsLawful State.reset := by
  refine ⟨fun z => ?_, ⟨rfl, rfl⟩, rfl, rfl, rfl⟩
  cases z <;> exact ⟨rfl, rfl, rfl⟩

/-- Settles O51, law by law at the reset records. -/
theorem lawsHoldAtReset : Obligations.LawsHoldAtReset := by
  refine ⟨arbiterLawful_reset, ⟨by decide, by decide, by decide⟩, ⟨by decide, trivial⟩, ?_, loadLawful_reset, handoffsLawful_reset, nofun,
    nofun, nofun, nofun⟩
  exact ⟨by decide, by decide, by decide, by decide, by decide, by decide⟩

end Sys2Proof.Machine

namespace Sys2Proof.Machine

/-! ## The saloon ranking as a list without repetition (R45) -/

theorem zoneRanking_perm {o : Orders} (h : ordersLawful o) : (zoneRanking o).Perm Zone.all := by
  obtain ⟨hs, hl, hu⟩ := h
  have hlines : (zoneRanking o).Perm (.e :: (o.lower.filterMap zoneOfLine ++ (o.upper.filterMap zoneOfLine ++ []))) := hs.flatMap_right _
  exact hlines.trans (((hl.filterMap _).append ((hu.filterMap _).append_right _)).cons _)

theorem nodup_ranking {o : Orders} (h : ordersLawful o) : (ranking o).Nodup := by
  have hp : (ranking o).Perm (.scc :: .sch :: Zone.all.map EntryId.zone) := (((zoneRanking_perm h).map _).cons _).cons _
  exact hp.nodup_iff.2 (by decide)

/-- The ranks of a list without repetition rise along it. -/
theorem pairwise_idxOf {α : Type} [BEq α] [LawfulBEq α] {l : List α} (h : l.Nodup) : l.Pairwise fun x y => l.idxOf x < l.idxOf y := by
  rw [List.pairwise_iff_getElem]
  intro i j hi hj hij
  rwa [h.idxOf_getElem, h.idxOf_getElem]

/-- What a search finds stands before everything else that it could have found. -/
theorem find?_idxOf_le {α : Type} [BEq α] [LawfulBEq α] {l : List α} {p : α → Bool} {x y : α} (h : l.find? p = some x) (hy : p y = true) :
    l.idxOf x ≤ l.idxOf y := by
  induction l with
  | nil => cases h
  | cons z l ih =>
    rw [List.find?_cons] at h
    rw [List.idxOf_cons, List.idxOf_cons]
    split at h
    next => simp [Option.some.inj h]
    next hz =>
      have hne : (z == y) = false := by
        rw [beq_eq_false_iff_ne]
        rintro rfl
        exact Bool.false_ne_true (hz.symm.trans hy)
      rw [hne]
      cases z == x
      · exact Nat.succ_le_succ (ih h)
      · exact Nat.zero_le _

/-- A search along a list sorted by a relation finds an entry that is related to every other it could have found. -/
theorem find?_pairwise {α : Type} {R : α → α → Prop} {l : List α} {p : α → Bool} {x y : α} (hl : l.Pairwise R) (h : l.find? p = some x)
    (hy : y ∈ l) (hp : p y = true) : y = x ∨ R x y := by
  obtain ⟨-, as, bs, rfl, has⟩ := List.find?_eq_some_iff_append.1 h
  rcases List.mem_append.1 hy with hy | hy
  · exact absurd hp (by simpa using has y hy)
  · rcases List.mem_cons.1 hy with rfl | hy
    · exact .inl rfl
    · exact .inr (List.rel_of_pairwise_cons (List.pairwise_append.1 hl).2.1 hy)

/-- The entries from the lowest-ranked up, by falling rank. -/
theorem pairwise_reverse_ranking {o : Orders} (h : ordersLawful o) :
    (ranking o).reverse.Pairwise fun x y => (ranking o).idxOf y < (ranking o).idxOf x :=
  List.pairwise_reverse.2 (pairwise_idxOf (nodup_ranking h))

/-- A search from the lowest-ranked entry up finds the lowest-ranked one. -/
theorem find?_reverse_ranking {o : Orders} (h : ordersLawful o) {p : EntryId → Bool} {x y : EntryId}
    (hx : (ranking o).reverse.find? p = some x) (hy : p y = true) : (ranking o).idxOf y ≤ (ranking o).idxOf x := by
  rcases find?_pairwise (pairwise_reverse_ranking h) hx (List.mem_reverse.2 (mem_ranking h y)) hy with rfl | hlt
  · exact le_rfl
  · exact hlt.le

/-! ## Who is served next (R50, R51) -/

theorem nextServed_none {k : TokenKind} {a : Arbiter} (ho : ordersLawful a.orders) (h : nextServed k a = none) {j : EntryId}
    (hj : servable k a j = true) : a.modes.nesting = .openNest ∧ j ∉ a.queue := by
  unfold nextServed at h
  split at h
  · exact absurd hj (List.find?_eq_none.1 h j (mem_ranking ho j))
  · exact absurd hj (List.find?_eq_none.1 h j (mem_ranking ho j))
  next hn =>
    split at h
    · cases h
    · exact ⟨hn, fun hq => List.find?_eq_none.1 h j hq hj⟩

theorem nextServed_ranked {k : TokenKind} {a : Arbiter} {i : EntryId} (h : nextServed k a = some i) (hn : a.modes.nesting ≠ .openNest) :
    (ranking a.orders).find? (servable k a) = some i := by
  unfold nextServed at h
  split at h
  · exact h
  · exact h
  next ho => exact absurd ho hn

theorem nextServed_open {k : TokenKind} {a : Arbiter} {i : EntryId} (h : nextServed k a = some i) (hn : a.modes.nesting = .openNest)
    (hi : i ≠ screenEntry k) : servable k a (screenEntry k) = false ∧ a.queue.find? (servable k a) = some i := by
  unfold nextServed at h
  rw [hn] at h
  dsimp only at h
  split at h
  · exact absurd (Option.some.inj h).symm hi
  next hs => exact ⟨Bool.eq_false_iff.2 hs, h⟩

/-! ## What a serve pass leaves free (R50, R51) -/

/-- A pool with no free token or with no entry that it could serve. -/
def Exhausted (k : TokenKind) (a : Arbiter) : Prop := a.free k = 0 ∨ ∀ i, servable k a i = false

theorem BooksLawful.nothing_servable {a : Arbiter} (h : BooksLawful a) {k : TokenKind} (hn : nextServed k a = none) (i : EntryId) :
    servable k a i = false := by
  rw [Bool.eq_false_iff]
  intro hi
  exact (nextServed_none h.orders hn hi).2 ((h.queue.2 i).2 ((servable_iff k a i).1 hi).2.1)

theorem free_gainToken {k : TokenKind} {a : Arbiter} {i : EntryId} (now : Nat) (h : (a.entry i).kind = kindOf k) :
    (gainToken now i a).free k = a.free k - 1 := by
  unfold Arbiter.free
  rw [(gainToken_requests now i a).capacity, heldTotal_gainToken, if_pos h]
  omega

theorem distribute_exhausted (now : Nat) (k : TokenKind) (n : Nat) {a : Arbiter} (h : BooksLawful a) (hn : a.free k ≤ n) :
    Exhausted k (distribute now k n a) := by
  induction n generalizing a with
  | zero => exact .inl (Nat.le_zero.1 hn)
  | succ n ih =>
    unfold distribute
    split
    next i hi =>
      obtain ⟨hk, hs, -⟩ := (servable_iff k a i).1 (nextServed_servable hi)
      refine ih (gainToken_books h hs) ?_
      rw [free_gainToken now hk]
      omega
    next hnone => exact .inr (h.nothing_servable hnone)

/-- A preemption step moves a token within the pool, so none becomes free. -/
theorem free_preemptStep {k : TokenKind} {a : Arbiter} {r v : EntryId} (now : Nat) (h : BooksLawful a)
    (hr : servable k (loseToken v a) r = true) (hv : 0 < heldOfKind k (a.entry v)) (hfree : a.free k = 0) :
    (gainToken now r (loseToken v a)).free k = 0 := by
  obtain ⟨hvk, hvp⟩ := held_pos_of_heldOfKind hv
  have hl := heldTotal_loseToken (h.entry v) hvp k
  rw [if_pos hvk] at hl
  rw [free_gainToken now ((servable_iff k _ r).1 hr).1]
  unfold Arbiter.free at hfree ⊢
  rw [(loseToken_requests v a).capacity]
  omega

theorem preempt_exhausted (now : Nat) (k : TokenKind) (n : Nat) {a : Arbiter} (h : BooksLawful a) (he : Exhausted k a) :
    Exhausted k (preempt now k n a).1 := by
  induction n generalizing a with
  | zero => exact he
  | succ n ih =>
    rcases preempt_succ (now := now) (k := k) (a := a) n with hq | ⟨r, v, hr, hv, hfree, hq⟩ <;> rw [hq]
    · exact he
    · refine ih (gainToken_books (loseToken_books h (held_pos_of_heldOfKind hv).2) ((servable_iff k _ r).1 hr).2.1) (.inl ?_)
      exact free_preemptStep now h hr hv hfree

/-- Rewriting an entry of one kind leaves the other pool's exhaustion. -/
theorem exhausted_of_entry {j : TokenKind} {a b : Arbiter} {i : EntryId} {e : GrantEntry} (hb : ∀ x, b.entry x = if x = i then e else a.entry x)
    (hc : b.capacity j = a.capacity j) (hk : (a.entry i).kind ≠ kindOf j) (he : e.kind = (a.entry i).kind) (h : Exhausted j a) :
    Exhausted j b := by
  have hheld : ∀ x, heldOfKind j (b.entry x) = heldOfKind j (a.entry x) := by
    intro x
    rw [hb]
    split
    next hx => rw [heldOfKind_of_ne (he.trans_ne hk), hx, heldOfKind_of_ne hk]
    next => rfl
  rcases h with h | h
  · left
    have ht : b.heldTotal j = a.heldTotal j := by simp only [Arbiter.heldTotal_eq, hheld]
    unfold Arbiter.free at h ⊢
    rwa [hc, ht]
  · right
    intro x
    rw [Bool.eq_false_iff, ne_eq, servable_iff, hb]
    split
    next => exact fun hx => hk (he.symm.trans hx.1)
    next => rw [← servable_iff, h x]; decide

theorem exhausted_otherPool {j k : TokenKind} (hjk : kindOf k ≠ kindOf j) (now : Nat) : PoolClosed now k (Exhausted j) where
  gain {i a} hs h := exhausted_of_entry (fun x => gainToken_entry now i x a) ((gainToken_requests now i a).capacity j)
    (((servable_iff k a i).1 hs).1.trans_ne hjk) rfl h
  lose {i a} hp h := exhausted_of_entry (fun x => loseToken_entry i x a) ((loseToken_requests i a).capacity j)
    ((held_pos_of_heldOfKind hp).1.trans_ne hjk) rfl h

theorem servePool_exhausted (now : Nat) (k : TokenKind) {a : Arbiter} (h : BooksLawful a) (hp : poolsLawful a) :
    Exhausted k (servePool now k a).1 := by
  refine preempt_exhausted now k _ (distribute_lawful now k _ h hp ?_).1 (distribute_exhausted now k _ h le_rfl)
  have := hp k
  unfold Arbiter.free
  omega

/-- After a serve pass over a lawful arbiter neither pool has both a free token and an entry that it could serve (R50, R51). -/
theorem servePass_exhausted (now : Nat) {a : Arbiter} (h : BooksLawful a) (hp : poolsLawful a) (k : TokenKind) :
    Exhausted k (servePass now a).arb := by
  rw [servePass_arb]
  obtain ⟨hb, hq⟩ := servePool_lawful now .cool h hp
  cases k with
  | cool => exact (exhausted_otherPool (by decide) now).servePool (servePool_exhausted now .cool h hp)
  | heat => exact servePool_exhausted now .heat hb hq

end Sys2Proof.Machine

namespace Sys2Proof.Machine

/-! ## Who takes from whom (R52, R53) -/

theorem deckLine_mem_lower {o : Orders} (h : ordersLawful o) (z : Zone) : deckLineOf z ∈ o.lower ↔ saloonLineOf z = .lower := by
  rw [h.2.1.mem_iff]
  cases z <;> decide

theorem deckLine_mem_upper {o : Orders} (h : ordersLawful o) (z : Zone) : deckLineOf z ∈ o.upper ↔ saloonLineOf z = .upper := by
  rw [h.2.2.mem_iff]
  cases z <;> decide

/-- Whether a zone holds a token of a kind, read off its entry. -/
def holdsToken (k : TokenKind) (a : Arbiter) (z : Zone) : Bool :=
  decide ((a.entry (.zone z)).kind = kindOf k) && decide (0 < (a.entry (.zone z)).held)

theorem holdsToken_iff (k : TokenKind) (a : Arbiter) (z : Zone) : holdsToken k a z = true ↔ 0 < heldOfKind k (a.entry (.zone z)) := by
  unfold holdsToken heldOfKind
  split
  next h => simp [h]
  next h => simp [h]

/-- Whether a zone's tokens may go to another zone, by their age and by the places of both in the orders (R42, R53). -/
def openTo (now : Nat) (a : Arbiter) (v y : Zone) : Bool :=
  (a.entry (.zone v)).since.all (fun t0 => decide (t0 + a.modes.hold ≤ now)) &&
    match a.modes.nesting with
    | .strict => belowIn a.orders.saloon (saloonLineOf v) (saloonLineOf y)
    | .level =>
      belowIn a.orders.saloon (saloonLineOf v) (saloonLineOf y) ||
        (decide (deckLineOf v ∈ a.orders.lower ∧ deckLineOf y ∈ a.orders.lower) &&
          belowIn a.orders.lower (deckLineOf v) (deckLineOf y)) ||
        (decide (deckLineOf v ∈ a.orders.upper ∧ deckLineOf y ∈ a.orders.upper) &&
          belowIn a.orders.upper (deckLineOf v) (deckLineOf y))
    | .openNest => false

/-- Whether a requester may take a token from a zone (R52, R53). -/
def mayTake (now : Nat) (k : TokenKind) (a : Arbiter) (r : EntryId) (v : Zone) : Bool :=
  holdsToken k a v && decide (r ≠ .zone v) &&
    match r with
    | .scc | .sch => true
    | .zone y => openTo now a v y

theorem not_isProtected (now hold : Nat) (e : GrantEntry) :
    (!isProtected now hold e) = e.since.all (fun t0 => decide (t0 + hold ≤ now)) := by
  unfold isProtected
  cases e.since with
  | none => rfl
  | some t => simp [← decide_not]

/-- Under Level, two zones of one deck compare by their deck order, and no others do (R53). -/
theorem nestingAllows_eq {now : Nat} {a : Arbiter} (ho : ordersLawful a.orders) (v y : Zone) :
    (!isProtected now a.modes.hold (a.entry (.zone v)) && nestingAllows a y v) = openTo now a v y := by
  unfold openTo
  rw [not_isProtected]
  congr 1
  unfold nestingAllows
  cases a.modes.nesting with
  | strict => rfl
  | openNest => rfl
  | level =>
    simp only [deckLine_mem_lower ho, deckLine_mem_upper ho, Bool.or_assoc]
    congr 1
    cases hy : saloonLineOf y <;> cases hv : saloonLineOf v <;> simp

theorem eligible_zone {now : Nat} {k : TokenKind} {a : Arbiter} (ho : ordersLawful a.orders) (r : EntryId) (v : Zone) :
    eligible now k a r (.zone v) = mayTake now k a r v := by
  have hholds : decide (0 < heldOfKind k (a.entry (.zone v))) = holdsToken k a v := by
    rw [Bool.eq_iff_iff, holdsToken_iff, decide_eq_true_iff]
  have hne : (r != .zone v) = decide (r ≠ .zone v) := by rw [Bool.eq_iff_iff, bne_iff_ne, decide_eq_true_iff]
  unfold eligible mayTake
  dsimp only
  rw [hholds, hne, Bool.and_comm (decide (r ≠ .zone v))]
  cases r with
  | scc => rfl
  | sch => rfl
  | zone y => exact congrArg _ (nestingAllows_eq ho v y)

theorem victimOf_some {now : Nat} {k : TokenKind} {a : Arbiter} (ho : ordersLawful a.orders) {r v : EntryId}
    (h : victimOf now k a r = some v) :
    ∃ z, v = .zone z ∧ mayTake now k a r z = true ∧
      ∀ y, mayTake now k a r y = true → (ranking a.orders).idxOf (.zone y) ≤ (ranking a.orders).idxOf v := by
  have hv := List.find?_some h
  cases v with
  | scc => cases hv
  | sch => cases hv
  | zone z => exact ⟨z, rfl, eligible_zone ho r z ▸ hv, fun y hy => find?_reverse_ranking ho h (eligible_zone ho r y ▸ hy)⟩

theorem victimOf_eq_none {now : Nat} {k : TokenKind} {a : Arbiter} (ho : ordersLawful a.orders) {r : EntryId} :
    victimOf now k a r = none ↔ ∀ z, mayTake now k a r z = false := by
  unfold victimOf
  rw [List.find?_eq_none]
  constructor
  · intro h z
    rw [← eligible_zone ho]
    exact Bool.eq_false_iff.2 (h _ (List.mem_reverse.2 (mem_ranking ho _)))
  · intro h v _
    cases v with
    | scc => exact Bool.false_ne_true
    | sch => exact Bool.false_ne_true
    | zone z => rw [eligible_zone ho, h z]; exact Bool.false_ne_true

theorem victimOf_isSome {now : Nat} {k : TokenKind} {a : Arbiter} (ho : ordersLawful a.orders) {r : EntryId} :
    (victimOf now k a r).isSome = true ↔ ∃ z, mayTake now k a r z = true := by
  rw [Option.isSome_iff_ne_none, ne_eq, victimOf_eq_none ho]
  simp

theorem requesterOf_none {now : Nat} {k : TokenKind} {a : Arbiter} (ho : ordersLawful a.orders) (h : requesterOf now k a = none)
    {r : EntryId} (hr : servable k a r = true) (z : Zone) : mayTake now k a r z = false := by
  have hn := List.find?_eq_none.1 h r (mem_ranking ho r)
  rw [hr, Bool.true_and, victimOf_isSome ho] at hn
  exact Bool.eq_false_iff.2 fun hz => hn ⟨z, hz⟩

theorem requesterOf_some {now : Nat} {k : TokenKind} {a : Arbiter} (ho : ordersLawful a.orders) {r : EntryId}
    (h : requesterOf now k a = some r) :
    servable k a r = true ∧ (∃ z, mayTake now k a r z = true) ∧
      ∀ q, servable k a q = true → (ranking a.orders).idxOf q < (ranking a.orders).idxOf r → ∀ z, mayTake now k a q z = false := by
  have hp : (servable k a r && (victimOf now k a r).isSome) = true :=
    List.find?_some (p := fun r => servable k a r && (victimOf now k a r).isSome) h
  obtain ⟨hs, hv⟩ := Bool.and_eq_true_iff.1 hp
  refine ⟨hs, (victimOf_isSome ho).1 hv, fun q hq hlt z => Bool.eq_false_iff.2 fun hz => ?_⟩
  have hle := find?_idxOf_le h (y := q) (Bool.and_eq_true_iff.2 ⟨hq, (victimOf_isSome ho).2 ⟨z, hz⟩⟩)
  omega

/-! ## Who loses a token in a reclaim (R56, R57) -/

theorem mem_holders_iff {k : TokenKind} {a : Arbiter} (ho : ordersLawful a.orders) (i : EntryId) :
    i ∈ holdersLowestFirst k a ↔ ∃ z, i = .zone z ∧ holdsToken k a z = true := by
  constructor
  · intro h
    have hz := (Bool.and_eq_true_iff.1 (List.mem_filter.1 h).2).1
    cases i with
    | scc => cases hz
    | sch => cases hz
    | zone z => exact ⟨z, rfl, (holdsToken_iff k a z).2 (mem_holdersLowestFirst h)⟩
  · rintro ⟨z, rfl, hz⟩
    exact zone_mem_holdersLowestFirst ho ((holdsToken_iff k a z).1 hz)

/-- The most recent of a list sorted by a relation: no other is newer, and of the equally new it comes first. -/
theorem mostRecent_pairwise {a : Arbiter} {R : EntryId → EntryId → Prop} {l : List EntryId} {i j : EntryId} (hl : l.Pairwise R)
    (h : mostRecent a l = some i) (hj : j ∈ l) :
    (a.entry j).since.getD 0 < (a.entry i).since.getD 0 ∨
      ((a.entry j).since.getD 0 = (a.entry i).since.getD 0 ∧ (j = i ∨ R i j)) := by
  induction l generalizing i with
  | nil => cases hj
  | cons x l ih =>
    unfold mostRecent at h
    rw [List.pairwise_cons] at hl
    split at h
    next hn =>
      cases h
      rw [mostRecent_eq_none hn, List.mem_singleton] at hj
      exact .inr ⟨by rw [hj], .inl hj⟩
    next m hm =>
      have hmem : m ∈ l := mostRecent_mem hm
      split at h
      next hlt =>
        cases h
        rcases List.mem_cons.1 hj with rfl | hj
        · exact .inl hlt
        · exact ih hl.2 hm hj
      next hge =>
        cases h
        rcases List.mem_cons.1 hj with rfl | hj
        · exact .inr ⟨rfl, .inl rfl⟩
        · rcases ih hl.2 hm hj with hlt | ⟨heq, -⟩
          · exact .inl (by omega)
          · rcases Nat.lt_or_ge ((a.entry j).since.getD 0) ((a.entry x).since.getD 0) with hlt | hle
            · exact .inl hlt
            · exact .inr ⟨by omega, .inr (hl.1 j hj)⟩

theorem pairwise_holders {k : TokenKind} {a : Arbiter} (ho : ordersLawful a.orders) :
    (holdersLowestFirst k a).Pairwise fun x y => (ranking a.orders).idxOf y < (ranking a.orders).idxOf x :=
  (pairwise_reverse_ranking ho).filter _

theorem reclaimVictim_screen {k : TokenKind} {a : Arbiter} (ho : ordersLawful a.orders) (h : ∀ z, holdsToken k a z = false) :
    reclaimVictim k a = screenEntry k := by
  have hnone : holdersLowestFirst k a = [] := List.eq_nil_iff_forall_not_mem.2 fun i hi => by
    obtain ⟨z, -, hz⟩ := (mem_holders_iff ho i).1 hi
    exact Bool.false_ne_true ((h z).symm.trans hz)
  unfold reclaimVictim
  rw [hnone]
  cases a.modes.nesting <;> rfl

theorem reclaimVictim_zone {k : TokenKind} {a : Arbiter} (ho : ordersLawful a.orders) {x : Zone} (hx : holdsToken k a x = true) :
    ∃ z, reclaimVictim k a = .zone z ∧ holdsToken k a z = true ∧
      (a.modes.nesting ≠ .openNest → ∀ y, holdsToken k a y = true →
        (ranking a.orders).idxOf (.zone y) ≤ (ranking a.orders).idxOf (.zone z)) ∧
      (a.modes.nesting = .openNest → ∀ y, holdsToken k a y = true → ∀ t0 t1, (a.entry (.zone z)).since = some t0 →
        (a.entry (.zone y)).since = some t1 →
          t1 < t0 ∨ (t1 = t0 ∧ (ranking a.orders).idxOf (.zone y) ≤ (ranking a.orders).idxOf (.zone z))) := by
  have hmem : ∀ {y}, holdsToken k a y = true → .zone y ∈ holdersLowestFirst k a := fun hy => (mem_holders_iff ho _).2 ⟨_, rfl, hy⟩
  by_cases hn : a.modes.nesting = .openNest
  · have hv : reclaimVictim k a = (mostRecent a (holdersLowestFirst k a)).getD (screenEntry k) := by
      unfold reclaimVictim
      rw [hn]
    cases hm : mostRecent a (holdersLowestFirst k a) with
    | none => exact absurd (mostRecent_eq_none hm ▸ hmem hx) List.not_mem_nil
    | some i =>
      obtain ⟨z, rfl, hz⟩ := (mem_holders_iff ho i).1 (mostRecent_mem hm)
      refine ⟨z, by rw [hv, hm]; rfl, hz, fun hc => absurd hn hc, fun _ y hy t0 t1 h0 h1 => ?_⟩
      have hr := mostRecent_pairwise (pairwise_holders ho) hm (hmem hy)
      rw [h0, h1] at hr
      rcases hr with hlt | ⟨heq, hyz | hlt⟩
      · exact .inl hlt
      · exact .inr ⟨heq, by rw [hyz]⟩
      · exact .inr ⟨heq, hlt.le⟩
  · have hv : reclaimVictim k a = (holdersLowestFirst k a).head?.getD (screenEntry k) := by
      unfold reclaimVictim
      cases hc : a.modes.nesting with
      | strict => rfl
      | level => rfl
      | openNest => exact absurd hc hn
    cases hm : holdersLowestFirst k a with
    | nil => exact absurd (hm ▸ hmem hx) List.not_mem_nil
    | cons i l =>
      obtain ⟨z, rfl, hz⟩ := (mem_holders_iff (k := k) ho i).1 (hm ▸ List.mem_cons_self)
      refine ⟨z, by rw [hv, hm]; rfl, hz, fun _ y hy => ?_, fun hc => absurd hc hn⟩
      have hp := pairwise_holders (k := k) ho
      rw [hm, List.pairwise_cons] at hp
      have hy' := hmem hy
      rw [hm] at hy'
      rcases List.mem_cons.1 hy' with hyz | hyl
      · rw [hyz]
      · exact (hp.1 _ hyl).le

/-! ## Rotation (R54) -/

theorem gainToken_orders (now : Nat) (i : EntryId) (a : Arbiter) :
    (gainToken now i a).orders =
      if (a.entry i).held + 1 < (a.entry i).wanted then a.orders
      else match i with
        | .zone z => rotateServed a.modes z a.orders
        | .scc | .sch => a.orders := by
  unfold gainToken
  dsimp only
  split
  · rfl
  · cases i <;> rfl

theorem rotateServed_eq (m : ArbModes) (z : Zone) (o : Orders) :
    (rotateServed m z o).saloon =
        (if m.saloon = .rotating then o.saloon.filter (· != saloonLineOf z) ++ [saloonLineOf z] else o.saloon) ∧
      (rotateServed m z o).lower =
        (if m.lower = .rotating ∧ (z = .l1 ∨ z = .l2) then o.lower.filter (· != deckLineOf z) ++ [deckLineOf z] else o.lower) ∧
      (rotateServed m z o).upper =
        (if m.upper = .rotating ∧ deckOf z = .upper then o.upper.filter (· != deckLineOf z) ++ [deckLineOf z] else o.upper) := by
  have saloon : ∀ o1 : Orders,
      (if m.saloon = .rotating then { o1 with saloon := moveToBottom (saloonLineOf z) o1.saloon } else o1) =
        ⟨if m.saloon = .rotating then o1.saloon.filter (· != saloonLineOf z) ++ [saloonLineOf z] else o1.saloon, o1.lower, o1.upper⟩ :=
    fun _ => by split <;> rfl
  unfold rotateServed
  dsimp only
  rw [saloon]
  cases z with
  | e => simp [deckOf]
  | l1 | l2 => by_cases hl : m.lower = .rotating <;> simp [hl, moveToBottom, deckOf]
  | u1 | u2 | u3 => by_cases hu : m.upper = .rotating <;> simp [hu, moveToBottom, deckOf]

/-- Settles O48: the searches of the model find first and last entries of the ranking, and a serve pass goes on until its pool is
exhausted. -/
theorem freeTokensServed : Obligations.FreeTokensServed := by
  refine ⟨?_, fun now a k ho ht hp hq => servePass_exhausted now ⟨ho, ht, hq⟩ hp k, ?_, ?_⟩
  · rintro now a k ho rank rfl
    refine ⟨fun hn => ⟨by simp [distribute, hn], fun j hj => nextServed_none ho hn hj⟩, fun i hi =>
      ⟨nextServed_servable hi, by simp [distribute, hi], fun hn j hj => find?_idxOf_le (nextServed_ranked hi hn) hj, fun hn hne => ?_⟩⟩
    obtain ⟨hs, hf⟩ := nextServed_open hi hn hne
    exact ⟨hs, List.mem_of_find?_eq_some hf, fun j _ hj => find?_idxOf_le hf hj⟩
  · rintro now a k ho - rank rfl holds rfl below rfl elig rfl
    refine ⟨fun r => ⟨(victimOf_eq_none ho).1, fun v => victimOf_some ho⟩, fun hn r hr => requesterOf_none ho hn hr,
      fun r => requesterOf_some ho, reclaimVictim_screen ho, fun ⟨x, hx⟩ => reclaimVictim_zone ho hx⟩
  · rintro now a i o rfl
    refine ⟨⟨?_, ?_, fun j hj => ?_⟩, fun h => ?_, fun z hz hw => ?_⟩
    · rw [gainToken_entry, if_pos rfl]; rfl
    · rw [gainToken_entry, if_pos rfl]; rfl
    · rw [gainToken_entry, if_neg hj]
    · rw [gainToken_orders]
      split
      · rfl
      next hge =>
        cases i with
        | scc => rfl
        | sch => rfl
        | zone z => exact h.elim (fun h => absurd rfl (h z)) fun h => absurd h hge
    · subst hz
      rw [gainToken_orders, if_neg (by omega)]
      exact rotateServed_eq a.modes z a.orders

end Sys2Proof.Machine

namespace Sys2Proof.Machine

/-! ## The end of an event in which the power state stays (R84, R157) -/

/-- A wind-down that is not over at the end of an event has only recorded its stopped reports. -/
theorem windDownReports_unended {s : State} (h : (windDownReports s).psc.power = s.psc.power) : (windDownReports s).ca = s.ca := by
  unfold windDownReports at h ⊢
  by_cases hw : s.psc.power = .windingDown
  · rw [if_pos hw, hw] at h
    rw [if_pos hw]
    dsimp only at h ⊢
    split at h
    · split at h
      · rw [(shedTest_plantOnly _).psc, leaveForRun_power] at h
        cases h
      · split at h
        · rw [(shedTest_plantOnly _).psc, leaveForLayover_power] at h
          cases h
        · cases h
    next hn => rw [if_neg hn]; rfl
  · rw [if_neg hw]

/-- Where the power state stays, the end of an event only brings capacity reports to the arbiter. -/
theorem endEvent_reports {now : Nat} {Q : Arbiter → Prop} (hQ : ReportClosed now Q) {s : State} (hn : s.partTime = now) (h : Q s.ca)
    (hp : (endEvent s).psc.power = s.psc.power) : Q (endEvent s).ca := by
  unfold endEvent at hp ⊢
  rw [windDownReports_unended (hp.trans (congrArg PowerCtl.power (shedTest_plantOnly s).psc).symm)]
  exact (shedTest_arbAt hQ ⟨hn, h⟩).holds

/-- Kind, number wanted and mask of every entry as in `a`. -/
def SameRequests (a b : Arbiter) : Prop :=
  ∀ i, (b.entry i).kind = (a.entry i).kind ∧ (b.entry i).wanted = (a.entry i).wanted ∧ (b.entry i).masked = (a.entry i).masked

theorem requestsKept_iff (s t : State) : requestsKept s t ↔ SameRequests s.ca t.ca := Iff.rfl

theorem sameRequests_of_stand {a b c : Arbiter} (h : SameRequests a b) (hr : RequestsStand b c) (hs : ArbSettingsStand b c) :
    SameRequests a c := fun i => by
  obtain ⟨hk, hw, hm⟩ := h i
  obtain ⟨hk', hw'⟩ := hr.request i
  exact ⟨hk'.trans hk, hw'.trans hw, (hs.masked i).trans hm⟩

theorem sameRequests_of_entry {a b : Arbiter} (h : ∀ i, ∃ p, b.entry i = { a.entry i with holdPending := p }) : SameRequests a b := fun i => by
  obtain ⟨p, hp⟩ := h i
  rw [hp]
  exact ⟨rfl, rfl, rfl⟩

theorem sameRequests_served {a b : Arbiter} (now : Nat) (h : SameRequests a b) : SameRequests a (servePass now b).arb :=
  sameRequests_of_stand h (servePass_stand now b).1 (servePass_stand now b).2

theorem sameRequests_reports (a : Arbiter) (now : Nat) : ReportClosed now (SameRequests a) := by
  intro k n b h
  have hset : SameRequests a (b.setCapacity k n) := fun i => by rw [Arbiter.entry_setCapacity]; exact h i
  obtain ⟨hr, hs⟩ := reportCapacity_stand now k n b
  intro i
  obtain ⟨hk, hw, -⟩ := hset i
  obtain ⟨hk', hw'⟩ := hr.request i
  exact ⟨hk'.trans hk, hw'.trans hw, (hs.masked i).trans (h i).2.2⟩

/-- An arbiter event that changes no request or mask, with the end of the event, changes none while the power state stays. -/
theorem endEvent_requestsKept {f : Arbiter → ArbResult} {s : State} (h : SameRequests s.ca (f s.ca).arb)
    (hp : (endEvent (arbEvent f s)).psc.power = s.psc.power) : requestsKept s (endEvent (arbEvent f s)) := by
  have hdone := arbEvent_done f s
  refine endEvent_reports (sameRequests_reports s.ca _) rfl ?_ (hp.trans (congrArg PowerCtl.power hdone.psc).symm)
  rw [hdone.ca]
  exact h

/-! ## Exhausted pools stay exhausted through capacity reports (R50, R56) -/

/-- A lawful arbiter in which neither pool has both a free token and an entry that it could serve. -/
structure ServedLawful (a : Arbiter) : Prop where
  books : BooksLawful a
  pools : poolsLawful a
  exhausted : ∀ k, Exhausted k a

theorem servePass_servedLawful (now : Nat) {a : Arbiter} (h : BooksLawful a) (hp : poolsLawful a) : ServedLawful (servePass now a).arb :=
  ⟨(servePass_lawful now h hp).1, (servePass_lawful now h hp).2, servePass_exhausted now h hp⟩

/-- A capacity that falls no lower than the tokens held frees none. -/
theorem exhausted_setCapacity {a : Arbiter} {j k : TokenKind} {n : Nat} (hn : n ≤ a.capacity k) (h : Exhausted j a) :
    Exhausted j (a.setCapacity k n) := by
  rcases h with h | h
  · left
    unfold Arbiter.free at h ⊢
    rw [(sameTokens_setCapacity a k n).heldTotal, Arbiter.capacity_setCapacity]
    split
    next hj => subst hj; omega
    next => exact h
  · right
    intro i
    rw [← h i]
    unfold servable
    rw [Arbiter.entry_setCapacity]

theorem servedLawful_reports (now : Nat) : ReportClosed now ServedLawful := by
  intro k n a h
  obtain ⟨hb, hp⟩ := reportCapacity_lawful now k n h.books h.pools
  rcases reportCapacity_cases now k n a with ⟨hr, hn, -⟩ | ⟨hr, hn⟩ | ⟨hr, hn⟩
  · refine ⟨hb, hp, fun j => ?_⟩
    rw [hr]
    exact exhausted_setCapacity hn (h.exhausted j)
  · rw [hr]
    refine servePass_servedLawful now (h.books.setCapacity k n) fun j => ?_
    rw [(sameTokens_setCapacity a k n).heldTotal, Arbiter.capacity_setCapacity]
    have := h.pools j
    split
    next hj => subst hj; omega
    next => exact this
  · have hset := sameTokens_setCapacity a k n
    obtain ⟨hbooks, hheld, hle⟩ := reclaim_lawful k (a.heldTotal k - n) (h.books.setCapacity k n) (by rw [hset.heldTotal]; omega)
    rw [hr]
    refine servePass_servedLawful now hbooks fun j => ?_
    rw [(reclaim_stand k _ _).1.capacity, Arbiter.capacity_setCapacity]
    rw [hset.heldTotal] at hheld
    split
    next hj => subst hj; omega
    next =>
      have := hle j
      rw [hset.heldTotal] at this
      exact this.trans (h.pools j)

/-! ## HOLD_END (R42) -/

/-- An entry's hold end is to come only where it gained now. -/
def GainedNow (now : Nat) (i : EntryId) (a : Arbiter) : Prop := (a.entry i).holdPending = true → (a.entry i).since = some now

theorem gainedNow_of_entry {now : Nat} {i j : EntryId} {a b : Arbiter} {e : GrantEntry} (hb : b.entry i = if i = j then e else a.entry i)
    (he : GainedNow now j a → e.holdPending = true → e.since = some now) (h : GainedNow now i a) : GainedNow now i b := by
  unfold GainedNow
  rw [hb]
  split
  next hij => exact he (hij ▸ h)
  next => exact h

theorem gainedNow_tokens (now : Nat) (i : EntryId) : TokensClosed now (GainedNow now i) where
  gain {k j a} _ h := gainedNow_of_entry (gainToken_entry now j i a) (fun _ _ => rfl) h
  lose {k j a} _ h := by
    refine gainedNow_of_entry (loseToken_entry j i a) (fun hj hp => ?_) h
    unfold lostEntry at hp ⊢
    dsimp only at hp ⊢
    split at hp
    · cases hp
    next hne => rw [if_neg hne]; exact hj hp

theorem gainedNow_ends (now : Nat) (i : EntryId) : EndClosed now (GainedNow now i) where
  report := (gainedNow_tokens now i).reportClosed fun k n a h => by
    unfold GainedNow
    rw [Arbiter.entry_setCapacity]
    exact h
  withdraw z a h := by
    rcases handRequest_withdrawn now z 0 a with ⟨hr, -⟩ | hr
    · rw [hr]; exact h
    · refine (gainedNow_tokens now i).servedOr ?_ hr
      exact gainedNow_of_entry (a.entry_setEntry (.zone z) i (emptiedEntry (a.entry (.zone z)))) (fun _ => nofun) h

theorem takeHoldEnd_entry (a : Arbiter) (i j : EntryId) :
    ∃ p, (a.setEntry i { a.entry i with holdPending := false }).entry j = { a.entry j with holdPending := p } := by
  rw [a.entry_setEntry]
  split
  next h => exact ⟨false, by rw [h]⟩
  next => exact ⟨_, rfl⟩

theorem takeHoldEnd_gainedNow (now : Nat) (i : EntryId) (a : Arbiter) : GainedNow now i (takeHoldEnd now i a).arb := by
  refine (gainedNow_tokens now i).servePass fun hp => ?_
  rw [Arbiter.entry_setEntry_self] at hp
  cases hp

theorem takeHoldEnd_servedLawful (now : Nat) (i : EntryId) {a : Arbiter} (h : BooksLawful a) (hp : poolsLawful a) :
    ServedLawful (takeHoldEnd now i a).arb := by
  have hsame : SameTokens a (a.setEntry i { a.entry i with holdPending := false }) := sameTokens_of_entry fun j => by
    obtain ⟨p, hj⟩ := takeHoldEnd_entry a i j
    exact ⟨_, p, hj⟩
  exact servePass_servedLawful now (hsame.books h rfl h.orders) (hsame.pools hp fun k => by cases k <;> rfl)

/-- Settles O40: the serve pass of a hold end, and what capacity reports after it keep. -/
theorem holdEndServes : Obligations.HoldEndServes := by
  refine fun i s => ⟨fun t0 h0 hpend hdue => ?_, fun h => ?_⟩
  · have htake : holdDue i s = true := by
      simp only [holdDue, isProtected, hpend, h0, Bool.true_and, Bool.not_eq_true', decide_eq_false_iff_not]
      omega
    have hdone := arbEvent_done (takeHoldEnd s.partTime i) s
    have hat : ArbAt s.partTime (GainedNow s.partTime i) (arbEvent (takeHoldEnd s.partTime i) s) :=
      ⟨hdone.partTime, hdone.ca ▸ takeHoldEnd_gainedNow s.partTime i s.ca⟩
    refine ⟨endEvent (arbEvent (takeHoldEnd s.partTime i) s), ?_, endEvent_plantStep (arbEvent_plantOnly _ s),
      (endEvent_arbAt (gainedNow_ends _ i) hat).holds, fun hp => ⟨endEvent_requestsKept ?_ hp, fun ho ht hl hq => ?_⟩⟩
    · exact congrArg Host.Outcome.next (if_pos htake)
    · exact sameRequests_served _ (sameRequests_of_entry (takeHoldEnd_entry s.ca i))
    · refine (endEvent_reports (servedLawful_reports _) rfl ?_ (hp.trans (congrArg PowerCtl.power hdone.psc).symm)).exhausted
      rw [hdone.ca]
      exact takeHoldEnd_servedLawful _ i ⟨ho, ht, hq⟩ hl
  · have hnot : holdDue i s = false := by
      unfold holdDue isProtected
      rcases h with h | ⟨t0, h0, hlt⟩
      · rw [h]; rfl
      · rw [h0]; simp [hlt]
    refine congrArg Host.Outcome.next (if_neg ?_)
    rw [hnot]
    exact Bool.false_ne_true

end Sys2Proof.Machine

namespace Sys2Proof.Machine

/-! ## What a formed reply leaves of a step beside it (R165) -/

theorem OutsideKept.withoutReply {s t : State} (h : OutsideKept s t) (hi : s.hlu.inHand = none) (rtype st : Byte) (fs : List Byte) :
    OutsideKept s (withoutReply (withReply rtype st fs t)) := by
  refine ⟨h.partTime, h.freeCount, h.pins, h.ssu, h.ps, h.pending, ?_⟩
  have hl := congrArg (fun l : HostLink => { l with inHand := none }) h.link
  have hs : ({ linkOf s.hlu with inHand := none } : HostLink) = linkOf s.hlu := by rw [← hi]; rfl
  exact hl.trans hs

theorem PlantStep.withoutReply {s t : State} (h : PlantStep s t) (hi : s.hlu.inHand = none) (rtype st : Byte) (fs : List Byte) :
    PlantStep s (withoutReply (withReply rtype st fs t)) :=
  ⟨h.toOutsideKept.withoutReply hi rtype st fs, h.other, h.winding, h.ended⟩

/-! ## Codes of modes, arbiters and lines (R178) -/

theorem priorityOfCode_of_le {n : Nat} (h : n ≤ 1) : ∃ p, priorityOfCode n = some p ∧ codeOfPriority p = n := by
  interval_cases n
  · exact ⟨.fixed, rfl, rfl⟩
  · exact ⟨.rotating, rfl, rfl⟩

theorem codeOfPriority_of_priorityOfCode {n : Nat} {p : PriorityMode} (h : priorityOfCode n = some p) : codeOfPriority p = n := by
  unfold priorityOfCode at h
  split at h <;> cases h <;> rfl

theorem nestingOfCode_of_le {n : Nat} (h : n ≤ 2) : ∃ p, nestingOfCode n = some p ∧ codeOfNesting p = n := by
  interval_cases n
  · exact ⟨.strict, rfl, rfl⟩
  · exact ⟨.level, rfl, rfl⟩
  · exact ⟨.openNest, rfl, rfl⟩

theorem codeOfNesting_of_nestingOfCode {n : Nat} {p : Nesting} (h : nestingOfCode n = some p) : codeOfNesting p = n := by
  unfold nestingOfCode at h
  split at h <;> cases h <;> rfl

theorem codeOfPriority_le (p : PriorityMode) : codeOfPriority p ≤ 1 := by cases p <;> decide

theorem codeOfNesting_le (p : Nesting) : codeOfNesting p ≤ 2 := by cases p <;> decide

theorem codeOfArbiter_of_arbiterOfCode {b : Byte} {a : ArbiterId} (h : arbiterOfCode b = some a) : codeOfArbiter a = b.toNat := by
  unfold arbiterOfCode at h
  split at h <;> cases h <;> exact Eq.symm ‹_›

theorem codeOfLine_toNat (l : Line) : (BitVec.ofNat 8 (codeOfLine l)).toNat = codeOfLine l := by cases l <;> rfl

theorem lineOfCode_codeOfLine (l : Line) : lineOfCode (codeOfLine l) = some l := by cases l <;> rfl

/-- An order's codes spell the order (R62). -/
theorem orderOfCodes_codes {a : ArbiterId} {ls : List Line} (h : ls.Perm (arbiterLines a)) :
    orderOfCodes a ((ls.map fun l => BitVec.ofNat 8 (codeOfLine l)).map BitVec.toNat) = some ls := by
  have hm : ∀ ls : List Line, ((ls.map fun l => BitVec.ofNat 8 (codeOfLine l)).map BitVec.toNat).mapM lineOfCode = some ls := by
    intro ls
    induction ls with
    | nil => rfl
    | cons l ls ih => rw [List.map_cons, List.map_cons, List.mapM_cons, codeOfLine_toNat, lineOfCode_codeOfLine, ih]; rfl
  have ho : isOrderOf a ls = true := by
    simp only [isOrderOf, Bool.and_eq_true, beq_iff_eq, List.all_eq_true, List.contains_iff_mem]
    exact ⟨h.length_eq, fun l hl => h.mem_iff.2 hl⟩
  unfold orderOfCodes
  rw [hm]
  exact if_pos ho

/-- Codes that spell an order are the bytes of its lines. -/
theorem bytes_of_orderOfCodes {a : ArbiterId} {codes : List Byte} {ls : List Line}
    (h : orderOfCodes a (codes.map BitVec.toNat) = some ls) : codes = ls.map fun l => BitVec.ofNat 8 (codeOfLine l) := by
  have hc := congrArg (List.map (BitVec.ofNat 8)) (codes_of_orderOfCodes h)
  rw [List.map_map, List.map_map] at hc
  have hid : codes.map (BitVec.ofNat 8 ∘ BitVec.toNat) = codes := by
    refine (List.map_congr_left fun b _ => ?_).trans codes.map_id
    exact ofNat_eq_byte rfl
  exact hid.symm.trans hc.symm

theorem length_of_perm_lines {a : ArbiterId} {ls : List Line} (h : ls.Perm (arbiterLines a)) : ls.length = 2 ∨ ls.length = 3 := by
  rw [h.length_eq]
  cases a with
  | saloon => exact .inr rfl
  | lower => exact .inl rfl
  | upper => exact .inr rfl

/-- An order turned so that the named line is last (R63). -/
theorem rotateOrder_eq {l : Line} {pre post : List Line} (h : l ∉ pre) : rotateOrder l (pre ++ l :: post) = post ++ pre ++ [l] := by
  have hi : (pre ++ l :: post).idxOf l = pre.length := by
    rw [List.idxOf_append_of_notMem h, List.idxOf_cons_self, Nat.add_zero]
  have hsplit : pre ++ l :: post = pre ++ [l] ++ post := by simp
  have hlen : (pre ++ [l]).length = pre.length + 1 := by simp
  unfold rotateOrder
  dsimp only
  rw [hi, hsplit, List.drop_left' hlen, List.take_left' hlen, List.append_assoc]

/-! ## ARB MODE (R61) -/

theorem sameRequests_setModes (now : Nat) (m : ArbModes) (a : Arbiter) : SameRequests a (setModes now m a).arb :=
  sameRequests_served now (sameRequests_of_entry fun i => ⟨_, moveHoldEnds_get now m.hold a.table i⟩)

/-- The state that new modes leave. -/
def modesApplied (m : ArbModes) (s : State) : State := endEvent (arbEvent (setModes s.partTime m) s)

/-- What new modes do: they stand, and no request or mask changes. -/
theorem modesApplied_facts (m : ArbModes) (s : State) :
    PlantStep s (modesApplied m s) ∧ (modesApplied m s).ca.modes = m ∧
      ((modesApplied m s).psc.power = s.psc.power → requestsKept s (modesApplied m s)) := by
  unfold modesApplied
  refine ⟨endEvent_plantStep (arbEvent_plantOnly _ s), ?_, endEvent_requestsKept (sameRequests_setModes _ _ s.ca)⟩
  rw [(endEvent_settingsKept _).ca.modes, (arbEvent_done _ s).ca]
  exact (servePass_stand _ _).2.modes

theorem execArbMode_eq {a b c d h : Byte} {s : State} (hs : readyForCommand s = true) {m : ArbModes}
    (hsal : priorityOfCode a.toNat = some m.saloon) (hlow : priorityOfCode b.toNat = some m.lower)
    (hup : priorityOfCode c.toNat = some m.upper) (hnest : nestingOfCode d.toNat = some m.nesting)
    (hhold : m.hold = max 10 (min 120 h.toNat)) :
    exec (.arbMode a b c d h) s =
      .next
        (withReply 0x8B (if m.hold = h.toNat then 0 else 1) [a, b, c, d, BitVec.ofNat 8 m.hold] (modesApplied m s)) := by
  obtain ⟨ps, pl, pu, n, hold⟩ := m
  rw [← clampNat_eq (by decide)] at hhold
  dsimp only at hhold
  subst hhold
  refine congrArg Host.Outcome.next
    (completeFrame_done hs (replyType 0x0B) (body := cmdArbMode a b c d h) (b := clampNat 10 120 h.toNat != h.toNat) ?_ (by simp))
  unfold cmdArbMode
  rw [hsal, hlow, hup, hnest]
  simp only [modeFields, byteField, ofNat_eq_byte (codeOfPriority_of_priorityOfCode hsal),
    ofNat_eq_byte (codeOfPriority_of_priorityOfCode hlow), ofNat_eq_byte (codeOfPriority_of_priorityOfCode hup),
    ofNat_eq_byte (codeOfNesting_of_nestingOfCode hnest)]
  rfl

/-! ## ARB ORDER and ROTATE (R62, R63) -/

/-- The state that an order put in force leaves. -/
def orderApplied (a : ArbiterId) (ls : List Line) (s : State) : State := endEvent (arbEvent (setOrder s.partTime a ls) s)

theorem applyOrder_eq {b : Byte} {a : ArbiterId} (hb : arbiterOfCode b = some a) (ls : List Line) (s : State) :
    applyOrder a ls s = (orderApplied a ls s, doneReply false (b :: ls.map fun l => BitVec.ofNat 8 (codeOfLine l))) := by
  unfold applyOrder orderFields
  simp only [byteField, ofNat_eq_byte (codeOfArbiter_of_arbiterOfCode hb), ← List.map_eq_flatMap]
  rfl

/-- What an order put in force does: no request or mask changes, and the order stands as put while no mode is Rotating. -/
theorem orderApplied_facts (a : ArbiterId) (ls : List Line) (s : State) :
    PlantStep s (orderApplied a ls s) ∧
      ((orderApplied a ls s).psc.power = s.psc.power → requestsKept s (orderApplied a ls s)) ∧
      (s.ca.modes.saloon = .fixed ∧ s.ca.modes.lower = .fixed ∧ s.ca.modes.upper = .fixed →
        (orderApplied a ls s).ca.orders = s.ca.orders.set a ls) := by
  unfold orderApplied
  refine ⟨endEvent_plantStep (arbEvent_plantOnly _ s), endEvent_requestsKept ?_, fun ⟨hs, hl, hu⟩ => ?_⟩
  · exact sameRequests_served _ fun _ => ⟨rfl, rfl, rfl⟩
  · have hserved : ArbSettingsStand { s.ca with orders := s.ca.orders.set a ls } (arbEvent (setOrder s.partTime a ls) s).ca := by
      rw [(arbEvent_done _ s).ca]
      exact (servePass_stand _ _).2
    obtain ⟨-, -, hsal, hlow, hup⟩ := hserved.trans (endEvent_settingsKept (arbEvent (setOrder s.partTime a ls) s)).ca
    have hext : ∀ o o' : Orders, o.saloon = o'.saloon → o.lower = o'.lower → o.upper = o'.upper → o = o' := by
      rintro ⟨_, _, _⟩ ⟨_, _, _⟩ rfl rfl rfl
      rfl
    exact hext _ _ (hsal hs) (hlow hl) (hup hu)

/-- Settles O13: each command is its arbiter event and the end of it, `setModes` or `orderApplied`, under a reply. -/
theorem arbiterSettings : Obligations.ArbiterSettings := by
  intro s hs
  obtain ⟨hi, -⟩ := (readyForCommand_iff s).1 hs
  refine ⟨fun a b c d h ha hb hc hd => ?_, fun a b c d h hbad => ?_, fun b a codes ls hb hcodes hls => ?_, fun b codes hlen hbad => ?_,
    fun b x a l pre post hb hx hl hget hpre => ?_, fun b x hbad => ?_⟩
  · obtain ⟨ps, hps, cs⟩ := priorityOfCode_of_le ha
    obtain ⟨pl, hpl, cl⟩ := priorityOfCode_of_le hb
    obtain ⟨pu, hpu, cu⟩ := priorityOfCode_of_le hc
    obtain ⟨n, hn, cn⟩ := nestingOfCode_of_le hd
    obtain ⟨hstep, hmodes, hreq⟩ := modesApplied_facts ⟨ps, pl, pu, n, max 10 (min 120 h.toNat)⟩ s
    have hexec := execArbMode_eq (m := ⟨ps, pl, pu, n, max 10 (min 120 h.toNat)⟩) hs hps hpl hpu hn rfl
    generalize modesApplied _ s = t at hexec hstep hmodes hreq
    refine ⟨_, rfl, _, hexec, rfl, hstep.withoutReply hi _ _ _, ?_, hreq⟩
    rw [withReply_ca, hmodes]
    exact ⟨cs, cl, cu, cn, rfl⟩
  · refine congrArg Host.Outcome.next (completeFrame_refused hs (replyType 0x0B) (body := cmdArbMode a b c d h) (st := .badValue) ?_)
    unfold cmdArbMode
    split
    next ps pl pu n hps hpl hpu hn =>
      have := codeOfPriority_of_priorityOfCode hps ▸ codeOfPriority_le ps
      have := codeOfPriority_of_priorityOfCode hpl ▸ codeOfPriority_le pl
      have := codeOfPriority_of_priorityOfCode hpu ▸ codeOfPriority_le pu
      have := codeOfNesting_of_nestingOfCode hn ▸ codeOfNesting_le n
      omega
    next => rfl
  · subst hcodes
    have hbody := applyOrder_eq hb ls s
    obtain ⟨hstep, hreq, hord⟩ := orderApplied_facts a ls s
    generalize orderApplied a ls s = t at hbody hstep hreq hord
    refine ⟨_, congrArg Host.Outcome.next (completeFrame_ok hs (replyType 0x0C) ?_), rfl, hstep.withoutReply hi _ _ _, hreq, hord⟩
    rw [if_pos (by simpa using length_of_perm_lines hls)]
    unfold cmdArbOrder
    rw [hb]
    dsimp only
    rw [orderOfCodes_codes hls]
    exact hbody
  · refine congrArg Host.Outcome.next (completeFrame_refused hs (replyType 0x0C) (st := .badValue) ?_)
    rw [if_pos hlen]
    unfold cmdArbOrder
    split
    next a ha =>
      split
      next ls ho => exact absurd (orderOfCodes_perm ho) (hbad a ls ha (bytes_of_orderOfCodes ho))
      next => rfl
    next => rfl
  · have hbody := applyOrder_eq hb (post ++ pre ++ [l]) s
    obtain ⟨hstep, hreq, hord⟩ := orderApplied_facts a (post ++ pre ++ [l]) s
    generalize orderApplied a (post ++ pre ++ [l]) s = t at hbody hstep hreq hord
    refine ⟨_, congrArg Host.Outcome.next (completeFrame_ok hs (replyType 0x0D) (body := cmdRotate b x) ?_), rfl,
      hstep.withoutReply hi _ _ _, hreq, hord⟩
    unfold cmdRotate
    rw [hb, hx]
    dsimp only
    rw [if_pos (List.contains_iff_mem.2 hl), hget, rotateOrder_eq hpre]
    exact hbody
  · refine congrArg Host.Outcome.next (completeFrame_refused hs (replyType 0x0D) (body := cmdRotate b x) (st := .badValue) ?_)
    unfold cmdRotate
    split
    next a l ha hl => rw [if_neg (mt List.contains_iff_mem.1 (hbad a l ha hl))]
    next => rfl

end Sys2Proof.Machine

namespace Sys2Proof.Machine

/-! ## MASK (R59) -/

/-- The arbiter with another mask set in force. -/
def Arbiter.withMasks (m : PerZone Bool) (a : Arbiter) : Arbiter :=
  { a with table := { a.table with zones := a.table.zones.map (fun z e => { e with masked := m.get z }) } }

theorem Arbiter.withMasks_entry (m : PerZone Bool) (a : Arbiter) (z : Zone) :
    (a.withMasks m).entry (.zone z) = { a.entry (.zone z) with masked := m.get z } := PerZone.get_map _ _ z

theorem setMasks_servedOr (now : Nat) (m : PerZone Bool) (a : Arbiter) : servedOr now (a.withMasks m) (setMasks now m a) := by
  unfold setMasks
  dsimp only
  split
  · exact .inr rfl
  · exact .inl rfl

theorem sameRequests_setMasks (now : Nat) (m : PerZone Bool) (a : Arbiter) : SameRequests (a.withMasks m) (setMasks now m a).arb :=
  sameRequests_of_stand (fun _ => ⟨rfl, rfl, rfl⟩) (servedOr_stand (setMasks_servedOr now m a)).1 (servedOr_stand (setMasks_servedOr now m a)).2

/-- The state that a new mask set leaves. -/
def masksApplied (m : PerZone Bool) (s : State) : State := endEvent (arbEvent (setMasks s.partTime m) s)

/-- What a new mask set does: it stands, no masked zone gains, and no request changes. -/
theorem masksApplied_facts (m : PerZone Bool) (s : State) :
    PlantStep s (masksApplied m s) ∧
      ∀ z, ((masksApplied m s).ca.entry (.zone z)).masked = m.get z ∧
        (m.get z = true → ((masksApplied m s).ca.entry (.zone z)).held ≤ (s.ca.entry (.zone z)).held) ∧
        ((masksApplied m s).psc.power = s.psc.power →
          ((masksApplied m s).ca.entry (.zone z)).kind = (s.ca.entry (.zone z)).kind ∧
            ((masksApplied m s).ca.entry (.zone z)).wanted = (s.ca.entry (.zone z)).wanted) := by
  unfold masksApplied
  have hdone := arbEvent_done (setMasks s.partTime m) s
  have hsame := sameRequests_setMasks s.partTime m s.ca
  refine ⟨endEvent_plantStep (arbEvent_plantOnly _ s), fun z => ?_⟩
  have hmask : ((endEvent (arbEvent (setMasks s.partTime m) s)).ca.entry (.zone z)).masked = m.get z := by
    rw [(endEvent_settingsKept _).ca.masked, hdone.ca, (hsame (.zone z)).2.2, Arbiter.withMasks_entry]
  refine ⟨hmask, fun hz => ?_, fun hp => ?_⟩
  · have hmost : ArbHas (MaskedAtMost (.zone z) (s.ca.entry (.zone z)).held) (arbEvent (setMasks s.partTime m) s) :=
      .arbEvent (setMasks_maskedAtMost _ m z le_rfl)
    exact (endEvent_arb (maskedAtMost_closed _ _) hmost).holds (hmask.trans hz)
  · have hbefore : SameRequests (s.ca.withMasks m) (arbEvent (setMasks s.partTime m) s).ca := by
      rw [hdone.ca]
      exact hsame
    have hkept := endEvent_reports (sameRequests_reports (s.ca.withMasks m) _) rfl hbefore
      (hp.trans (congrArg PowerCtl.power hdone.psc).symm)
    obtain ⟨hk, hw, -⟩ := hkept (.zone z)
    rw [Arbiter.withMasks_entry] at hk hw
    exact ⟨hk, hw⟩

/-! ## RELEASE (R64) -/

/-- A zone whose entry is empty, with its mask `m`, and which does not wait (R48). -/
structure Released (z : Zone) (m : Bool) (a : Arbiter) : Prop where
  kind : (a.entry (.zone z)).kind = .none
  wanted : (a.entry (.zone z)).wanted = 0
  held : (a.entry (.zone z)).held = 0
  since : (a.entry (.zone z)).since = none
  masked : (a.entry (.zone z)).masked = m
  waits : EntryId.zone z ∉ a.queue

theorem Released.of_same {z : Zone} {m : Bool} {a b : Arbiter} (h : Released z m a) (he : b.entry (.zone z) = a.entry (.zone z))
    (hq : EntryId.zone z ∉ b.queue) : Released z m b :=
  ⟨he ▸ h.kind, he ▸ h.wanted, he ▸ h.held, he ▸ h.since, he ▸ h.masked, hq⟩

/-- Only leaving entries go from the queue at a gain. -/
theorem mem_queue_of_gainToken {now : Nat} {i j : EntryId} {a : Arbiter} (h : j ∈ (gainToken now i a).queue) : j ∈ a.queue := by
  unfold gainToken at h
  dsimp only at h
  split at h
  · exact h
  · cases i <;> exact ((mem_leaveQueue _ j _).1 h).2

theorem released_tokens (z : Zone) (m : Bool) (now : Nat) : TokensClosed now (Released z m) where
  gain {k i a} hs h := by
    have hne : EntryId.zone z ≠ i := by
      rintro rfl
      have hk := ((servable_iff k a _).1 hs).1
      rw [h.kind] at hk
      cases k <;> cases hk
    exact h.of_same (by rw [gainToken_entry, if_neg hne]) fun hq => h.waits (mem_queue_of_gainToken hq)
  lose {k i a} hl h := by
    have hne : EntryId.zone z ≠ i := by
      rintro rfl
      rcases hl with hl | hl
      · exact absurd h.held (held_pos_of_heldOfKind hl).2.ne'
      · cases k <;> cases hl
    refine h.of_same (by rw [loseToken_entry, if_neg hne]) fun hq => ?_
    exact ((mem_joinQueue i _ _).1 hq).elim hne h.waits

/-- A withdrawal empties an entry with its mask kept and takes it from the queue. -/
theorem released_emptied (z : Zone) (a : Arbiter) :
    Released z (a.entry (.zone z)).masked
      { a.setEntry (.zone z) (emptiedEntry (a.entry (.zone z))) with queue := leaveQueue (.zone z) a.queue } := by
  have he := a.entry_setEntry_self (.zone z) (emptiedEntry (a.entry (.zone z)))
  have hfield : ∀ {α : Type} (f : GrantEntry → α) {v : α}, f (emptiedEntry (a.entry (.zone z))) = v →
      f ((a.setEntry (.zone z) (emptiedEntry (a.entry (.zone z)))).entry (.zone z)) = v := fun f _ hv => (congrArg f he).trans hv
  exact ⟨hfield _ rfl, hfield _ rfl, hfield _ rfl, hfield _ rfl, hfield _ rfl, fun hq => ((mem_leaveQueue _ _ _).1 hq).1 rfl⟩

theorem released_ends (z : Zone) (m : Bool) (now : Nat) : EndClosed now (Released z m) where
  report := (released_tokens z m now).reportClosed fun k n a h =>
    h.of_same (a.entry_setCapacity k n _) (by cases k <;> exact h.waits)
  withdraw y a h := by
    rcases handRequest_withdrawn now y 0 a with ⟨hr, -⟩ | hr
    · rw [hr]; exact h
    · refine (released_tokens z m now).servedOr ?_ hr
      by_cases hy : z = y
      · subst hy
        exact h.masked ▸ released_emptied z a
      · refine h.of_same ?_ fun hq => h.waits ((mem_leaveQueue _ _ _).1 hq).2
        exact a.entry_setEntry_of_ne _ fun hz => hy (EntryId.zone.inj hz)

/-- Over a lawful table and queue a withdrawal leaves the zone's entry empty, whatever it requested (R40, R43, R48). -/
theorem released_handRequest (now : Nat) (z : Zone) {a : Arbiter} (ht : tableLawful a) (hq : queueLawful a) :
    Released z (a.entry (.zone z)).masked (handRequest now z .none 0 a).arb := by
  rcases handRequest_withdrawn now z 0 a with ⟨hr, hk⟩ | hr
  · rw [hr]
    obtain ⟨hle, -, hnone, hsince⟩ := ht.1 (.zone z)
    have hw := hnone hk
    have hh : (a.entry (.zone z)).held = 0 := by omega
    refine ⟨hk, hw, hh, hsince.2 hh, rfl, fun hmem => ?_⟩
    have hshort := (isShort_iff _).1 ((hq.2 _).1 hmem)
    omega
  · exact (released_tokens z _ now).servedOr (released_emptied z a) hr

/-- The state that the withdrawal of a released zone leaves. -/
def releaseApplied (z : Zone) (s : State) : State := endEvent (withdraw z s)

theorem withdraw_ca (z : Zone) (s : State) : (withdraw z s).ca = (handRequest s.partTime z .none 0 s.ca).arb :=
  (requestTokens_done z .none 0 _).ca

theorem releaseApplied_facts (z : Zone) {s : State} (ht : tableLawful s.ca) (hq : queueLawful s.ca) :
    OutsideKept s (releaseApplied z s) ∧ (inUse s.psc.power = true → ZonesOnly s (releaseApplied z s)) ∧
      ((releaseApplied z s).psc.power = s.psc.power →
        (∀ y, y ≠ z → (releaseApplied z s).zone y = s.zone y) ∧ (releaseApplied z s).scm = s.scm ∧
          (releaseApplied z s).zone z = { s.zone z with integ := 0, demand := 0, reqKind := .none, wanted := 0 }) ∧
      Released z (s.ca.entry (.zone z)).masked (releaseApplied z s).ca := by
  unfold releaseApplied
  have honly := withdraw_zonesOnly z s
  have hstep : PlantStep (withdraw z s) (endEvent (withdraw z s)) := endEvent_plantStep (.refl _)
  refine ⟨honly.toOutsideKept.trans hstep.toOutsideKept, fun hu => honly.endEvent hu, fun hp => ?_, ?_⟩
  · obtain ⟨hzc, hscm, -⟩ := hstep.samePower (hp.trans (congrArg PowerCtl.power honly.psc).symm)
    have hzone : ∀ y, (endEvent (withdraw z s)).zone y = if y = z then withdrawnRec (s.zone z) else s.zone y := fun y => by
      rw [← withdraw_zone]
      unfold State.zone
      rw [hzc]
    exact ⟨fun y hy => (hzone y).trans (if_neg hy), hscm.trans honly.scm, (hzone z).trans (if_pos rfl)⟩
  · have hat : ArbAt s.partTime (Released z (s.ca.entry (.zone z)).masked) (withdraw z s) := by
      refine ⟨honly.partTime, ?_⟩
      rw [withdraw_ca]
      exact released_handRequest _ z ht hq
    exact (endEvent_arbAt (released_ends z _ _) hat).holds

/-- Settles O14: both commands are an arbiter event and the end of it, `masksApplied` and `releaseApplied`, under a reply. -/
theorem maskAndReleaseAct : Obligations.MaskAndReleaseAct := by
  intro s hs
  obtain ⟨hi, -⟩ := (readyForCommand_iff s).1 hs
  refine ⟨fun zs hz => ?_, fun zs hz => ?_, fun b z hb ht hq => ?_, fun b hb => ?_⟩
  · have hset : ∀ z, (zonesOfSet zs).get z = zs.getLsbD (codeOfZone z) := fun z => PerZone.get_map _ _ z
    obtain ⟨hstep, hzones⟩ := masksApplied_facts (zonesOfSet zs) s
    have hbody : cmdMask zs s = (masksApplied (zonesOfSet zs) s, doneReply false [zs]) := by
      unfold cmdMask byteField
      rw [if_pos ((zoneSetValid_iff zs).2 hz), ofNat_eq_byte rfl]
      rfl
    simp only [hset] at hzones
    generalize masksApplied (zonesOfSet zs) s = t at hbody hstep hzones
    exact ⟨_, congrArg Host.Outcome.next (completeFrame_ok hs (replyType 0x0E) hbody), rfl, hstep.withoutReply hi _ _ _, hzones⟩
  · refine congrArg Host.Outcome.next (completeFrame_refused hs (replyType 0x0E) (body := cmdMask zs) (st := .badValue) ?_)
    unfold cmdMask
    rw [if_neg (fun hv => by have := (zoneSetValid_iff zs).1 hv; omega)]
  · obtain ⟨hout, honly, hsame, hrel⟩ := releaseApplied_facts z ht hq
    have hbody : cmdRelease b s = (releaseApplied z s, doneReply false
        [b, BitVec.ofNat 8 (codeOfReqKind (s.ca.entry (.zone z)).kind), BitVec.ofNat 8 (s.ca.entry (.zone z)).held]) := by
      unfold cmdRelease byteField
      rw [hb]
      dsimp only
      rw [ofNat_eq_byte (codeOfZone_of_zoneOfCode hb)]
      rfl
    generalize releaseApplied z s = t at hbody hout honly hsame hrel
    exact ⟨_, congrArg Host.Outcome.next (completeFrame_ok hs (replyType 0x0F) hbody), rfl, hout.withoutReply hi _ _ _,
      fun hu => (honly hu).withoutReply hi _ _ _, hsame, hrel.kind, hrel.wanted, hrel.held, hrel.since, hrel.masked, hrel.waits⟩
  · refine congrArg Host.Outcome.next (completeFrame_refused hs (replyType 0x0F) (body := cmdRelease b) (st := .badValue) ?_)
    unfold cmdRelease
    rw [zoneOfCode_of_gt hb]

end Sys2Proof.Machine

namespace Sys2Proof.Machine

/-! ## The shed stack and the counted loads (R72, R73, R87) -/

theorem onStack_iff (la : LoadAccount) (i : LoadItem) : onStack la i = true ↔ i ∈ la.stack.map ShedEntry.item := by
  unfold onStack
  rw [List.any_eq_true, List.mem_map]
  simp only [beq_iff_eq]

theorem onStack_of_suffix {la la' : LoadAccount} (h : la'.stack <:+ la.stack) {i : LoadItem} (hi : onStack la' i = true) :
    onStack la i = true := by
  rw [onStack_iff] at hi ⊢
  exact (h.sublist.map _).subset hi

theorem onStack_congr {la la' : LoadAccount} (h : la'.stack = la.stack) (i : LoadItem) : onStack la' i = onStack la i := by
  unfold onStack
  rw [h]

/-- A push onto the stack. -/
theorem onStack_push (la : LoadAccount) (e : ShedEntry) (i : LoadItem) :
    onStack { la with stack := e :: la.stack } i = (e.item == i || onStack la i) := rfl

theorem committedLoad_eq (s : State) : committedLoad s =
    countedLoad s (.comp .a) + countedLoad s (.comp .b) + countedLoad s .pump + countedLoad s .heater + countedLoad s (.blower .e) +
      countedLoad s (.blower .l1) + countedLoad s (.blower .l2) + countedLoad s (.blower .u1) + countedLoad s (.blower .u2) +
      countedLoad s (.blower .u3) + screenLoad s := by
  simp only [committedLoad, allItems, List.map_cons, List.map_nil, List.sum_cons, List.sum_nil]
  omega

/-- Where only one item's counted load changes, the committed load changes by as much. -/
theorem committedLoad_one {s t : State} (i : LoadItem) (h : ∀ j, j ≠ i → countedLoad t j = countedLoad s j)
    (hs : screenLoad t = screenLoad s) : committedLoad t + countedLoad s i = committedLoad s + countedLoad t i := by
  rw [committedLoad_eq, committedLoad_eq, hs]
  rcases i with ⟨⟨⟩⟩ | _ | _ | ⟨⟨⟩⟩ <;>
    simp only [h, ne_eq, reduceCtorEq, not_false_eq_true, LoadItem.comp.injEq, LoadItem.blower.injEq] <;> omega

theorem committedLoad_congr {s t : State} (h : ∀ j, countedLoad t j = countedLoad s j) (hs : screenLoad t = screenLoad s) :
    committedLoad t = committedLoad s := by
  simp only [committedLoad_eq, h, hs]

/-! ## What the laws of the loads read, but for the bound -/

/-- Stack, compressor states, pump, run request, blowers, vent minimum and operating modes are as they were. -/
structure PlantSame (s t : State) : Prop where
  stack : t.la.stack = s.la.stack
  comp : ∀ c, (t.comp c).state = (s.comp c).state
  pump : t.hs.pump = s.hs.pump
  request : runRequest t.hs = runRequest s.hs
  blower : ∀ z, (t.blower z).mode = (s.blower z).mode ∧ (t.blower z).speed = (s.blower z).speed
  ventMin : t.apc.ventMin = s.apc.ventMin
  opMode : ∀ z, (t.zone z).opMode = (s.zone z).opMode

theorem LoadSame.plantSame {s t : State} (h : LoadSame s t) : PlantSame s t :=
  ⟨h.stack, h.comp, h.pump, h.request, h.blower, h.ventMin, h.opMode⟩

/-- A zone's blower follows the zone's mode, or none has been handed yet (R133, R134). -/
def BlowerHanded (s : State) (z : Zone) : Prop :=
  ((s.blower z).mode = none ∧ (s.blower z).speed = 0) ∨ (s.blower z).mode = some (s.zone z).opMode

theorem blowerLawful_iff (s : State) (z : Zone) :
    blowerLawful s z ↔ BlowerHanded s z ∧ (inService (s.zone z).opMode = false → (s.blower z).speed = 0) ∧
      ((s.blower z).mode ≠ none → inService (s.zone z).opMode = true → s.apc.ventMin ≤ (s.blower z).speed) ∧
      (onStack s.la (.blower z) = true → (s.blower z).speed ≤ s.apc.ventMin) := Iff.rfl

/-- The laws of the loads but for the bound, in the middle of an event: the blowers of the zones `handed` follow their modes, and those of
the zones `full` among them are lawful. A zone that has taken a mode and not yet handed it on is not among the first; while a new vent
minimum has not been acted on, no zone is among the second. -/
structure LoadStands (handed full : Zone → Prop) (s : State) : Prop where
  orders : ordersLawful s.ca.orders
  stack : stackLawful s.la
  plant : shedPlantLawful s
  modes : ∀ z, handed z → BlowerHanded s z
  blowers : ∀ z, handed z → full z → blowerLawful s z

/-- Every zone. -/
def anyZone (_ : Zone) : Prop := True

/-- The laws of the loads but for the bound. -/
abbrev LoadRest (s : State) : Prop := LoadStands anyZone anyZone s

section
variable {handed full : Zone → Prop}

theorem LoadStands.mono {handed' full' : Zone → Prop} {s : State} (h : LoadStands handed full s) (hh : ∀ z, handed' z → handed z)
    (hf : ∀ z, handed' z → full' z → full z) : LoadStands handed' full' s :=
  ⟨h.orders, h.stack, h.plant, fun z hz => h.modes z (hh z hz), fun z hz hfz => h.blowers z (hh z hz) (hf z hz hfz)⟩

theorem LoadStands.of_plantSame {s t : State} (h : LoadStands handed full s) (k : PlantSame s t) (ho : ordersLawful t.ca.orders) :
    LoadStands handed full t where
  orders := ho
  stack := by
    have hs := h.stack
    unfold stackLawful at hs ⊢
    rwa [k.stack]
  plant := by
    obtain ⟨hc, hp, hh⟩ := h.plant
    refine ⟨fun c => ?_, ?_, ?_⟩
    · rw [onStack_congr k.stack, k.comp]; exact hc c
    · rw [onStack_congr k.stack, k.pump]; exact hp
    · rw [onStack_congr k.stack, k.request]; exact hh
  modes z hz := by
    have hm := h.modes z hz
    unfold BlowerHanded at hm ⊢
    rwa [(k.blower z).1, (k.blower z).2, k.opMode]
  blowers z hz hf := by
    have hb := h.blowers z hz hf
    unfold blowerLawful at hb ⊢
    dsimp only at hb ⊢
    rwa [(k.blower z).1, (k.blower z).2, k.opMode, k.ventMin, onStack_congr k.stack]

theorem LoadStands.of_loadSame {s t : State} (h : LoadStands handed full s) (k : LoadSame s t) : LoadStands handed full t :=
  h.of_plantSame k.plantSame (k.ca.symm ▸ h.orders)

theorem LoadStands.ite {t u : State} {c : Prop} [Decidable c] (h : LoadStands handed full t) (k : LoadStands handed full u) :
    LoadStands handed full (if c then t else u) := by
  split <;> assumption

theorem LoadStands.foldl {α : Type} {f : State → α → State} (hf : ∀ s x, LoadStands handed full s → LoadStands handed full (f s x))
    (l : List α) {s : State} (h : LoadStands handed full s) : LoadStands handed full (l.foldl f s) := by
  induction l generalizing s with
  | nil => exact h
  | cons x l ih => exact ih (hf s x h)

/-! ### Restores (R88) -/

/-- Popped entries leave everything else (R88). -/
theorem LoadStands.setStack {s : State} (h : LoadStands handed full s) {k : List ShedEntry} (hk : k <:+ s.la.stack) :
    LoadStands handed full (s.setLa { s.la with stack := k }) := by
  have hon : ∀ {i}, onStack { s.la with stack := k } i = true → onStack s.la i = true := onStack_of_suffix hk
  obtain ⟨hc, hp, hh⟩ := h.plant
  refine ⟨h.orders, (hk.sublist.map _).nodup h.stack, ⟨fun c hi => hc c (hon hi), fun hi => hp (hon hi), fun hi => hh (hon hi)⟩,
    fun z hz => h.modes z hz, fun z hz hf => ?_⟩
  obtain ⟨hm, hout, hin, hst⟩ := h.blowers z hz hf
  exact ⟨hm, hout, hin, fun hi => hst (hon hi)⟩

theorem restoreAttempt_loads {s : State} (h : LoadStands handed full s) : LoadStands handed full (restoreAttempt s) := by
  obtain ⟨k, hk, he⟩ := restoreAttempt_stack s
  rw [he]
  exact h.setStack hk

theorem restoreIfFell_loads (n : Nat) {s : State} (h : LoadStands handed full s) : LoadStands handed full (restoreIfFell n s) := by
  obtain ⟨k, hk, he⟩ := restoreIfFell_stack n s
  rw [he]
  exact h.setStack hk

/-! ### Blower computations (R82, R134, R135) -/

theorem le_targetSpeed (v : Nat) (t : List Nat) (c : CurveCode) (m : OpMode) (d n : Nat) (h : inService m = true) :
    v ≤ targetSpeed v t c m d n := by
  cases m with
  | off => cases h
  | standby => cases h
  | vent => exact le_rfl
  | auto | setback =>
    unfold targetSpeed
    dsimp only
    split
    · exact le_rfl
    · exact Nat.le_max_right _ _

theorem targetSpeed_out (v : Nat) (t : List Nat) (c : CurveCode) (m : OpMode) (d n : Nat) (h : inService m = false) :
    targetSpeed v t c m d n = 0 := by
  cases m with
  | off => rfl
  | standby => rfl
  | vent => cases h
  | auto => cases h
  | setback => cases h

/-- A granted speed is not below the vent minimum where the target is not, and not above the target of a blower on the stack (R82, R87). -/
theorem ventMin_le_grantedSpeed (s : State) (z : Zone) (p : Nat) {t : Nat} (h : s.apc.ventMin ≤ t) :
    s.apc.ventMin ≤ grantedSpeed s z p t := by
  unfold grantedSpeed
  dsimp only
  split
  · exact le_min h (Nat.le_max_right _ _)
  · split
    · exact h
    · exact (Nat.le_max_right _ _).trans (Nat.le_max_right _ _)

theorem grantedSpeed_le_of_onStack {s : State} {z : Zone} (p t : Nat) (h : onStack s.la (.blower z) = true) : grantedSpeed s z p t ≤ t := by
  unfold grantedSpeed
  rw [if_pos h]
  exact Nat.min_le_left _ _

/-- The target that a blower computation with a handed mode applies (R87, R134). -/
def appliedTarget (s : State) (z : Zone) (m : OpMode) : Nat :=
  let t0 := targetSpeed s.apc.ventMin s.apc.curveTable (s.zone z).curve m (s.blower z).demand (s.blower z).held
  if onStack s.la (.blower z) then min t0 s.apc.ventMin else t0

theorem appliedTarget_out {s : State} {z : Zone} {m : OpMode} (h : inService m = false) : appliedTarget s z m = 0 := by
  unfold appliedTarget
  dsimp only
  rw [targetSpeed_out _ _ _ _ _ _ h, Nat.zero_min, ite_self]

theorem le_appliedTarget {s : State} {z : Zone} {m : OpMode} (h : inService m = true) : s.apc.ventMin ≤ appliedTarget s z m := by
  have ht := le_targetSpeed s.apc.ventMin s.apc.curveTable (s.zone z).curve m (s.blower z).demand (s.blower z).held h
  unfold appliedTarget
  dsimp only
  split
  · exact le_min ht le_rfl
  · exact ht

theorem appliedTarget_le {s : State} {z : Zone} (m : OpMode) (h : onStack s.la (.blower z) = true) : appliedTarget s z m ≤ s.apc.ventMin := by
  unfold appliedTarget
  dsimp only
  rw [if_pos h]
  exact Nat.min_le_right _ _

/-- The speed that a blower computation gives (R82, R135). -/
def computedSpeed (s : State) (z : Zone) : Nat :=
  match (s.blower z).mode with
  | none => (s.blower z).speed
  | some m => if (s.blower z).speed < appliedTarget s z m then grantedSpeed s z (s.blower z).speed (appliedTarget s z m) else appliedTarget s z m

theorem computeBlower_unhanded {z : Zone} {s : State} (hm : (s.blower z).mode = none) : computeBlower z s = s := by
  unfold computeBlower
  dsimp only
  rw [hm]

theorem computeBlower_handed {z : Zone} {s : State} {m : OpMode} (hm : (s.blower z).mode = some m) :
    computeBlower z s =
      if appliedTarget s z m < (s.blower z).speed then
        restoreIfFell (committedLoad s) (s.setBlower z { s.blower z with speed := appliedTarget s z m })
      else if (s.blower z).speed < appliedTarget s z m then
        s.setBlower z { s.blower z with speed := grantedSpeed s z (s.blower z).speed (appliedTarget s z m) }
      else s := by
  unfold computeBlower
  dsimp only
  rw [hm]
  rfl

/-- A blower computation sets the computed speed, with a restore attempt where that is lower (R88, R135). -/
theorem computeBlower_eq (z : Zone) (s : State) :
    computeBlower z s = s.setBlower z { s.blower z with speed := computedSpeed s z } ∨
      computeBlower z s = restoreIfFell (committedLoad s) (s.setBlower z { s.blower z with speed := computedSpeed s z }) := by
  have unchanged : computedSpeed s z = (s.blower z).speed → s = s.setBlower z { s.blower z with speed := computedSpeed s z } := fun h => by
    rw [h]
    exact (s.setBlower_self z).symm
  unfold computedSpeed at unchanged ⊢
  cases hm : (s.blower z).mode with
  | none =>
    rw [hm] at unchanged
    exact .inl ((computeBlower_unhanded hm).trans (unchanged rfl))
  | some m =>
    rw [hm] at unchanged
    rw [computeBlower_handed hm]
    dsimp only at unchanged ⊢
    split
    next hlt =>
      rw [if_neg (by omega)]
      exact .inr rfl
    next =>
      split
      next hlt => exact .inl rfl
      next hge =>
        rw [if_neg hge] at unchanged
        exact .inl (unchanged (by omega))

end

end Sys2Proof.Machine

namespace Sys2Proof.Machine

/-! ## Blower computations and arbiter events keep the laws of the loads -/

/-- A blower whose mode has been handed has a lawful speed once it is computed (R87, R133, R134). -/
theorem computedSpeed_lawful {s : State} {z : Zone} (h : BlowerHanded s z) :
    blowerLawful (s.setBlower z { s.blower z with speed := computedSpeed s z }) z := by
  unfold blowerLawful
  dsimp only
  rw [State.blower_setBlower_self]
  change ((_ ∨ (s.blower z).mode = some (s.zone z).opMode) ∧ (inService (s.zone z).opMode = false → computedSpeed s z = 0) ∧
    (_ → inService (s.zone z).opMode = true → s.apc.ventMin ≤ computedSpeed s z) ∧
      (onStack s.la (.blower z) = true → computedSpeed s z ≤ s.apc.ventMin))
  rcases h with ⟨hm, hv⟩ | hm
  · have hc : computedSpeed s z = 0 := by unfold computedSpeed; rw [hm]; exact hv
    rw [hc]
    exact ⟨.inl ⟨hm, rfl⟩, fun _ => rfl, fun hn => absurd hm hn, fun _ => Nat.zero_le _⟩
  · have hc : computedSpeed s z = if (s.blower z).speed < appliedTarget s z (s.zone z).opMode then
        grantedSpeed s z (s.blower z).speed (appliedTarget s z (s.zone z).opMode) else appliedTarget s z (s.zone z).opMode := by
      unfold computedSpeed
      rw [hm]
    rw [hc]
    refine ⟨.inr hm, fun hi => ?_, fun _ hi => ?_, fun hi => ?_⟩
    · rw [appliedTarget_out hi]
      rfl
    · split
      · exact ventMin_le_grantedSpeed s z _ (le_appliedTarget hi)
      · exact le_appliedTarget hi
    · split
      · exact (grantedSpeed_le_of_onStack _ _ hi).trans (appliedTarget_le _ hi)
      · exact appliedTarget_le _ hi

section
variable {handed full : Zone → Prop}

/-- A changed blower touches the laws of its own zone alone. -/
theorem LoadStands.setBlower {s : State} (h : LoadStands handed full s) {z : Zone} {b : BlowerRec}
    (hm : handed z → BlowerHanded (s.setBlower z b) z) (hb : handed z → full z → blowerLawful (s.setBlower z b) z) :
    LoadStands handed full (s.setBlower z b) where
  orders := h.orders
  stack := h.stack
  plant := h.plant
  modes y hy := by
    by_cases hyz : y = z
    · subst hyz
      exact hm hy
    · have hmodes := h.modes y hy
      unfold BlowerHanded at hmodes ⊢
      rwa [State.blower_setBlower_of_ne _ _ hyz]
  blowers y hy hf := by
    by_cases hyz : y = z
    · subst hyz
      exact hb hy hf
    · have hblowers := h.blowers y hy hf
      unfold blowerLawful at hblowers ⊢
      rwa [State.blower_setBlower_of_ne _ _ hyz]

/-- A blower computation keeps the laws, and makes its own zone's blower lawful where its mode has been handed. -/
theorem computeBlower_makes_lawful (z : Zone) {s : State} (h : LoadStands handed full s) :
    LoadStands handed (fun y => full y ∨ y = z) (computeBlower z s) := by
  have hset : LoadStands handed (fun y => full y ∨ y = z) (s.setBlower z { s.blower z with speed := computedSpeed s z }) := by
    have hlaw : handed z → blowerLawful (s.setBlower z { s.blower z with speed := computedSpeed s z }) z := fun hz =>
      computedSpeed_lawful (h.modes z hz)
    have hk := h.setBlower (z := z) (b := { s.blower z with speed := computedSpeed s z }) (fun hz => (hlaw hz).1) fun hz _ => hlaw hz
    refine ⟨hk.orders, hk.stack, hk.plant, hk.modes, fun y hy hf => ?_⟩
    rcases hf with hf | rfl
    · exact hk.blowers y hy hf
    · exact hlaw hy
  rcases computeBlower_eq z s with he | he <;> rw [he]
  · exact hset
  · exact restoreIfFell_loads _ hset

theorem computeBlower_loads (z : Zone) {s : State} (h : LoadStands handed full s) : LoadStands handed full (computeBlower z s) :=
  (computeBlower_makes_lawful z h).mono (fun _ => id) fun _ _ => .inl

/-- Every zone's blower computed again is lawful (R140). -/
theorem computeAllBlowers_loads {s : State} (h : LoadStands anyZone full s) : LoadRest (computeAllBlowers s) := by
  have hfold : ∀ (l : List Zone) (full : Zone → Prop) (s : State), LoadStands anyZone full s →
      LoadStands anyZone (fun y => full y ∨ y ∈ l) (l.foldl (fun s z => computeBlower z s) s) := by
    intro l
    induction l with
    | nil => exact fun full s h => h.mono (fun _ => id) fun _ _ hf => hf.resolve_right List.not_mem_nil
    | cons z l ih =>
      intro full s h
      refine (ih _ _ (computeBlower_makes_lawful z h)).mono (fun _ => id) fun y _ hf => ?_
      rw [List.mem_cons] at hf
      rwa [or_assoc]
  exact (hfold Zone.all full s h).mono (fun _ => id) fun y _ _ => .inr (mem_zone_all y)

/-- A zone's blower that its mode is handed to is lawful, whatever it was (R18, R133, R134). -/
theorem handMode_loads (z : Zone) {s : State} (h : LoadStands (fun y => handed y ∧ y ≠ z) full s) :
    LoadStands handed full (handMode z s) := by
  have hset : LoadStands handed (fun y => full y ∧ y ≠ z)
      (s.setBlower z { s.blower z with mode := some (s.zone z).opMode, demand := (s.zone z).demand.natAbs }) := by
    refine ⟨h.orders, h.stack, h.plant, fun y hy => ?_, fun y hy hf => ?_⟩
    · by_cases hyz : y = z
      · subst hyz
        right
        rw [State.blower_setBlower_self]
        rfl
      · have hm := h.modes y ⟨hy, hyz⟩
        unfold BlowerHanded at hm ⊢
        rwa [State.blower_setBlower_of_ne _ _ hyz]
    · have hb := h.blowers y ⟨hy, hf.2⟩ hf.1
      unfold blowerLawful at hb ⊢
      rwa [State.blower_setBlower_of_ne _ _ hf.2]
  refine (computeBlower_makes_lawful z hset).mono (fun _ => id) fun y _ hf => ?_
  by_cases hyz : y = z
  · exact .inr hyz
  · exact .inl ⟨hf, hyz⟩

/-- A zone that takes another mode leaves the laws of the others. -/
theorem LoadStands.setZone {s : State} (h : LoadStands handed full s) (z : Zone) (r : ZoneRec) :
    LoadStands (fun y => handed y ∧ y ≠ z) full (s.setZone z r) := by
  refine ⟨h.orders, h.stack, h.plant, fun y hy => ?_, fun y hy hf => ?_⟩
  · have hm := h.modes y hy.1
    unfold BlowerHanded at hm ⊢
    rwa [s.zone_setZone_of_ne _ hy.2]
  · have hb := h.blowers y hy.1 hf
    unfold blowerLawful at hb ⊢
    rwa [s.zone_setZone_of_ne _ hy.2]

/-! ### Arbiter events -/

/-- An arbiter event: the arbiter replaced, totals and flags, and then the held counts handed on zone by zone (R52, R55, R58). -/
theorem arbEvent_eq (f : Arbiter → ArbResult) (s : State) :
    ∃ u, LoadSame (s.setCa (f s.ca).arb) u ∧ arbEvent f s = Zone.all.foldl (handHeld s.ca) u := by
  have hraise : ∀ (c : Bool) (g : Flag) (t : State), LoadSame t (if c then raise g t else t) := fun _ g t =>
    .ite (raise_loadSame g t) (.refl t)
  have htotals : ∀ t : State, LoadSame t (handTotals t) := fun t => by
    have h1 : LoadSame t (t.setCs { t.cs with wantedTotal := t.ca.wantedTotal .cool, sccShort := isShort (t.ca.entry .scc) }) :=
      setCs_loadSame fun _ => rfl
    exact h1.trans (setHs_loadSame rfl rfl rfl)
  refine ⟨handTotals
      (if (f s.ca).reclaimed then raise .reclaim (if (f s.ca).preempted then raise .preempt (s.setCa (f s.ca).arb) else s.setCa (f s.ca).arb)
        else if (f s.ca).preempted then raise .preempt (s.setCa (f s.ca).arb) else s.setCa (f s.ca).arb), ?_, rfl⟩
  exact ((hraise (f s.ca).preempted .preempt _).trans (hraise (f s.ca).reclaimed .reclaim _)).trans (htotals _)

theorem setBlower_held_loadSame (s : State) (z : Zone) (n : Nat) : LoadSame s (s.setBlower z { s.blower z with held := n }) := by
  refine setApc_loadSame rfl fun y => ?_
  change ((s.setBlower z { s.blower z with held := n }).blower y).mode = _ ∧ ((s.setBlower z { s.blower z with held := n }).blower y).speed = _
  rw [State.blower_setBlower]
  split
  next hy => rw [hy]; exact ⟨rfl, rfl⟩
  next => exact ⟨rfl, rfl⟩

theorem handHeld_loads (before : Arbiter) (s : State) (z : Zone) (h : LoadStands handed full s) :
    LoadStands handed full (handHeld before s z) :=
  .ite h (computeBlower_loads z (h.of_loadSame (setBlower_held_loadSame s z _)))

/-- An arbiter event that leaves lawful orders keeps the laws of the loads. -/
theorem arbEvent_loads {f : Arbiter → ArbResult} {s : State} (h : LoadStands handed full s) (ho : ordersLawful (f s.ca).arb.orders) :
    LoadStands handed full (arbEvent f s) := by
  obtain ⟨u, hu, he⟩ := arbEvent_eq f s
  have h1 : LoadStands handed full (s.setCa (f s.ca).arb) := ⟨ho, h.stack, h.plant, h.modes, h.blowers⟩
  rw [he]
  exact .foldl (handHeld_loads s.ca) _ (h1.of_loadSame hu)

theorem reportPool_loads (k : TokenKind) (n : Nat) {s : State} (h : LoadStands handed full s) :
    LoadStands handed full (reportPool k n s) :=
  .ite h (arbEvent_loads h (ordersLawful_closed.report s.partTime k n s.ca h.orders))

theorem requestTokens_loads (z : Zone) (k : ReqKind) (n : Nat) {s : State} (h : LoadStands handed full s) :
    LoadStands handed full (requestTokens z k n s) :=
  arbEvent_loads h (ordersLawful_closed.request s.partTime z k n s.ca h.orders)

theorem withdraw_loads (z : Zone) {s : State} (h : LoadStands handed full s) : LoadStands handed full (withdraw z s) :=
  requestTokens_loads z _ _ (h.of_loadSame (setZone_loadSame rfl))

end

/-! ## The bound (R84) -/

/-- The committed load is within the larger of allowance in force and floor load (R84). -/
def WithinBound (s : State) : Prop := committedLoad s ≤ loadBound s

theorem LoadSame.countedLoad {s t : State} (h : LoadSame s t) (i : LoadItem) : countedLoad t i = countedLoad s i := by
  cases i with
  | comp c => simp only [Machine.countedLoad, h.comp, onStack_congr h.stack]
  | pump => simp only [Machine.countedLoad, h.pump, onStack_congr h.stack]
  | heater => simp only [Machine.countedLoad, h.counted, onStack_congr h.stack]
  | blower z => simp only [Machine.countedLoad, (h.blower z).2]

theorem LoadSame.committedLoad {s t : State} (h : LoadSame s t) : committedLoad t = committedLoad s :=
  committedLoad_congr h.countedLoad (by unfold screenLoad; rw [h.screen])

theorem LoadSame.floorLoad {s t : State} (h : LoadSame s t) : floorLoad t = floorLoad s := by
  unfold Machine.floorLoad screenLoad
  simp only [h.opMode, h.ventMin, h.screen]

theorem LoadSame.withinBound {s t : State} (h : LoadSame s t) (hs : WithinBound s) : WithinBound t := by
  unfold WithinBound loadBound at hs ⊢
  rwa [h.committedLoad, h.floorLoad, h.allowance]

/-- A popped item counts for at most its full load again (R73, R88). -/
theorem committedLoad_pop {s : State} {e : ShedEntry} {rest : List ShedEntry} (hs : s.la.stack = e :: rest) :
    committedLoad (s.setLa { s.la with stack := rest }) ≤ committedLoad s + fullLoad s e.item := by
  have hon : ∀ i, i ≠ e.item → onStack { s.la with stack := rest } i = onStack s.la i := fun i hi => by
    unfold onStack
    rw [hs, List.any_cons, beq_eq_false_iff_ne.2 hi.symm, Bool.false_or]
  have hone := committedLoad_one (s := s) (t := s.setLa { s.la with stack := rest }) e.item (fun j hj => by
    cases j with
    | comp c => exact congrArg (fun b => if compCounted (s.comp c).state && !b then 4200 else 0) (hon _ hj)
    | pump => exact congrArg (fun b => if s.hs.pump && !b then 180 else 0) (hon _ hj)
    | heater => exact congrArg (fun b => if heaterCounted s.hs.heater && !b then 140 else 0) (hon _ hj)
    | blower z => rfl) rfl
  have hitem : countedLoad (s.setLa { s.la with stack := rest }) e.item ≤ countedLoad s e.item + fullLoad s e.item := by
    cases e.item with
    | blower z => exact Nat.le_add_right _ _
    | comp c => exact (show ite _ _ _ ≤ 4200 by split <;> omega).trans (Nat.le_add_left _ _)
    | pump => exact (show ite _ _ _ ≤ 180 by split <;> omega).trans (Nat.le_add_left _ _)
    | heater => exact (show ite _ _ _ ≤ 140 by split <;> omega).trans (Nat.le_add_left _ _)
  omega

theorem restoreAttempt_withinBound {s : State} (h : WithinBound s) : WithinBound (restoreAttempt s) := by
  have hpop : ∀ (l : List ShedEntry) (s : State), s.la.stack = l → WithinBound s → WithinBound (popWhileFits l s) := by
    intro l
    induction l with
    | nil => exact fun s _ h => h
    | cons e rest ih =>
      intro s hs h
      unfold popWhileFits
      split
      next hfits =>
        refine ih _ rfl ?_
        have hp := committedLoad_pop hs
        exact (hp.trans hfits).trans (Nat.le_max_left _ _)
      next => exact h
  exact hpop _ s rfl h

theorem restoreIfFell_withinBound (n : Nat) {s : State} (h : WithinBound s) : WithinBound (restoreIfFell n s) := by
  unfold restoreIfFell
  split
  · exact restoreAttempt_withinBound h
  · exact h

theorem committedLoad_setBlower (s : State) (z : Zone) (b : BlowerRec) :
    committedLoad (s.setBlower z b) + 5 * (s.blower z).speed = committedLoad s + 5 * b.speed := by
  have hone := committedLoad_one (s := s) (t := s.setBlower z b) (.blower z) (fun j hj => by
    cases j with
    | comp c => rfl
    | pump => rfl
    | heater => rfl
    | blower y =>
      change 5 * ((s.setBlower z b).blower y).speed = _
      rw [State.blower_setBlower_of_ne _ _ fun h => hj (congrArg LoadItem.blower h)]
      rfl) rfl
  change _ + 5 * (s.blower z).speed = _ + 5 * ((s.setBlower z b).blower z).speed at hone
  rwa [State.blower_setBlower_self] at hone

/-- A raise of a lawful blower that follows its mode stays within the allowance, or it is none (R82). -/
theorem grantedSpeed_fits {s : State} {z : Zone} {t : Nat} (hmin : s.apc.ventMin ≤ (s.blower z).speed)
    (hst : onStack s.la (.blower z) = true → t ≤ s.apc.ventMin) (ht : (s.blower z).speed < t) :
    grantedSpeed s z (s.blower z).speed t = (s.blower z).speed ∨
      committedLoad s + 5 * grantedSpeed s z (s.blower z).speed t ≤ allowanceInForce s.la + 5 * (s.blower z).speed := by
  have hoff : ¬ onStack s.la (.blower z) = true := fun h => by have := hst h; omega
  unfold grantedSpeed
  rw [if_neg hoff]
  dsimp only
  generalize hd : ((allowanceInForce s.la : Int) - ((committedLoad s : Int) - 5 * ((s.blower z).speed : Nat))) = d
  have hdiv : 0 < d.tdiv 5 → 5 * d.tdiv 5 ≤ d := fun h => by
    have hd0 : 0 ≤ d := by
      by_contra hneg
      have hopp : 0 ≤ (-d).tdiv 5 := Int.tdiv_nonneg (by omega) (by decide)
      rw [Int.neg_tdiv] at hopp
      omega
    rw [Int.tdiv_eq_ediv_of_nonneg hd0]
    omega
  split
  · right; omega
  · rw [max_eq_left hmin]
    rcases Nat.lt_or_ge (s.blower z).speed (d.tdiv 5).toNat with hlt | hge
    · right
      rw [max_eq_left hlt.le]
      omega
    · left
      exact max_eq_right hge

/-- A blower computation of a lawful blower keeps the load within its bound (R82, R135). -/
theorem computeBlower_withinBound {z : Zone} {s : State} (hb : blowerLawful s z) (h : WithinBound s) : WithinBound (computeBlower z s) := by
  obtain ⟨hhanded, -, hin, hst⟩ := (blowerLawful_iff s z).1 hb
  have hset : WithinBound (s.setBlower z { s.blower z with speed := computedSpeed s z }) := by
    have hc : committedLoad (s.setBlower z { s.blower z with speed := computedSpeed s z }) + 5 * (s.blower z).speed =
        committedLoad s + 5 * computedSpeed s z := committedLoad_setBlower s z _
    have hbound : loadBound (s.setBlower z { s.blower z with speed := computedSpeed s z }) = loadBound s := rfl
    have hle : allowanceInForce s.la ≤ loadBound s := Nat.le_max_left _ _
    unfold WithinBound at h ⊢
    rw [hbound]
    generalize s.setBlower z { s.blower z with speed := computedSpeed s z } = t at hc ⊢
    cases hm : (s.blower z).mode with
    | none =>
      have hv : computedSpeed s z = (s.blower z).speed := by unfold computedSpeed; rw [hm]
      omega
    | some m =>
      have hmode : m = (s.zone z).opMode := by
        rcases hhanded with ⟨hn, -⟩ | hn
        · rw [hn] at hm; cases hm
        · exact Option.some.inj (hm.symm.trans hn)
      have hv : computedSpeed s z = if (s.blower z).speed < appliedTarget s z m then
          grantedSpeed s z (s.blower z).speed (appliedTarget s z m) else appliedTarget s z m := by
        unfold computedSpeed
        rw [hm]
      split at hv
      next hlt =>
        have hserve : inService m = true := by
          by_contra hn
          rw [appliedTarget_out (Bool.eq_false_iff.2 hn)] at hlt
          omega
        have hmin := hin (by rw [hm]; exact nofun) (hmode ▸ hserve)
        rcases grantedSpeed_fits hmin (appliedTarget_le m) hlt with hg | hg <;> omega
      next => omega
  rcases computeBlower_eq z s with he | he <;> rw [he]
  · exact hset
  · exact restoreIfFell_withinBound _ hset

/-- The laws of the loads (R84, R87), with lawful orders. -/
structure LoadLaw (s : State) : Prop where
  rest : LoadRest s
  bound : WithinBound s

theorem loadLaw_iff (s : State) : LoadLaw s ↔ ordersLawful s.ca.orders ∧ loadLawful s := by
  constructor
  · exact fun h => ⟨h.rest.orders, h.rest.stack, fun z => h.rest.blowers z trivial trivial, h.rest.plant, h.bound⟩
  · exact fun ⟨ho, hst, hb, hp, hbound⟩ => ⟨⟨ho, hst, hp, fun z _ => (hb z).1, fun z _ _ => hb z⟩, hbound⟩

theorem LoadLaw.of_loadSame {s t : State} (h : LoadLaw s) (k : LoadSame s t) : LoadLaw t :=
  ⟨h.rest.of_loadSame k, k.withinBound h.bound⟩

theorem LoadLaw.ite {t u : State} {c : Prop} [Decidable c] (h : LoadLaw t) (k : LoadLaw u) : LoadLaw (if c then t else u) := by
  split <;> assumption

theorem LoadLaw.foldl {α : Type} {f : State → α → State} (hf : ∀ s x, LoadLaw s → LoadLaw (f s x)) (l : List α) {s : State}
    (h : LoadLaw s) : LoadLaw (l.foldl f s) := by
  induction l generalizing s with
  | nil => exact h
  | cons x l ih => exact ih (hf s x h)

theorem restoreAttempt_loadLaw {s : State} (h : LoadLaw s) : LoadLaw (restoreAttempt s) :=
  ⟨restoreAttempt_loads h.rest, restoreAttempt_withinBound h.bound⟩

theorem handHeld_loadLaw (before : Arbiter) (s : State) (z : Zone) (h : LoadLaw s) : LoadLaw (handHeld before s z) := by
  have h1 := h.of_loadSame (setBlower_held_loadSame s z (s.ca.entry (.zone z)).held)
  exact .ite h ⟨computeBlower_loads z h1.rest, computeBlower_withinBound (h1.rest.blowers z trivial trivial) h1.bound⟩

/-- A capacity report keeps the laws of the loads, the bound with them. -/
theorem reportPool_loadLaw (k : TokenKind) (n : Nat) {s : State} (h : LoadLaw s) : LoadLaw (reportPool k n s) := by
  obtain ⟨u, hu, he⟩ := arbEvent_eq (reportCapacity s.partTime k n) s
  have ho := ordersLawful_closed.report s.partTime k n s.ca h.rest.orders
  have h1 : LoadLaw (s.setCa (reportCapacity s.partTime k n s.ca).arb) :=
    ⟨⟨ho, h.rest.stack, h.rest.plant, h.rest.modes, h.rest.blowers⟩, h.bound⟩
  refine .ite h ?_
  rw [he]
  exact .foldl (handHeld_loadLaw s.ca) _ (h1.of_loadSame hu)

end Sys2Proof.Machine

namespace Sys2Proof.Machine

/-! ## Shedding ends within the bound (R84 to R87) -/

theorem mem_shedOrder {s : State} (h : ordersLawful s.ca.orders) (i : LoadItem) : i ∈ shedOrder s := by
  have hblower : ∀ z, LoadItem.blower z ∈ blowerShedOrder s := fun z =>
    List.mem_map.2 ⟨z, List.mem_reverse.2 ((zoneRanking_perm h).mem_iff.2 (mem_zone_all z)), rfl⟩
  unfold shedOrder
  cases i with
  | comp c => cases c <;> split <;> simp
  | pump => split <;> simp
  | heater => split <;> simp
  | blower z => split <;> simp [hblower z]

theorem countedLoad_of_not_sheddable {s : State} {i : LoadItem} (h : sheddable s i = false) (hi : ∀ z, i ≠ .blower z) :
    countedLoad s i = 0 := by
  by_cases hon : onStack s.la i = true
  · cases i with
    | comp c => simp [countedLoad, hon]
    | pump => simp [countedLoad, hon]
    | heater => simp [countedLoad, hon]
    | blower z => exact absurd rfl (hi z)
  · unfold sheddable at h
    rw [Bool.eq_false_iff.2 hon, Bool.not_false, Bool.true_and] at h
    cases i with
    | blower z => exact absurd rfl (hi z)
    | _ => simpa using h

theorem blower_of_not_sheddable {s : State} {z : Zone} (hb : blowerLawful s z) (h : sheddable s (.blower z) = false) :
    countedLoad s (.blower z) ≤ if inService (s.zone z).opMode then 5 * s.apc.ventMin else 0 := by
  obtain ⟨-, hout, -, hst⟩ := (blowerLawful_iff s z).1 hb
  change 5 * (s.blower z).speed ≤ _
  split
  next hi =>
    have hle : (s.blower z).speed ≤ s.apc.ventMin := by
      by_cases hon : onStack s.la (.blower z) = true
      · exact hst hon
      · unfold sheddable at h
        dsimp only at h
        rw [Bool.eq_false_iff.2 hon, Bool.not_false, Bool.true_and, hi, Bool.true_and, decide_eq_false_iff_not] at h
        omega
    omega
  next hi => rw [hout (Bool.eq_false_iff.2 hi)]

/-- With nothing left to shed, the committed load is the floor load at most (R74, R85). -/
theorem withinBound_of_nothing_sheddable {s : State} (hb : ∀ z, blowerLawful s z) (h : ∀ i, sheddable s i = false) : WithinBound s := by
  have hplant : ∀ i, (∀ z, i ≠ .blower z) → countedLoad s i = 0 := fun i => countedLoad_of_not_sheddable (h i)
  have hz : ∀ z, _ := fun z => blower_of_not_sheddable (hb z) (h (.blower z))
  have hfloor : committedLoad s ≤ floorLoad s := by
    have he := hz .e; have hl1 := hz .l1; have hl2 := hz .l2; have hu1 := hz .u1; have hu2 := hz .u2; have hu3 := hz .u3
    rw [committedLoad_eq, hplant (.comp .a) nofun, hplant (.comp .b) nofun, hplant .pump nofun, hplant .heater nofun]
    simp only [floorLoad, Zone.all, List.map_cons, List.map_nil, List.sum_cons, List.sum_nil]
    omega
  exact hfloor.trans (Nat.le_max_right _ _)

/-- A stop order leaves a compressor neither in Starting nor in Running (R96). -/
theorem unloadRec_stops (now : Nat) (r : CompRec) : (unloadRec now r).state ≠ .starting ∧ (unloadRec now r).state ≠ .running := by
  unfold unloadRec
  split
  · exact ⟨nofun, nofun⟩
  · exact ⟨nofun, nofun⟩
  all_goals next h => rw [h]; exact ⟨nofun, nofun⟩

section
variable {handed full : Zone → Prop}

/-- Compressors may stand in any state off the stack, and stopped on it (R87). -/
theorem LoadStands.setComp {s : State} (h : LoadStands handed full s) {c : Comp} {r : CompRec}
    (hr : onStack s.la (.comp c) = true → r.state ≠ .starting ∧ r.state ≠ .running) : LoadStands handed full (s.setComp c r) := by
  obtain ⟨hc, hp, hh⟩ := h.plant
  refine ⟨h.orders, h.stack, ⟨fun d hd => ?_, hp, hh⟩, h.modes, h.blowers⟩
  by_cases hdc : d = c
  · subst hdc
    rw [State.comp_setComp_self]
    exact hr hd
  · rw [State.comp_setComp_of_ne _ _ hdc]
    exact hc d hd

/-- The heating record may stand with pump and heater running off the stack, and stopped on it (R87). -/
theorem LoadStands.setHs {s : State} (h : LoadStands handed full s) {v : Heating} (hp : onStack s.la .pump = true → v.pump = false)
    (hr : onStack s.la .heater = true → runRequest v = false) : LoadStands handed full (s.setHs v) :=
  ⟨h.orders, h.stack, ⟨h.plant.1, hp, hr⟩, h.modes, h.blowers⟩

theorem stopHeater_loads (now : Nat) {s : State} (h : LoadStands handed full s) :
    LoadStands handed full (s.setHs (stopHeater now s.hs)) :=
  h.setHs (fun hi => (stopHeater_plant now s.hs).1.trans (h.plant.2.1 hi)) fun _ => (stopHeater_stops now s.hs).1

theorem stopPump_loads (now : Nat) {s : State} (h : LoadStands handed full s) :
    LoadStands handed full (s.setHs (stopPump now s.hs)) :=
  h.setHs (fun _ => (stopHeater_plant now { s.hs with pump := false }).1) fun _ => (stopHeater_stops now _).1

end

/-- What a shed leaves of an item (R86): plant stopped, a blower at the vent minimum or below. -/
def ItemShed (s : State) : LoadItem → Prop
  | .comp c => (s.comp c).state ≠ .starting ∧ (s.comp c).state ≠ .running
  | .pump => s.hs.pump = false
  | .heater => runRequest s.hs = false
  | .blower z => (s.blower z).speed ≤ s.apc.ventMin

/-- An item that is shed may be pushed onto the stack once (R87). -/
theorem LoadStands.push {s : State} (h : LoadRest s) {e : ShedEntry} (hn : onStack s.la e.item = false) (hs : ItemShed s e.item) :
    LoadRest (s.setLa { s.la with stack := e :: s.la.stack }) := by
  have hon : ∀ {j}, onStack { s.la with stack := e :: s.la.stack } j = true → e.item = j ∨ onStack s.la j = true := fun hj => by
    rw [onStack_push, Bool.or_eq_true, beq_iff_eq] at hj
    exact hj
  have hshed : ∀ {j}, e.item = j → ItemShed s j := fun hj => hj ▸ hs
  obtain ⟨hc, hp, hh⟩ := h.plant
  refine ⟨h.orders, ?_, ⟨fun c hj => (hon hj).elim hshed (hc c), fun hj => (hon hj).elim hshed hp, fun hj => (hon hj).elim hshed hh⟩,
    h.modes, fun z _ _ => ?_⟩
  · refine List.nodup_cons.2 ⟨fun hi => ?_, h.stack⟩
    rw [← onStack_iff, hn] at hi
    cases hi
  · obtain ⟨hm, hout, hin, hst⟩ := h.blowers z trivial trivial
    exact ⟨hm, hout, hin, fun hj => (hon hj).elim hshed hst⟩

/-- The owner's action that goes with a shed (R86). -/
def shedAction (i : LoadItem) (s : State) : State :=
  match i with
  | .comp c => s.setComp c (unloadRec s.partTime (s.comp c))
  | .pump => s.setHs (stopPump s.partTime s.hs)
  | .heater => s.setHs (stopHeater s.partTime s.hs)
  | .blower z => s.setBlower z { s.blower z with speed := s.apc.ventMin }

/-- A shed is its owner's action under a push onto the stack (R86). -/
theorem shedItem_eq (i : LoadItem) (s : State) :
    shedItem i s =
      raise .shed ((shedAction i s).setLa { (shedAction i s).la with stack := ⟨i, s.partTime⟩ :: (shedAction i s).la.stack }) := by
  cases i <;> rfl

theorem blowerLawful_atVentMin {s : State} {z : Zone} (hm : (s.blower z).mode = some (s.zone z).opMode)
    (hi : inService (s.zone z).opMode = true) : blowerLawful (s.setBlower z { s.blower z with speed := s.apc.ventMin }) z := by
  unfold blowerLawful
  dsimp only
  rw [State.blower_setBlower_self]
  exact ⟨.inr hm, fun hn => (Bool.false_ne_true (hn.symm.trans hi)).elim, fun _ _ => le_rfl, fun _ => le_rfl⟩

/-- The action sheds its item and keeps the laws. -/
theorem shedAction_loads {i : LoadItem} {s : State} (h : LoadRest s) (hi : sheddable s i = true) :
    LoadRest (shedAction i s) ∧ ItemShed (shedAction i s) i := by
  cases i with
  | comp c =>
    have hstop := unloadRec_stops s.partTime (s.comp c)
    refine ⟨h.setComp fun _ => hstop, ?_⟩
    unfold ItemShed shedAction
    dsimp only
    rwa [State.comp_setComp_self]
  | pump => exact ⟨stopPump_loads _ h, (stopHeater_plant _ { s.hs with pump := false }).1⟩
  | heater => exact ⟨stopHeater_loads _ h, (stopHeater_stops _ s.hs).1⟩
  | blower z =>
    obtain ⟨hm, hout, -, -⟩ := (blowerLawful_iff s z).1 (h.blowers z trivial trivial)
    obtain ⟨-, hserve⟩ := Bool.and_eq_true_iff.1 hi
    obtain ⟨hserve, hlt⟩ := Bool.and_eq_true_iff.1 hserve
    have hmode : (s.blower z).mode = some (s.zone z).opMode := hm.resolve_left fun hn => by
      have := of_decide_eq_true hlt
      omega
    have hlaw := blowerLawful_atVentMin hmode hserve
    refine ⟨h.setBlower (fun _ => hlaw.1) fun _ _ => hlaw, ?_⟩
    change ((s.setBlower z { s.blower z with speed := s.apc.ventMin }).blower z).speed ≤ _
    rw [State.blower_setBlower_self]
    exact le_rfl

theorem shedItem_loads {i : LoadItem} {s : State} (h : LoadRest s) (hi : sheddable s i = true) : LoadRest (shedItem i s) := by
  obtain ⟨hact, hshed⟩ := shedAction_loads h hi
  have hn : onStack (shedAction i s).la i = false := by
    have hoff := (Bool.and_eq_true_iff.1 hi).1
    have hla : (shedAction i s).la = s.la := by cases i <;> rfl
    rw [hla]
    simpa using hoff
  rw [shedItem_eq]
  exact (hact.push (e := ⟨i, s.partTime⟩) hn hshed).of_loadSame (raise_loadSame _ _)

/-- Ten entries, none twice, are all items (R87). -/
theorem onStack_of_length {la : LoadAccount} (h : stackLawful la) (hl : 10 ≤ la.stack.length) (i : LoadItem) : onStack la i = true := by
  have hall : ∀ j : LoadItem, j ∈ allItems := fun j => by rcases j with ⟨⟨⟩⟩ | _ | _ | ⟨⟨⟩⟩ <;> decide
  have hsub : (la.stack.map ShedEntry.item).Subperm allItems := List.subperm_of_subset h fun j _ => hall j
  rw [onStack_iff]
  refine (hsub.perm_of_length_le ?_).mem_iff.2 (hall i)
  rw [List.length_map]
  exact hl

/-- Sheds one after another end within the bound: after ten nothing is left (R84, R87). -/
theorem shedLoop_loadLaw (n : Nat) {s : State} (h : LoadRest s) (hn : 10 ≤ n + s.la.stack.length) : LoadLaw (shedLoop n s).1 := by
  induction n generalizing s with
  | zero =>
    refine ⟨h, withinBound_of_nothing_sheddable (fun z => h.blowers z trivial trivial) fun i => ?_⟩
    change sheddable s i = false
    unfold sheddable
    rw [onStack_of_length h.stack (by omega) i]
    rfl
  | succ n ih =>
    unfold shedLoop
    split
    next hb => exact ⟨h, hb⟩
    next =>
      split
      next hnone =>
        exact ⟨h, withinBound_of_nothing_sheddable (fun z => h.blowers z trivial trivial) fun i =>
          Bool.eq_false_iff.2 (List.find?_eq_none.1 hnone i (mem_shedOrder h.orders i))⟩
      next i hi =>
        refine ih (shedItem_loads h (List.find?_some hi)) ?_
        have hlen : (shedItem i s).la.stack.length = s.la.stack.length + 1 := by cases i <;> rfl
        omega

/-- The test of shedding brings the load within its bound, from anywhere within the other laws of the loads (R84). -/
theorem shedTest_loadLaw {s : State} (h : LoadRest s) : LoadLaw (shedTest s) :=
  .foldl (f := fun s (c : TokenKind × Nat) => reportPool c.1 c.2 s) (fun _ c => reportPool_loadLaw c.1 c.2) _
    (shedLoop_loadLaw 10 h (Nat.le_add_right _ _))

theorem shedTest_loads {s : State} (h : LoadRest s) : LoadRest (shedTest s) := (shedTest_loadLaw h).rest

end Sys2Proof.Machine

namespace Sys2Proof.Machine

/-! ## The sequencers keep the laws of the loads -/

/-! ### Cooling Sequencer (R94 to R107) -/

theorem setComp_stopped_loads {s : State} (h : LoadRest s) {c : Comp} {r : CompRec} (hr : r.state ≠ .starting ∧ r.state ≠ .running) :
    LoadRest (s.setComp c r) := h.setComp fun _ => hr

/-- A record changed beside its state keeps the laws. -/
theorem setComp_sameState_loads {s : State} (h : LoadRest s) {c : Comp} {r : CompRec} (hr : r.state = (s.comp c).state) :
    LoadRest (s.setComp c r) := h.setComp fun hi => hr.symm ▸ h.plant.1 c hi

theorem unloadComp_loads (c : Comp) {s : State} (h : LoadRest s) : LoadRest (unloadComp c s) :=
  reportPool_loads _ _ (setComp_stopped_loads h (unloadRec_stops _ _))

theorem tripRec_stops (now : Nat) (r : CompRec) : (tripRec now r).state ≠ .starting ∧ (tripRec now r).state ≠ .running := by
  unfold tripRec
  dsimp only
  split <;> exact ⟨nofun, nofun⟩

theorem tripComp_loads (c : Comp) {s : State} (h : LoadRest s) : LoadRest (tripComp c s) := by
  have h1 : LoadRest (raise .compTrip (s.setComp c (tripRec s.partTime (s.comp c)))) :=
    (setComp_stopped_loads h (tripRec_stops _ _)).of_loadSame (raise_loadSame _ _)
  have h2 : LoadRest (if (tripRec s.partTime (s.comp c)).state = .lockout then
      raise .compLock (raise .compTrip (s.setComp c (tripRec s.partTime (s.comp c)))) else
      raise .compTrip (s.setComp c (tripRec s.partTime (s.comp c)))) := .ite (h1.of_loadSame (raise_loadSame _ _)) h1
  exact reportPool_loads _ _ (restoreIfFell_loads _ h2)

theorem throttleComp_loads (c : Comp) {s : State} (h : LoadRest s) : LoadRest (throttleComp c s) :=
  .ite (reportPool_loads _ _ (setComp_sameState_loads h rfl)) h

theorem chargeRec_state (now : Nat) (v : Option Int) (r : CompRec) : (chargeRec now v r).state = r.state := by
  unfold chargeRec
  split
  · split <;> rfl
  · rfl

theorem protectComp_loads (c : Comp) (low throttles failed : Bool) {s : State} (h : LoadRest s) :
    LoadRest (protectComp c low throttles failed s) := by
  have h1 : LoadRest (if low then s.setComp c (chargeRec s.partTime (lowUsed s c) (s.comp c)) else s) :=
    .ite (setComp_sameState_loads h (chargeRec_state _ _ _)) h
  exact .ite (tripComp_loads c h1) (.ite (throttleComp_loads c h1) h1)

/-- A compressor that passes the start conditions is not on the stack (R98). -/
theorem not_onStack_of_firstFailing {s : State} {c : Comp} (h : firstFailing s c = none) : onStack s.la (.comp c) = false := by
  have hk := List.find?_eq_none.1 h .shedStack (by decide)
  simpa [conditionHolds] using hk

theorem askStart_loads {c : Comp} {s : State} (h : LoadRest s) (hc : firstFailing s c = none) : LoadRest (askStart c s) := by
  refine .ite (h.setComp fun hi => ?_) (setComp_sameState_loads h rfl)
  rw [not_onStack_of_firstFailing hc] at hi
  cases hi

theorem refuseStart_loads (c : Comp) (k : StartCondition) {s : State} (h : LoadRest s) : LoadRest (refuseStart c k s) := by
  unfold refuseStart
  dsimp only
  have hset : ∀ b, LoadRest (s.setComp c { s.comp c with reason := some k, episodeOpen := b }) := fun b =>
    setComp_sameState_loads h rfl
  exact .ite (.ite (hset true) ((hset true).of_loadSame (raise_loadSame _ _))) (hset _)

theorem tryStarts_loads {s : State} (h : LoadRest s) : LoadRest (tryStarts s) := by
  unfold tryStarts
  split
  next hc => exact askStart_loads h hc
  next k _ =>
    have h1 := refuseStart_loads .a k h
    dsimp only
    split
    next hc => exact askStart_loads h1 hc
    next => exact refuseStart_loads .b _ h1

theorem stagingStop_loads (c : Comp) {s : State} (h : LoadRest s) : LoadRest (stagingStop c s) :=
  .ite ((unloadComp_loads c h).of_loadSame (setCs_loadSame fun _ => rfl)) h

theorem stopForSurplus_loads {s : State} (h : LoadRest s) : LoadRest (stopForSurplus s) := by
  unfold stopForSurplus
  refine .ite ?_ h
  split
  · exact stagingStop_loads _ h
  · exact h

theorem stagingUpdate_loads {s : State} (h : LoadRest s) : LoadRest (stagingUpdate s) := by
  have h1 : LoadRest (s.setCs { s.cs with comps := s.cs.comps.map (ageRec s.partTime), checkedAt := some s.partTime }) :=
    h.of_loadSame (setCs_loadSame fun c => by dsimp only; rw [PerComp.get_map]; rfl)
  have trip : ∀ (c : Comp) (t : State), LoadRest t → LoadRest (if chargeTrip t c then tripComp c t else t) := fun c t ht =>
    .ite (tripComp_loads c ht) ht
  have release : ∀ c t, LoadRest t → LoadRest (releaseTripped c t) := fun c t ht => .ite (setComp_stopped_loads ht ⟨nofun, nofun⟩) ht
  exact release .b _ (release .a _ (trip .b _ (trip .a _ h1)))

theorem stagingStretches_loads {s : State} (h : LoadRest s) : LoadRest (stagingStretches s) :=
  h.of_loadSame (setCs_loadSame fun c => by
    dsimp only
    rw [PerComp.get_map]
    split <;> rfl)

theorem stagingWork_loads {s : State} (h : LoadRest s) : LoadRest (stagingWork s) := by
  have disabled : ∀ c t, LoadRest t → LoadRest (stopDisabled c t) := fun c t ht => .ite (unloadComp_loads c ht) ht
  have idle : ∀ t, LoadRest t → LoadRest (stopForIdle t) := fun t ht => .ite (stagingStop_loads .b (stagingStop_loads .a ht)) ht
  have h1 : LoadRest (stagingStretches (stagingUpdate s)) := stagingStretches_loads (stagingUpdate_loads h)
  have h2 := idle _ (stopForSurplus_loads (disabled .b _ (disabled .a _ h1)))
  exact .ite (tryStarts_loads h2) h2

/-! ### Heating Sequencer (R114 to R125) -/

theorem setHs_samePlant_loads {s : State} (h : LoadRest s) {v : Heating} (hp : v.pump = s.hs.pump) (hr : runRequest v = runRequest s.hs) :
    LoadRest (s.setHs v) := h.setHs (fun hi => hp.trans (h.plant.2.1 hi)) fun hi => hr.trans (h.plant.2.2 hi)

/-- A heater put out of its run request keeps the laws. -/
theorem setHs_stopped_loads {s : State} (h : LoadRest s) {v : Heating} (hp : v.pump = s.hs.pump) (hr : runRequest v = false) :
    LoadRest (s.setHs v) := h.setHs (fun hi => hp.trans (h.plant.2.1 hi)) fun _ => hr

theorem stopPumpNow_loads {s : State} (h : LoadRest s) : LoadRest (stopPumpNow s) :=
  .ite (reportPool_loads _ _ (restoreIfFell_loads _ (stopPump_loads s.partTime h))) h

theorem pumpStart_loads {s : State} (h : LoadRest s) : LoadRest (pumpStart s) := by
  unfold pumpStart
  split
  next hc =>
    have hoff : onStack s.la .pump = false := by simpa using (Bool.and_eq_true_iff.1 hc).2
    refine .ite (reportPool_loads _ _ (h.setHs (fun hi => ?_) h.plant.2.2)) (setHs_samePlant_loads h rfl rfl)
    rw [hoff] at hi
    cases hi
  next => exact h

/-- Where the heater's start condition holds it is not on the stack (R118). -/
theorem not_onStack_of_startCondition {s : State} (h : startCondition s = true) : onStack s.la .heater = false := by
  unfold startCondition at h
  simp only [Bool.and_eq_true, Bool.not_eq_true'] at h
  exact h.1.2

theorem setHs_started_loads {s : State} (h : LoadRest s) (hc : startCondition s = true) {v : Heating} (hp : v.pump = s.hs.pump) :
    LoadRest (s.setHs v) := by
  refine h.setHs (fun hi => hp.trans (h.plant.2.1 hi)) fun hi => ?_
  rw [not_onStack_of_startCondition hc] at hi
  cases hi

theorem latchStart_loads {s : State} (h : LoadRest s) : LoadRest (latchStart s) := by
  unfold latchStart
  split
  · exact setHs_samePlant_loads h rfl rfl
  · exact setHs_samePlant_loads h rfl rfl
  all_goals exact h

theorem heaterStart_loads {s : State} (h : LoadRest s) : LoadRest (heaterStart s) := by
  unfold heaterStart
  split
  next hc => exact .ite (.ite (setHs_started_loads h hc rfl) (setHs_samePlant_loads h rfl rfl)) h
  next => exact setHs_samePlant_loads h rfl rfl

theorem heatingWork_loads {s : State} (h : LoadRest s) : LoadRest (heatingWork s) := by
  have h1 : LoadRest (heatingStretches s) := setHs_samePlant_loads h rfl rfl
  have h2 : LoadRest (pumpDecision (heatingStretches s)) := .ite (.ite (stopPumpNow_loads h1) h1) (pumpStart_loads h1)
  have h3 : ∀ t, LoadRest t → LoadRest (heaterDecision t) := fun t ht =>
    heaterStart_loads (latchStart_loads (.ite (stopHeater_loads _ ht) ht))
  exact h3 _ h2

theorem coolantSampled_loads (failed : Bool) {s : State} (h : LoadRest s) : LoadRest (coolantSampled failed s) := by
  have h1 : LoadRest (bandReported s) := reportPool_loads _ _ (setHs_samePlant_loads h rfl rfl)
  exact .ite (stopHeater_loads _ h1) h1

theorem windDownPump_loads {s : State} (h : LoadRest s) : LoadRest (windDownPump s) := .ite (stopPumpNow_loads h) h

theorem igniteAfterPurge_pump (now : Nat) (flame : Bool) (h : Heating) : (igniteAfterPurge now flame h).pump = h.pump := by
  unfold igniteAfterPurge
  split <;> rfl

theorem endPurge_loads {s : State} (h : LoadRest s) : LoadRest (endPurge s) := by
  unfold endPurge
  split
  next hc => exact setHs_started_loads h (Bool.and_eq_true_iff.1 hc).2 (igniteAfterPurge_pump _ _ _)
  next => exact windDownPump_loads (restoreIfFell_loads _ (setHs_stopped_loads h rfl rfl))

theorem endIgnition_loads {s : State} (h : LoadRest s) : LoadRest (endIgnition s) := by
  have hlock := restoreIfFell_loads (committedLoad s) (setHs_stopped_loads h (v := enterLockout s.partTime s.hs) rfl rfl)
  exact .ite (setHs_stopped_loads h rfl rfl) ((hlock.of_loadSame (raise_loadSame _ _)).of_loadSame (raise_loadSame _ _))

theorem flameGoes_loads {s : State} (h : LoadRest s) : LoadRest (flameGoes s) := by
  have h1 : LoadRest (raise .auxFault s) := h.of_loadSame (raise_loadSame _ _)
  have hlock := restoreIfFell_loads (committedLoad s) (setHs_stopped_loads h1 (v := enterLockout s.partTime s.hs) rfl rfl)
  exact .ite (.ite (setHs_stopped_loads h1 rfl rfl) (hlock.of_loadSame (raise_loadSame _ _))) h

/-! ## The Zone Controller keeps the laws of the loads -/

/-- A zone record changed beside its mode keeps the laws. -/
theorem setZone_sameMode_loads {handed full : Zone → Prop} {s : State} (h : LoadStands handed full s) {z : Zone} {r : ZoneRec}
    (hr : r.opMode = (s.zone z).opMode) : LoadStands handed full (s.setZone z r) := h.of_loadSame (setZone_loadSame hr)

section
variable {full : Zone → Prop}

/-- A mode taken and handed on keeps the laws. -/
theorem takeMode_loads (z : Zone) (m : OpMode) {s : State} (h : LoadStands anyZone full s) : LoadStands anyZone full (takeMode z m s) :=
  handMode_loads z (h.setZone z _)

/-- A mode taken and handed on after a withdrawal keeps the laws. -/
theorem handMode_withdraw_loads (z : Zone) (r : ZoneRec) {s : State} (h : LoadStands anyZone full s) :
    LoadStands anyZone full (handMode z (withdraw z (s.setZone z r))) :=
  handMode_loads z (withdraw_loads z (h.setZone z r))

theorem handMode_again_loads (z : Zone) {s : State} (h : LoadStands anyZone full s) : LoadStands anyZone full (handMode z s) :=
  handMode_loads z (h.mono (fun _ _ => trivial) fun _ _ => id)

theorem enterStandby_loads (z : Zone) {s : State} (h : LoadStands anyZone full s) : LoadStands anyZone full (enterStandby z s) :=
  .ite h (handMode_withdraw_loads z _ h)

theorem applyHostMode_loads (z : Zone) {s : State} (h : LoadStands anyZone full s) : LoadStands anyZone full (applyHostMode z s) := by
  unfold applyHostMode
  refine .ite h ?_
  split
  · dsimp only
    split
    next hm =>
      have hsame : LoadStands anyZone full (s.setZone z { s.zone z with opMode := .auto, timer := autoLength (s.zone z) }) :=
        setZone_sameMode_loads h hm.symm
      exact .ite (withdraw_loads z hsame) hsame
    next =>
      refine handMode_loads z ?_
      have hset := h.setZone z { s.zone z with opMode := .auto, timer := autoLength (s.zone z) }
      exact .ite (withdraw_loads z hset) hset
  all_goals
    dsimp only
    split
    next hm => exact setZone_sameMode_loads h hm.symm
    next => exact handMode_withdraw_loads z _ h

end

theorem reloadEffect_loads (z : Zone) {s : State} (h : LoadRest s) : LoadRest (reloadEffect z s) := by
  unfold reloadEffect
  dsimp only
  split
  · exact setZone_sameMode_loads h rfl
  · exact takeMode_loads z .auto h
  · exact .ite (takeMode_loads z _ h) h
  all_goals exact h

theorem reloadEvent_loads (e : ReloadEvent) (z : Zone) {s : State} (h : LoadRest s) : LoadRest (reloadEvent e z s) :=
  .ite (shedTest_loads (reloadEffect_loads z h)) h

theorem holdTimer_opMode (r : ZoneRec) : (holdTimer r).opMode = r.opMode := by
  unfold holdTimer
  split <;> rfl

theorem seatCount_loads (z : Zone) (n : Nat) {s : State} (h : LoadRest s) : LoadRest (seatCount z n s) := by
  refine .ite h (reloadEvent_loads .seat z (setZone_sameMode_loads h ?_))
  split
  · exact holdTimer_opMode _
  · rfl

theorem deriveSensor_loads (s : State) (z : Zone) (h : LoadRest s) : LoadRest (deriveSensor s z) := by
  have h1 : LoadRest (s.setZone z { s.zone z with sensor := sensorOf s.ssu z }) := setZone_sameMode_loads h rfl
  have lose : ∀ t, LoadRest t → LoadRest (loseSensor z t) := fun t ht =>
    shedTest_loads (handMode_again_loads z (withdraw_loads z (setZone_sameMode_loads ht rfl)))
  exact .ite (lose _ h1) h1

theorem evaluateRec_opMode (s : State) (z : Zone) : (evaluateRec s z).opMode = (s.zone z).opMode := by
  unfold evaluateRec
  dsimp only
  split <;> rfl

theorem evaluateZone_loads (z : Zone) {s : State} (h : LoadRest s) : LoadRest (evaluateZone z s) := by
  have handOn : ∀ b k n t, LoadRest t → LoadRest (handOnRequest z b k n t) := fun b k n t ht =>
    requestTokens_loads z k n (.ite (requestTokens_loads z .none 0 ht) ht)
  exact shedTest_loads (handMode_again_loads z (handOn _ _ _ _ (setZone_sameMode_loads h (evaluateRec_opMode s z))))

theorem enterSetback_loads (z : Zone) {s : State} (h : LoadRest s) : LoadRest (enterSetback z s) :=
  handMode_loads z ((h.setZone z _).of_loadSame (raise_loadSame _ _))

theorem timerExpired_loads (z : Zone) {s : State} (h : LoadRest s) : LoadRest (timerExpired z s) := by
  unfold timerExpired
  split
  · exact enterSetback_loads z h
  · exact enterStandby_loads z (h.of_loadSame (raise_loadSame _ _))
  all_goals exact h

end Sys2Proof.Machine

namespace Sys2Proof.Machine

/-! ## Power states and the screen keep the laws of the loads -/

theorem setSsu_loadSame (s : State) (v : Channels) : LoadSame s (s.setSsu v) := loadSame_of_blocks rfl rfl rfl rfl rfl rfl rfl

theorem setScm_loadSame {s : State} {v : ScreenMonitor} (h : v.active = s.scm.active) : LoadSame s (s.setScm v) :=
  ⟨rfl, rfl, rfl, fun _ => rfl, rfl, rfl, rfl, fun _ => ⟨rfl, rfl⟩, rfl, fun _ => rfl, h⟩

theorem enterPower_loadSame (p : PowerState) (s : State) : LoadSame s (enterPower p s) :=
  (setPsc_loadSame s _).trans (raise_loadSame _ _)

theorem leaveRest_loadSame (s : State) : LoadSame s (leaveRest s) := by
  have hzc : LoadSame s (s.setZc { s.zc with period := s.zc.pendingPeriod, periodTimer := some (periodLength s.zc.pendingPeriod) }) :=
    setZc_loadSame fun _ => rfl
  have h1 : LoadSame s (if s.psc.power = .parked then
      (s.setZc { s.zc with period := s.zc.pendingPeriod, periodTimer := some (periodLength s.zc.pendingPeriod) }).setSsu
        (s.ssu.map (fun r => { r with sampledAt := some s.partTime }))
      else s) := .ite (hzc.trans (setSsu_loadSame _ _)) (.refl s)
  unfold leaveRest
  dsimp only
  generalize (if s.psc.power = .parked then _ else s) = s1 at h1 ⊢
  exact h1.trans ⟨rfl, rfl, rfl, fun _ => rfl, rfl, rfl, rfl, fun _ => ⟨rfl, rfl⟩, rfl, fun _ => rfl, rfl⟩

theorem enterParked_loadSame (s : State) : LoadSame s (enterParked s) :=
  (setZc_loadSame (s := s) (zc := { s.zc with periodTimer := none }) fun _ => rfl).trans (enterPower_loadSame .parked _)

theorem bringToAuto_loads (z : Zone) {s : State} (h : LoadRest s) : LoadRest (bringToAuto z s) :=
  .ite (.ite (setZone_sameMode_loads h rfl) (takeMode_loads z .auto h)) h

theorem layoverZone_loads (s : State) (z : Zone) (h : LoadRest s) : LoadRest (layoverZone s z) :=
  .ite (.ite (bringToAuto_loads z h) (enterStandby_loads z h)) h

theorem releaseZone_loads (s : State) (z : Zone) (h : LoadRest s) : LoadRest (releaseZone s z) := .ite h (takeMode_loads z _ h)

theorem enterLayover_loads {s : State} (h : LoadRest s) : LoadRest (enterLayover s) :=
  .foldl layoverZone_loads _ (h.of_loadSame (enterPower_loadSame _ _))

theorem releasedZones_loads (p : PowerState) {s : State} (h : LoadRest s) :
    LoadRest (Zone.all.foldl releaseZone (enterPower p (leaveRest s))) :=
  .foldl releaseZone_loads _ ((h.of_loadSame (leaveRest_loadSame s)).of_loadSame (enterPower_loadSame p _))

theorem preconditionZones_loads {s : State} (h : LoadRest s) : LoadRest (preconditionZones s) :=
  .ite (.foldl (fun _ z => bringToAuto_loads z) _ h) h

theorem leaveForRun_loads {s : State} (h : LoadRest s) : LoadRest (leaveForRun s) := preconditionZones_loads (releasedZones_loads .run h)

theorem leaveForLayover_loads {s : State} (h : LoadRest s) : LoadRest (leaveForLayover s) :=
  .foldl layoverZone_loads _ (releasedZones_loads .layover h)

/-- A wind-down that goes on or ends keeps the laws of the loads (R157, R158). -/
theorem windDownReports_loadLaw {s : State} (h : LoadLaw s) : LoadLaw (windDownReports s) := by
  have h1 : LoadLaw (s.setPsc { s.psc with stopped := reportStopped s }) := h.of_loadSame (setPsc_loadSame s _)
  refine .ite (.ite (.ite ?_ (.ite ?_ ?_)) h1) h
  · exact shedTest_loadLaw (leaveForRun_loads h1.rest)
  · exact shedTest_loadLaw (leaveForLayover_loads h1.rest)
  · exact h1.of_loadSame (enterParked_loadSame _)

/-- The end of an event brings the load within its bound (R84). -/
theorem endEvent_loadLaw {s : State} (h : LoadRest s) : LoadLaw (endEvent s) := windDownReports_loadLaw (shedTest_loadLaw h)

/-! ### Screen clear (R138, R147 to R151) -/

/-- Screen clear asserted or released touches the screen blower's load alone. -/
theorem setScm_loads {s : State} (h : LoadRest s) (v : ScreenMonitor) : LoadRest (s.setScm v) :=
  h.of_plantSame ⟨rfl, fun _ => rfl, rfl, rfl, fun _ => ⟨rfl, rfl⟩, rfl, fun _ => rfl⟩ h.orders

theorem assertScreen_loads {s : State} (h : LoadRest s) : LoadRest (assertScreen s) := by
  unfold assertScreen
  have h1 : LoadRest (raise .screen (s.setScm { s.scm with active := true, activeSince := some s.partTime, fog := 0 })) :=
    (setScm_loads h _).of_loadSame (raise_loadSame _ _)
  dsimp only
  generalize raise .screen (s.setScm { s.scm with active := true, activeSince := some s.partTime, fog := 0 }) = s1 at h1
  have h2 : LoadRest (arbEvent (assertScreenEntries s.partTime) s1) :=
    arbEvent_loads h1 (ordersLawful_closed.assertScreen _ _ h1.orders)
  generalize arbEvent (assertScreenEntries s.partTime) s1 = s2 at h2
  exact shedTest_loads (h2.of_loadSame (setApc_loadSame rfl fun _ => ⟨rfl, rfl⟩))

theorem releaseScreen_loads {s : State} (h : LoadRest s) : LoadRest (releaseScreen s) := by
  have h1 : LoadRest (arbEvent (releaseScreenEntries s.partTime) (s.setScm { s.scm with active := false, activeSince := none })) :=
    arbEvent_loads (setScm_loads h _) (ordersLawful_closed.releaseScreen _ _ h.orders)
  exact restoreAttempt_loads (shedTest_loads h1)

theorem screenWork_loads {s : State} (h : LoadRest s) : LoadRest (screenWork s) := by
  have h1 : LoadRest (s.setScm (screenUpdate s)) := setScm_loads h _
  exact .ite (.ite (releaseScreen_loads h1) h1) (.ite (assertScreen_loads h1) h1)

/-! ### Power State Controller (R153 to R163) -/

theorem windDownScreen_loads {s : State} (h : LoadRest s) : LoadRest (windDownScreen s) := by
  have h1 : LoadRest (if s.scm.active then releaseScreen s else s) := .ite (releaseScreen_loads h) h
  unfold windDownScreen
  dsimp only
  generalize (if s.scm.active then releaseScreen s else s) = s1 at h1
  exact setScm_loads h1 _

theorem windDownHeating_loads {s : State} (h : LoadRest s) : LoadRest (windDownHeating s) := windDownPump_loads (stopHeater_loads _ h)

theorem dampersToFreshMin_loadSame (s : State) : LoadSame s (dampersToFreshMin s) := setApc_loadSame rfl fun _ => ⟨rfl, rfl⟩

theorem windDown_loadLaw {s : State} (h : LoadRest s) : LoadLaw (windDown s) := by
  have h1 : LoadRest (Zone.all.foldl (fun s z => enterStandby z s)
      (enterPower .windingDown (s.setPsc { s.psc with stopped := ⟨false, false, false⟩ }))) :=
    .foldl (fun _ z => enterStandby_loads z) _ ((h.of_loadSame (setPsc_loadSame s _)).of_loadSame (enterPower_loadSame _ _))
  have h2 := windDownHeating_loads (unloadComp_loads .b (unloadComp_loads .a (windDownScreen_loads h1)))
  exact endEvent_loadLaw (h2.of_loadSame (dampersToFreshMin_loadSame _))

theorem wakeToLayover_loads {s : State} (h : LoadRest s) : LoadRest (wakeToLayover s) := .ite h (leaveForLayover_loads h)

theorem reachLead_loads {s : State} (h : LoadRest s) : LoadRest (reachLead s) := by
  have h1 : LoadRest (raise .depart (s.setPsc { s.psc with precondition := true, leadArmed := false })) :=
    (h.of_loadSame (setPsc_loadSame s _)).of_loadSame (raise_loadSame _ _)
  exact .foldl (fun _ z => bringToAuto_loads z) _ (wakeToLayover_loads h1)

theorem setDepart_loads (minutes : Nat) {s : State} (h : LoadRest s) : LoadRest (setDepart minutes s) := by
  have h1 : ∀ p, LoadRest (s.setPsc p) := fun p => h.of_loadSame (setPsc_loadSame s p)
  exact .ite (reachLead_loads (h1 _)) ((h1 _).of_loadSame (setPsc_loadSame _ _))

theorem loadLead_loads (lead : Nat) {s : State} (h : LoadRest s) : LoadRest (loadLead lead s) := by
  have h1 : LoadRest (s.setPsc { s.psc with departLead := lead }) := h.of_loadSame (setPsc_loadSame s _)
  unfold loadLead
  dsimp only
  split
  · exact .ite (reachLead_loads (h1.of_loadSame (setPsc_loadSame _ _))) (h1.of_loadSame (setPsc_loadSame _ _))
  · exact h1

theorem ignitionChanged_loads (on : Bool) {s : State} (h : LoadRest s) : LoadRest (ignitionChanged on s) := by
  have h1 : LoadRest (s.setPins { s.pins with ignition := on }) := h.of_loadSame (setPins_loadSame s _)
  unfold ignitionChanged
  refine .ite ?_ (.ite (h1.of_loadSame (setPsc_loadSame _ _)) h1)
  split
  · exact h1.of_loadSame (setPsc_loadSame _ _)
  · exact h1.of_loadSame (enterPower_loadSame .run _)
  · exact leaveForRun_loads h1
  · exact leaveForRun_loads h1

theorem doorChanged_loads (d : Door) {s : State} (h : LoadRest s) : LoadRest (doorChanged d s) := by
  have h1 : LoadRest (s.setPins (doorPins d s.pins)) := h.of_loadSame (setPins_loadSame s _)
  rw [doorChanged_eq]
  exact .ite (.foldl (fun _ z => reloadEvent_loads .door z) _ h1) (leaveForLayover_loads h1)

/-! ### The control period and samples (R4, R9) -/

theorem periodWork_loadLaw {s : State} (h : LoadRest s) : LoadLaw (periodWork s) := by
  have h1 : LoadRest (Zone.all.foldl (fun s z => evaluateZone z s) s) := .foldl (fun _ z => evaluateZone_loads z) _ h
  unfold periodWork
  dsimp only
  generalize Zone.all.foldl (fun s z => evaluateZone z s) s = s1 at h1
  have h2 : LoadRest (s1.setZc (restartPeriod s1.zc)) := h1.of_loadSame (setZc_loadSame fun _ => rfl)
  exact endEvent_loadLaw (h2.of_loadSame (setHlu_loadSame _ _))

theorem sampleUsers_loads (c : Channel) (failed : Bool) {s : State} (h : LoadRest s) : LoadRest (sampleUsers c failed s) := by
  unfold sampleUsers
  split
  · exact .foldl deriveSensor_loads _ h
  · exact coolantSampled_loads failed h
  · exact protectComp_loads _ false true failed h
  · exact protectComp_loads _ true false failed h
  · exact protectComp_loads _ false true false h
  all_goals exact h

theorem takeSample_loadSame (c : Channel) (v : Int) (s : State) : LoadSame s (takeSample c v s) :=
  .ite ((setSsu_loadSame s _).trans (raise_loadSame _ _)) (setSsu_loadSame s _)

theorem sampleWork_loadLaw (c : Channel) (v : Int) {s : State} (h : LoadLaw s) : LoadLaw (sampleWork c v s) :=
  .ite h (endEvent_loadLaw (sampleUsers_loads c _ (h.rest.of_loadSame (takeSample_loadSame c v s))))

/-! ### Host allowances and their fallback (R75 to R79) -/

/-- A load account changed beside its stack leaves what is counted. -/
theorem committedLoad_setLa {s : State} {la : LoadAccount} (hst : la.stack = s.la.stack) : committedLoad (s.setLa la) = committedLoad s :=
  committedLoad_congr (fun j => by
    cases j with
    | comp c => exact congrArg (fun b => if compCounted (s.comp c).state && !b then 4200 else 0) (onStack_congr hst _)
    | pump => exact congrArg (fun b => if s.hs.pump && !b then 180 else 0) (onStack_congr hst _)
    | heater => exact congrArg (fun b => if heaterCounted s.hs.heater && !b then 140 else 0) (onStack_congr hst _)
    | blower z => rfl) rfl

/-- An allowance in force that moved: lower, loads are shed; higher, the bound has grown (R84, R88). -/
theorem allowanceMoved_loadLaw {s t : State} {la : LoadAccount} (h : LoadLaw s) (hst : la.stack = s.la.stack)
    (k : LoadSame (s.setLa la) t) : LoadLaw (allowanceMoved (allowanceInForce s.la) t) := by
  have h1 : LoadRest (s.setLa la) := h.rest.of_plantSame ⟨hst, fun _ => rfl, rfl, rfl, fun _ => ⟨rfl, rfl⟩, rfl, fun _ => rfl⟩ h.rest.orders
  have grown : allowanceInForce s.la ≤ allowanceInForce la → LoadLaw t := fun hle => by
    refine LoadLaw.of_loadSame ⟨h1, ?_⟩ k
    unfold WithinBound
    rw [committedLoad_setLa hst]
    exact h.bound.trans (max_le_max_right _ hle)
  unfold allowanceMoved
  split
  next => exact endEvent_loadLaw (h1.of_loadSame k)
  next hlow =>
    have hle : allowanceInForce s.la ≤ allowanceInForce la := k.allowance ▸ Nat.le_of_not_lt hlow
    exact .ite (restoreAttempt_loadLaw (grown hle)) (grown hle)

end Sys2Proof.Machine

namespace Sys2Proof.Machine

/-! ## Settings and resets keep the laws of the loads -/

/-! ### VENT LIMITS and the profile (R140, R176) -/

section
variable {full : Zone → Prop}

/-- A new vent minimum leaves the blowers' laws to the computation that follows. -/
theorem setVentMin_loads {s : State} (h : LoadRest s) {a : AirPath} (hb : a.blowers = s.apc.blowers) :
    LoadStands anyZone (fun _ => s.apc.ventMin = a.ventMin) (s.setApc a) := by
  have hblower : ∀ z, (s.setApc a).blower z = s.blower z := fun z => congrArg (fun bs => PerZone.get bs z) hb
  refine ⟨h.orders, h.stack, h.plant, fun z hz => ?_, fun z hz hv => ?_⟩
  · have hm := h.modes z hz
    unfold BlowerHanded at hm ⊢
    rwa [hblower]
  · have hl := h.blowers z hz trivial
    unfold blowerLawful at hl ⊢
    dsimp only at hl ⊢
    rw [hblower]
    rwa [hv] at hl

/-- All blowers computed again where the vent minimum changed are lawful (R140). -/
theorem computedForVentMin_loads {v w : Nat} {s : State} (h : LoadStands anyZone (fun _ => v = w) s) :
    LoadRest (if v = w then s else computeAllBlowers s) := by
  split
  next hv => exact h.mono (fun _ => id) fun _ _ _ => hv
  next => exact computeAllBlowers_loads h

theorem applyFreshMin_loadSame (s : State) : LoadSame s (applyFreshMin s) :=
  .ite (setApc_loadSame rfl fun _ => ⟨rfl, rfl⟩) (dampersToFreshMin_loadSame s)

theorem setLimits_loadLaw (vent fresh : Nat) {s : State} (h : LoadRest s) : LoadLaw (setLimits vent fresh s) := by
  have h1 := computedForVentMin_loads (setVentMin_loads h (a := { s.apc with ventMin := vent, freshMin := fresh }) rfl)
  exact endEvent_loadLaw (.ite h1 (h1.of_loadSame (applyFreshMin_loadSame _)))

/-- Loaded settings touch the laws of the loads by the orders and the vent minimum alone (R176). -/
theorem takeSettings_loads {g : Settings} (hg : ordersLawful g.orders) {s : State} (h : LoadRest s) :
    LoadStands anyZone (fun _ => s.apc.ventMin = g.ventMin) (takeSettings g s) := by
  have h1 := setVentMin_loads h (a := { s.apc with curveTable := g.curveTable, ventMin := g.ventMin, freshMin := g.freshMin }) rfl
  refine h1.of_plantSame ⟨rfl, fun c => ?_, rfl, rfl, fun _ => ⟨rfl, rfl⟩, rfl, fun z => ?_⟩ hg
  · cases c <;> rfl
  · change ((s.zc.zones.map fun z r => loadedZone (g.zones.get z) r).get z).opMode = _
    rw [PerZone.get_map]
    rfl

theorem loadZoneActions_loads (old : PerZone ZoneRec) (s : State) (z : Zone) (h : LoadStands anyZone full s) :
    LoadStands anyZone full (loadZoneActions old s z) := by
  have h1 : LoadStands anyZone full (s.setZone z (adaptTimer s.psc.power s.psc.precondition (s.zone z))) :=
    setZone_sameMode_loads h (adaptTimer_opMode _ _ _)
  exact .ite h1 (applyHostMode_loads z h1)

theorem loadBlocks_loads {g : Settings} (hg : ordersLawful g.orders) {s : State} (h : LoadRest s) : LoadRest (loadBlocks g s) := by
  have h1 : LoadStands anyZone (fun _ => s.apc.ventMin = g.ventMin) (Zone.all.foldl (loadZoneActions s.zc.zones) (takeSettings g s)) :=
    .foldl (loadZoneActions_loads _) _ (takeSettings_loads hg h)
  unfold loadBlocks
  dsimp only
  generalize Zone.all.foldl (loadZoneActions s.zc.zones) (takeSettings g s) = s2 at h1
  have h2 : LoadStands anyZone (fun _ => s.apc.ventMin = g.ventMin) (arbEvent (actOnSettings s2.partTime) s2) :=
    arbEvent_loads h1 (ordersLawful_closed.settings _ _ h1.orders)
  generalize arbEvent (actOnSettings s2.partTime) s2 = s3 at h2
  have h3 := computedForVentMin_loads
    (.ite (c := (s.hs.permit && !g.permit) = true) (stopHeater_loads s3.partTime h2) h2)
  exact .ite h3 (h3.of_loadSame (applyFreshMin_loadSame _))

theorem applyProfile_loadLaw {g : Settings} (hg : ordersLawful g.orders) {s : State} (h : LoadRest s) : LoadLaw (applyProfile g s) := by
  have h1 := loadLead_loads g.departLead (loadBlocks_loads hg h)
  rw [applyProfile_eq]
  dsimp only
  generalize loadLead g.departLead (loadBlocks g s) = s7 at h1
  have h2 : LoadLaw (shedTest (if s.hlu.snapshotRate = g.snapshotRate then s7 else s7.setHlu (setSnapshotRate g.snapshotRate s7.hlu))) :=
    shedTest_loadLaw (.ite h1 (h1.of_loadSame (setHlu_loadSame _ _)))
  exact windDownReports_loadLaw (.ite (restoreAttempt_loadLaw h2) h2)

end

/-! ### Resets (R172, R173) -/

theorem resetBlocks_loads (now : Nat) (pins : Pins) (lineRate : Nat) (cs : Settings → Cooling) (hs : Settings → Heating) (s : State) :
    LoadRest (resetBlocks now pins lineRate cs hs s) := by
  have hblower : ∀ z, (resetBlocks now pins lineRate cs hs s).blower z = ⟨none, 0, 0, 0⟩ := fun z => by cases z <;> rfl
  refine ⟨ordersLawful_loadSettings _, List.nodup_nil, ⟨fun c => nofun, nofun, nofun⟩, fun z _ => .inl ?_, fun z _ _ => ?_⟩
  · rw [hblower]
    exact ⟨rfl, rfl⟩
  · rw [blowerLawful_iff, BlowerHanded, hblower]
    exact ⟨.inl ⟨rfl, rfl⟩, fun _ => rfl, fun hn => absurd rfl hn, fun _ => Nat.zero_le _⟩

theorem resetEntry_loads {s : State} (h : LoadRest s) : LoadRest (resetEntry s) :=
  .ite (h.of_loadSame (enterPower_loadSame .run s)) (enterLayover_loads h)

theorem softResetWork_loadLaw (s : State) : LoadLaw (softResetWork s) := shedTest_loadLaw (resetEntry_loads (resetBlocks_loads _ _ _ _ _ s))

/-- A power-on reset commits no load. -/
theorem powerOnReset_loadLaw {pins : Pins} {s t : State} (he : exec (.powerOnReset pins) s = .next t) : LoadLaw t := by
  refine ⟨?_, ?_⟩
  · cases he
    exact resetEntry_loads (resetBlocks_loads _ _ _ _ _ s)
  · obtain ⟨u, hu, -, -, -, -, -, -, -, -, -, ⟨-, -, -, hc⟩, -⟩ := powerOnReset pins s
    cases he.symm.trans hu
    unfold WithinBound
    rw [hc]
    exact Nat.zero_le _

end Sys2Proof.Machine

namespace Sys2Proof.Machine

/-! ## Every step keeps the laws of the loads (R84, R87) -/

theorem setMasks_event_loads (m : PerZone Bool) {s : State} (h : LoadRest s) : LoadRest (arbEvent (setMasks s.partTime m) s) :=
  arbEvent_loads h ((ordersLawful_tokens s.partTime).servedOr (a := s.ca.withMasks m) h.orders (setMasks_servedOr _ m s.ca))

theorem applyOrder_loadLaw {id : ArbiterId} {ls : List Line} {s : State}
    (hls : ls.Perm (arbiterLines id) ∨ ls.Perm (s.ca.orders.get id)) (h : LoadRest s) : LoadLaw (applyOrder id ls s).1 := by
  have h1 : LoadRest (arbEvent (setOrder s.partTime id ls) s) := arbEvent_loads h (ordersLawful_closed.order _ id ls _ hls h.orders)
  unfold applyOrder
  dsimp only
  exact endEvent_loadLaw h1

theorem setModes_event_loads (m : ArbModes) {s : State} (h : LoadRest s) : LoadRest (arbEvent (setModes s.partTime m) s) :=
  arbEvent_loads h (ordersLawful_closed.modes _ m _ h.orders)

/-- A cleared lockout starts no compressor (R108). -/
theorem clearComp_loads (c : Comp) {s : State} (h : LoadRest s) : LoadRest (s.setComp c (clearComp s.partTime (s.comp c))) := by
  unfold clearComp
  split
  · exact setComp_stopped_loads h ⟨nofun, nofun⟩
  · exact setComp_sameState_loads h rfl

theorem clearHeater_loads {s : State} (h : LoadRest s) : LoadRest (s.setHs (clearHeater s.partTime s.hs)) := by
  unfold clearHeater
  split
  · exact setHs_stopped_loads h rfl rfl
  · exact setHs_samePlant_loads h rfl rfl

theorem setPermit_loads (on : Bool) {s : State} (h : LoadRest s) : LoadRest (s.setHs (setPermit s.partTime on s.hs)) := by
  unfold setPermit
  split
  · exact setHs_stopped_loads h (stopHeater_plant _ { s.hs with permit := on }).1 (stopHeater_stops _ _).1
  · exact setHs_samePlant_loads h rfl rfl

theorem takeScreen_loadLaw (v : ScreenValue) {s : State} (h : LoadLaw s) : LoadLaw (takeScreen v s) := by
  unfold takeScreen
  split
  · exact h
  · exact h.of_loadSame (setScm_loadSame rfl)
  · have h1 : LoadLaw (s.setScm { s.scm with hostRequest := true }) := h.of_loadSame (setScm_loadSame rfl)
    exact .ite (endEvent_loadLaw (assertScreen_loads h1.rest)) h1

/-- The effect of every command keeps the laws of the loads. -/
theorem bodyOf_loadLaw (i : Instr) {s : State} (h : LoadLaw s) : LoadLaw (bodyOf i s).1 := by
  by_cases hm : (isHostCommand i && movesPlant i) = false
  · exact h.of_loadSame (bodyOf_loadSame hm s)
  have hr := h.rest
  cases i with
  | zoneSet z m sp =>
    dsimp only [bodyOf, cmdZoneSet]
    split
    next z m _ _ =>
      have h1 : LoadRest (s.setZone z (zoneSetRec m (stepSetpoint sp.toInt) (s.zone z))) := setZone_sameMode_loads hr rfl
      exact endEvent_loadLaw (applyHostMode_loads z h1)
    next => exact h
  | seats => exact endEvent_loadLaw (.foldl (fun _ z => seatCount_loads z _) _ hr)
  | nudge z d =>
    dsimp only [bodyOf, cmdNudge]
    split
    next z _ _ _ =>
      dsimp only
      exact endEvent_loadLaw (reloadEvent_loads _ _ (setZone_sameMode_loads hr rfl))
    next => exact h
  | touch zs =>
    dsimp only [bodyOf, cmdTouch]
    split
    · exact h
    · exact endEvent_loadLaw (.foldl (fun _ z ht => .ite (reloadEvent_loads .touch z ht) ht) _ hr)
  | arbMode a b c d e =>
    dsimp only [bodyOf, cmdArbMode]
    split
    · dsimp only
      exact endEvent_loadLaw (setModes_event_loads _ hr)
    · exact h
  | arbOrder a ls =>
    dsimp only [bodyOf, cmdArbOrder]
    split
    · split
      next ho => exact applyOrder_loadLaw (.inl (orderOfCodes_perm ho)) hr
      next => exact h
    · exact h
  | rotate a l =>
    dsimp only [bodyOf, cmdRotate]
    split
    next id line _ _ =>
      split
      · exact applyOrder_loadLaw (.inr (rotateOrder_perm line _)) hr
      · exact h
    next => exact h
  | mask zs =>
    dsimp only [bodyOf, cmdMask]
    split
    · have h1 := setMasks_event_loads (zonesOfSet zs) hr
      dsimp only
      exact endEvent_loadLaw h1
    · exact h
  | release z =>
    dsimp only [bodyOf, cmdRelease]
    split
    · dsimp only
      exact endEvent_loadLaw (withdraw_loads _ hr)
    · exact h
  | allowance w => exact allowanceMoved_loadLaw h (la := refreshAllowance s.partTime (stepAllowance w.toNat) s.la) rfl (.refl _)
  | clearLockout t =>
    dsimp only [bodyOf, cmdClearLockout]
    split
    next c _ =>
      have h1 := clearComp_loads c hr
      dsimp only
      exact endEvent_loadLaw h1
    next =>
      have h1 := clearHeater_loads hr
      dsimp only
      exact endEvent_loadLaw h1
    next => exact h
  | fuelPermit p =>
    dsimp only [bodyOf, cmdFuelPermit]
    split
    next on _ =>
      have h1 := setPermit_loads on hr
      dsimp only
      exact endEvent_loadLaw h1
    next => exact h
  | ventLimits v f => exact setLimits_loadLaw _ _ hr
  | screen v =>
    dsimp only [bodyOf, cmdScreen]
    split
    · exact takeScreen_loadLaw _ h
    · exact h
  | park =>
    dsimp only [bodyOf, cmdPark]
    split
    · exact h
    · split
      · exact h
      · dsimp only [powerReply]
        exact windDown_loadLaw hr
    all_goals split <;> exact h
  | depart m => exact .ite (h.of_loadSame (setPsc_loadSame s _)) (endEvent_loadLaw (setDepart_loads _ hr))
  | profileLoad =>
    dsimp only [bodyOf, cmdProfileLoad]
    split
    · dsimp only
      exact applyProfile_loadLaw (ordersLawful_loadSettings _) hr
    · exact h
  | _ => exact absurd rfl hm

theorem frameBody_loadLaw {body : CommandBody} (hb : FrameBody body) {s : State} (h : LoadLaw s) : LoadLaw (body s).1 := by
  cases hb with
  | command i => exact bodyOf_loadLaw i h
  | answer f => exact h

/-- A completed frame keeps the laws through the wake and its command's effect (R159, R165). -/
theorem completeFrame_loadLaw (rtype : Byte) {body : CommandBody} (hb : FrameBody body) {s : State} (h : LoadLaw s) :
    LoadLaw (completeFrame rtype body s) := by
  have h1 : LoadLaw (wakeByFrame s) := .ite (endEvent_loadLaw (leaveForLayover_loads h.rest)) h
  exact .ite h1 ((frameBody_loadLaw hb h1).of_loadSame (setHlu_loadSame _ _))

/-- A compressor still in Starting is not on the stack, and may run (R87, R95). -/
theorem runRec_loads (c : Comp) {s : State} (h : LoadRest s) (hd : compDue c .starting 5 s = true) :
    LoadRest (s.setComp c (runRec s.partTime (lowUsed s c) (s.comp c))) := by
  have hst : (s.comp c).state = .starting := by
    simp only [compDue, Bool.and_eq_true, beq_iff_eq] at hd
    exact hd.1
  exact h.setComp fun hi => absurd hst (h.plant.1 c hi).1

/-- Every event that moves plant keeps the laws of the loads. -/
theorem plantEvent_loadLaw {i : Instr} (hm : movesPlant i = true) (hh : isHostCommand i = false) {s t : State}
    (he : exec i s = .next t) (h : LoadLaw s) : LoadLaw t := by
  have due : ∀ {u : State} {c : Prop} [Decidable c], exec i s = .next (if c then u else s) → (c → LoadLaw u) → LoadLaw t := fun hu k => by
    cases he.symm.trans hu
    split
    next hc => exact k hc
    next => exact h
  have always : ∀ {u : State}, exec i s = .next u → LoadLaw u → LoadLaw t := fun hu k => by
    cases he.symm.trans hu
    exact k
  have hr := h.rest
  cases i with
  | ignition on => exact always rfl (.ite h (endEvent_loadLaw (ignitionChanged_loads on hr)))
  | doorEdge d => exact always rfl (endEvent_loadLaw (doorChanged_loads d hr))
  | flameLoss =>
    exact due rfl fun _ => endEvent_loadLaw (flameGoes_loads (hr.of_loadSame (setPins_loadSame s { s.pins with flame := false })))
  | sample c v => exact always rfl (sampleWork_loadLaw c v h)
  | periodExpiry => exact due rfl fun _ => periodWork_loadLaw hr
  | inactivityTimerExpiry z => exact due rfl fun _ => endEvent_loadLaw (timerExpired_loads z hr)
  | holdEnd e =>
    exact due rfl fun _ => endEvent_loadLaw (arbEvent_loads hr (ordersLawful_closed.holdEnd s.partTime e _ hr.orders))
  | fallback => exact due rfl fun _ => allowanceMoved_loadLaw h (la := { s.la with status := .fallback }) rfl (raise_loadSame _ _)
  | stagingCheck => exact due rfl fun _ => endEvent_loadLaw (stagingWork_loads hr)
  | startingExpiry c => exact due rfl fun hd => endEvent_loadLaw (reportPool_loads _ _ (runRec_loads c hr hd))
  | unloadingExpiry c =>
    exact due rfl fun _ => endEvent_loadLaw (restoreIfFell_loads _ (setComp_stopped_loads hr ⟨nofun, nofun⟩))
  | heatingCheck => exact due rfl fun _ => endEvent_loadLaw (heatingWork_loads hr)
  | ignitionExpiry => exact due rfl fun _ => endEvent_loadLaw (endIgnition_loads hr)
  | purgeExpiry => exact due rfl fun _ => endEvent_loadLaw (endPurge_loads hr)
  | screenCheck => exact due rfl fun _ => endEvent_loadLaw (screenWork_loads hr)
  | ignitionOffExpiry => exact due rfl fun _ => endEvent_loadLaw (enterLayover_loads hr)
  | leadExpiry => exact due rfl fun _ => endEvent_loadLaw (reachLead_loads hr)
  | softReset => exact always rfl (.ite (softResetWork_loadLaw s) h)
  | powerOnReset pins => exact powerOnReset_loadLaw he
  | _ => revert hm hh; exact nofun

theorem exec_loadLaw {i : Instr} {s t : State} (he : exec i s = .next t) (h : LoadLaw s) : LoadLaw t := by
  rcases exec_split i s with ⟨u, rtype, body, hu, hb, hx⟩ | ⟨u, hx, hu⟩ | ⟨hm, hh⟩
  · cases he.symm.trans hx
    exact completeFrame_loadLaw rtype hb (h.of_loadSame hu)
  · cases he.symm.trans hx
    exact h.of_loadSame hu
  · exact plantEvent_loadLaw hm hh he h

theorem step_loadLaw {s t : State} (he : step s = .next t) (h : LoadLaw s) : LoadLaw t := by
  unfold step at he
  split at he
  · cases he
    exact h
  next i rest _ => exact exec_loadLaw he (h.of_loadSame (setPending_loadSame s rest))

/-- Settles O54: every step keeps `LoadLaw`, the laws of the loads with lawful orders; what an operation may break in the middle of an
event, blowers not yet computed and the bound, the handed modes and the test of shedding at its end restore. -/
theorem loadBoundKept : Obligations.LoadBoundKept := by
  intro s t ho hl he
  exact ((loadLaw_iff t).1 (step_loadLaw he ((loadLaw_iff s).2 ⟨ho, hl⟩))).2

end Sys2Proof.Machine

namespace Sys2Proof.Machine

/-! ## The allowance in force (R75 to R77) -/

/-- What follows a moved allowance in force is a step of arbiter, loads, plant and air. -/
theorem allowanceMoved_plantStep (n : Nat) {s u : State} (h : PlantOnly s u) : PlantStep s (allowanceMoved n u) := by
  unfold allowanceMoved
  split
  · exact endEvent_plantStep h
  · exact (h.trans (.ite (restoreAttempt_plantOnly u) (.refl u))).plantStep

theorem allowanceMoved_settingsKept (n : Nat) (u : State) : SettingsKept u (allowanceMoved n u) :=
  .ite (endEvent_settingsKept u) (.ite (restoreAttempt_settingsKept u) (.refl u))

/-- An allowance in force that does not fall pops entries at most, and one that stays pops none (R76, R88). -/
theorem allowanceMoved_notLower {n : Nat} {u : State} (h : n ≤ allowanceInForce u.la) :
    ∃ k, k <:+ u.la.stack ∧ allowanceMoved n u = u.setLa { u.la with stack := k } ∧ (allowanceInForce u.la = n → k = u.la.stack) := by
  unfold allowanceMoved
  rw [if_neg (by omega)]
  split
  next hlt =>
    obtain ⟨k, hk, he⟩ := restoreAttempt_stack u
    exact ⟨k, hk, he, fun hn => by omega⟩
  next => exact ⟨u.la.stack, List.suffix_rfl, rfl, fun _ => rfl⟩

/-- Beside its stack the Load Account stands as it did when its allowance moved. -/
theorem allowanceMoved_la (n : Nat) (u : State) :
    (allowanceMoved n u).la.hostValue = u.la.hostValue ∧ (allowanceMoved n u).la.lastRefresh = u.la.lastRefresh ∧
      (allowanceMoved n u).la.status = u.la.status ∧ (allowanceMoved n u).la.fallback = u.la.fallback := by
  have h := (allowanceMoved_settingsKept n u).la
  exact ⟨congrArg (·.hostValue) h, congrArg (·.lastRefresh) h, congrArg (·.status) h, congrArg (·.fallback) h⟩

/-- An expiry is due in its status from a time after the last refresh on (R76). -/
theorem refreshOlder_iff (n : Nat) (s : State) : refreshOlder n s = true ↔ ∃ r, s.la.lastRefresh = some r ∧ r + (n + 1) ≤ s.partTime := by
  unfold refreshOlder
  cases s.la.lastRefresh with
  | none => simp
  | some r =>
    simp only [decide_eq_true_eq, Option.some.injEq, exists_eq_left']
    omega

theorem staleDue_iff (s : State) :
    staleDue s = true ↔ s.la.status = .fresh ∧ ∃ r, s.la.lastRefresh = some r ∧ r + 6 ≤ s.partTime := by
  rw [← refreshOlder_iff 5 s, staleDue, Bool.and_eq_true, beq_iff_eq]

theorem fallbackDue_iff (s : State) :
    fallbackDue s = true ↔ s.la.status = .stale ∧ ∃ r, s.la.lastRefresh = some r ∧ r + 31 ≤ s.partTime := by
  rw [← refreshOlder_iff 30 s, fallbackDue, Bool.and_eq_true, beq_iff_eq]

theorem not_expired {st : AllowanceStatus} {n : Nat} {s : State}
    (h : s.la.status ≠ st ∨ s.la.lastRefresh = none ∨ ∃ r, s.la.lastRefresh = some r ∧ s.partTime < r + n) :
    ¬ (s.la.status = st ∧ ∃ r, s.la.lastRefresh = some r ∧ r + n ≤ s.partTime) := by
  rintro ⟨hst, r, hr, hle⟩
  rcases h with h | h | ⟨q, h, hlt⟩
  · exact h hst
  · rw [hr] at h
    cases h
  · rw [hr] at h
    cases h
    omega

/-- ALLOWANCE taken: the value stepped and put in force, its reply formed (R77). -/
theorem execAllowance_eq (w : Half) {s : State} (hs : readyForCommand s = true) {x : Nat} (hx : x = min w.toNat 15000 / 50 * 50) :
    exec (.allowance w) s =
      .next
        (withReply 0x91 (if x = w.toNat then 0 else 1) [highByte (BitVec.ofNat 16 x), lowByte (BitVec.ofNat 16 x)]
          (allowanceMoved (allowanceInForce s.la) (s.setLa (refreshAllowance s.partTime x s.la)))) := by
  subst hx
  exact congrArg Host.Outcome.next
    (completeFrame_done hs (replyType 0x11) (body := cmdAllowance w) (b := stepAllowance w.toNat != w.toNat) rfl (by simp [stepAllowance]))

/-- Settles O15, with what ALLOWANCE and the two expiries change beside what follows a moved allowance in force. -/
theorem allowanceActs : Obligations.AllowanceActs := by
  refine ⟨fun w s hs => ⟨_, rfl, ?_⟩, fun s => ⟨fun r hr hst hdue => ?_, fun hn => ?_, fun r hr hst hdue => ?_, fun hn => ?_⟩⟩
  · refine ⟨_, execAllowance_eq w hs rfl, rfl, ?_, ?_, fun hle => ?_⟩
    · exact (allowanceMoved_plantStep _ (setLa_plantOnly s _)).withoutReply ((readyForCommand_iff s).1 hs).1 _ _ _
    · exact allowanceMoved_la _ (s.setLa _)
    · obtain ⟨k, hk, he, hsame⟩ := allowanceMoved_notLower (u := s.setLa (refreshAllowance s.partTime _ s.la)) hle
      rw [he]
      exact ⟨rfl, rfl, rfl, rfl, hk, hsame⟩
  · exact congrArg Host.Outcome.next (if_pos ((staleDue_iff s).2 ⟨hst, r, hr, hdue⟩))
  · exact congrArg Host.Outcome.next (if_neg (mt (staleDue_iff s).1 (not_expired hn)))
  · refine ⟨_, congrArg Host.Outcome.next (if_pos ((fallbackDue_iff s).2 ⟨hst, r, hr, hdue⟩)), ?_, ?_, ?_, fun hle => ?_⟩
    · exact allowanceMoved_plantStep _ ((setLa_plantOnly s _).trans (raise_plantOnly _ _))
    · exact (allowanceMoved_settingsKept _ _).flags _ (hasFlag_setFlag_self _ _)
    · obtain ⟨hv, hl, hstatus, hf⟩ := allowanceMoved_la (allowanceInForce s.la) (raise .allowance (s.setLa { s.la with status := .fallback }))
      exact ⟨hstatus, hv, hl.trans hr, hf⟩
    · obtain ⟨k, hk, he, -⟩ := allowanceMoved_notLower (u := raise .allowance (s.setLa { s.la with status := .fallback })) hle
      rw [he]
      exact ⟨rfl, rfl, rfl, rfl, hk⟩
  · exact congrArg Host.Outcome.next (if_neg (mt (fallbackDue_iff s).1 (not_expired hn)))

end Sys2Proof.Machine

namespace Sys2Proof.Machine

/-! ## Starts and refusals at a staging check (R80, R98 to R100) -/

/-- Only the Cooling Sequencer has changed, and flags have been raised. -/
structure CoolingOnly (s t : State) : Prop extends PlantOnly s t where
  ca : t.ca = s.ca
  la : t.la = s.la
  hs : t.hs = s.hs
  apc : t.apc = s.apc
  flags : ∀ f, hasFlag s.hlu.latched f = true → hasFlag t.hlu.latched f = true

theorem CoolingOnly.refl (s : State) : CoolingOnly s s := ⟨.refl s, rfl, rfl, rfl, rfl, fun _ => id⟩

theorem CoolingOnly.trans {s t u : State} (h : CoolingOnly s t) (k : CoolingOnly t u) : CoolingOnly s u :=
  ⟨h.1.trans k.1, k.2.trans h.2, k.3.trans h.3, k.4.trans h.4, k.5.trans h.5, fun f => k.6 f ∘ h.6 f⟩

theorem CoolingOnly.ite {s t u : State} {c : Prop} [Decidable c] (h : CoolingOnly s t) (k : CoolingOnly s u) :
    CoolingOnly s (if c then t else u) := by
  split <;> assumption

theorem setCs_coolingOnly (s : State) (v : Cooling) : CoolingOnly s (s.setCs v) :=
  ⟨setCs_plantOnly s v, rfl, rfl, rfl, rfl, fun _ => id⟩

theorem setComp_coolingOnly (s : State) (c : Comp) (r : CompRec) : CoolingOnly s (s.setComp c r) := setCs_coolingOnly s _

theorem raise_coolingOnly (f : Flag) (s : State) : CoolingOnly s (raise f s) :=
  ⟨raise_plantOnly f s, rfl, rfl, rfl, rfl, fun _ => hasFlag_setFlag_mono f⟩

/-- The bound on the load does not read the Cooling Sequencer (R84). -/
theorem CoolingOnly.loadBound {s t : State} (h : CoolingOnly s t) : loadBound t = loadBound s := by
  unfold Machine.loadBound floorLoad screenLoad State.zone
  rw [h.la, h.apc, h.scm, h.zc]

/-- A record whose compressor was refused for a condition (R98, R99). -/
def refusedRec (k : StartCondition) (r : CompRec) : CompRec := { r with reason := some k, episodeOpen := r.episodeOpen || k == .startLog }

/-- A refusal is recorded, with START_LIMIT where it opens a limit episode (R99). -/
theorem refuseStart_eq (c : Comp) (k : StartCondition) (s : State) :
    refuseStart c k s =
      if k = .startLog ∧ (s.comp c).episodeOpen = false then raise .startLimit (s.setComp c (refusedRec k (s.comp c)))
      else s.setComp c (refusedRec k (s.comp c)) := by
  unfold refuseStart refusedRec
  by_cases hk : k = .startLog
  · cases he : (s.comp c).episodeOpen <;> simp [hk, he]
  · simp [hk, beq_eq_false_iff_ne.2 hk]

theorem refuseStart_coolingOnly (c : Comp) (k : StartCondition) (s : State) : CoolingOnly s (refuseStart c k s) := by
  rw [refuseStart_eq]
  exact .ite ((setComp_coolingOnly s c _).trans (raise_coolingOnly _ _)) (setComp_coolingOnly s c _)

theorem refuseStart_comp (c d : Comp) (k : StartCondition) (s : State) :
    (refuseStart c k s).comp d = if d = c then refusedRec k (s.comp d) else s.comp d := by
  have hset : (s.setComp c (refusedRec k (s.comp c))).comp d = if d = c then refusedRec k (s.comp d) else s.comp d := by
    split
    next h => rw [h, State.comp_setComp_self]
    next h => exact s.comp_setComp_of_ne _ h
  rw [refuseStart_eq, ← hset]
  split <;> rfl

theorem refuseStart_startLimit {c : Comp} {s : State} (h : (s.comp c).episodeOpen = false) :
    hasFlag (refuseStart c .startLog s).hlu.latched .startLimit = true := by
  rw [refuseStart_eq, if_pos ⟨rfl, h⟩]
  exact hasFlag_setFlag_self _ _

theorem refuseStart_loadSame (c : Comp) (k : StartCondition) (s : State) : LoadSame s (refuseStart c k s) := by
  have hset : LoadSame s (s.setComp c (refusedRec k (s.comp c))) := setCs_loadSame fun d => by cases c <;> cases d <;> rfl
  rw [refuseStart_eq]
  exact .ite (hset.trans (raise_loadSame _ _)) hset

/-- A refusal of one compressor changes no start condition of the other. -/
theorem firstFailing_refuseStart (k : StartCondition) (s : State) : firstFailing (refuseStart .a k s) .b = firstFailing s .b := by
  have hset : firstFailing (s.setComp .a (refusedRec k (s.comp .a))) .b = firstFailing s .b := by
    have hholds : conditionHolds (s.setComp .a (refusedRec k (s.comp .a))) .b = conditionHolds s .b :=
      funext fun j => by cases j <;> rfl
    unfold firstFailing
    rw [hholds]
  rw [refuseStart_eq, ← hset]
  split <;> rfl

theorem askStart_coolingOnly (c : Comp) (s : State) : CoolingOnly s (askStart c s) :=
  .ite (setComp_coolingOnly s c _) (setComp_coolingOnly s c _)

/-- What the load account's answer makes of a compressor put to it (R80, R95). -/
def askedRec (s : State) (c : Comp) : CompRec :=
  if admitted s 4200 then startRec s.partTime (s.comp c) else { s.comp c with deferred := true }

theorem askStart_eq (c : Comp) (s : State) : askStart c s = s.setComp c (askedRec s c) := by
  unfold askStart askedRec
  split <;> rfl

theorem askStart_comp (c d : Comp) (s : State) : (askStart c s).comp d = if d = c then askedRec s c else s.comp d := by
  rw [askStart_eq]
  split
  next h => rw [h, State.comp_setComp_self]
  next h => exact s.comp_setComp_of_ne _ h

/-- An admitted start of a startable compressor adds its 4,200 W (R72, R80). -/
theorem askStart_committedLoad {c : Comp} {s : State} (h : firstFailing s c = none) :
    committedLoad (askStart c s) = committedLoad s + if admitted s 4200 then 4200 else 0 := by
  have hcount : ∀ d, countedLoad (askStart c s) (.comp d) =
      if compCounted (if d = c then askedRec s c else s.comp d).state && !onStack s.la (.comp d) then 4200 else 0 := fun d => by
    rw [← askStart_comp, ← (askStart_coolingOnly c s).la]
    rfl
  have hrest : ∀ j, j ≠ .comp c → countedLoad (askStart c s) j = countedLoad s j := fun j hj => by
    cases j with
    | comp d =>
      rw [hcount, if_neg fun hd => hj (congrArg LoadItem.comp hd)]
      rfl
    | pump => simp only [countedLoad, (askStart_coolingOnly c s).hs, (askStart_coolingOnly c s).la]
    | heater => simp only [countedLoad, (askStart_coolingOnly c s).hs, (askStart_coolingOnly c s).la]
    | blower z => simp only [countedLoad, State.blower, (askStart_coolingOnly c s).apc]
  have hone := committedLoad_one (.comp c) hrest (by unfold screenLoad; rw [(askStart_coolingOnly c s).scm])
  have hoff : countedLoad s (.comp c) = 0 := by simp [countedLoad, state_off_of_firstFailing h, compCounted]
  rw [hoff, hcount, if_pos rfl, not_onStack_of_firstFailing h] at hone
  rw [← Nat.add_zero (committedLoad (askStart c s)), hone]
  unfold askedRec
  split
  · rfl
  · simp [state_off_of_firstFailing h, compCounted]

/-- The compressor that a check puts to the load account: A where it is startable, and otherwise B where that is (R100). -/
def startPick (s : State) : Option Comp := if firstFailing s .a = none then some .a else if firstFailing s .b = none then some .b else none

/-- What the starts of a staging check do. -/
structure StartsTried (s t : State) : Prop extends CoolingOnly s t where
  picked : ∀ c, startPick s = some c → t.comp c = askedRec s c
  unpicked : ∀ c, startPick s ≠ some c → ∃ b k, t.comp c = { s.comp c with episodeOpen := b, reason := k }
  refused : ∀ c k, firstFailing s c = some k → (c = .b → firstFailing s .a ≠ none) →
    t.comp c = refusedRec k (s.comp c) ∧
      (k = .startLog → (s.comp c).episodeOpen = false → hasFlag t.hlu.latched .startLimit = true)
  load : committedLoad t = committedLoad s + if (startPick s).isSome ∧ admitted s 4200 = true then 4200 else 0

/-- A refusal of A changes nothing of the answer to B. -/
theorem refuseStart_asked (k : StartCondition) (s : State) :
    askedRec (refuseStart .a k s) .b = askedRec s .b ∧ admitted (refuseStart .a k s) 4200 = admitted s 4200 := by
  have hadm : admitted (refuseStart .a k s) 4200 = admitted s 4200 := by
    unfold admitted
    rw [(refuseStart_loadSame .a k s).committedLoad, (refuseStart_coolingOnly .a k s).la]
  refine ⟨?_, hadm⟩
  unfold askedRec
  rw [hadm, refuseStart_comp, if_neg (show Comp.b ≠ .a by decide), (refuseStart_coolingOnly .a k s).partTime]

/-- A and then B tested, the first startable one put to the load account (R100). -/
theorem tryStarts_tried (s : State) : StartsTried s (tryStarts s) := by
  unfold tryStarts
  cases ha : firstFailing s .a with
  | none =>
    have hp : startPick s = some .a := if_pos ha
    refine ⟨askStart_coolingOnly .a s, fun c hc => ?_, fun c hc => ?_, fun c k hk hb => ?_, ?_⟩
    · cases hp.symm.trans hc
      rw [askStart_comp, if_pos rfl]
    · rw [askStart_comp, if_neg fun h : c = .a => hc (h ▸ hp)]
      exact ⟨_, _, rfl⟩
    · cases c with
      | a => cases ha.symm.trans hk
      | b => exact absurd ha (hb rfl)
    · simp only [askStart_committedLoad ha, hp, Option.isSome_some, true_and]
  | some k =>
    have hbs := firstFailing_refuseStart k s
    have hflagA : ∀ j, firstFailing s .a = some j → j = .startLog → (s.comp .a).episodeOpen = false →
        hasFlag (refuseStart .a k s).hlu.latched .startLimit = true := fun j hj hlog he => by
      cases ha.symm.trans hj
      rw [hlog]
      exact refuseStart_startLimit he
    dsimp only
    rw [hbs]
    cases hb : firstFailing s .b with
    | none =>
      have hp : startPick s = some .b := by simp [startPick, ha, hb]
      obtain ⟨hrec, hadm⟩ := refuseStart_asked k s
      have hcool := askStart_coolingOnly .b (refuseStart .a k s)
      refine ⟨(refuseStart_coolingOnly .a k s).trans hcool, fun c hc => ?_, fun c hc => ?_, fun c j hj _ => ?_, ?_⟩
      · cases hp.symm.trans hc
        rw [askStart_comp, if_pos rfl, hrec]
      · rw [askStart_comp, if_neg fun h : c = .b => hc (h ▸ hp), refuseStart_comp]
        split <;> exact ⟨_, _, rfl⟩
      · cases c with
        | a =>
          refine ⟨?_, fun hlog he => hcool.flags _ (hflagA j hj hlog he)⟩
          cases ha.symm.trans hj
          rw [askStart_comp, if_neg (by decide), refuseStart_comp, if_pos rfl]
        | b => cases hb.symm.trans hj
      · simp only [askStart_committedLoad (hbs.trans hb), hadm, (refuseStart_loadSame .a k s).committedLoad, hp, Option.isSome_some, true_and]
    | some l =>
      have hp : startPick s = none := by simp [startPick, ha, hb]
      have hcool := refuseStart_coolingOnly .b l (refuseStart .a k s)
      have hcomp : ∀ c j, firstFailing s c = some j → (refuseStart .b l (refuseStart .a k s)).comp c = refusedRec j (s.comp c) := by
        intro c j hj
        rw [refuseStart_comp, refuseStart_comp]
        cases c with
        | a => cases ha.symm.trans hj; rfl
        | b => cases hb.symm.trans hj; rfl
      refine ⟨(refuseStart_coolingOnly .a k s).trans hcool, fun c hc => ?_, fun c _ => ?_, fun c j hj _ => ⟨hcomp c j hj, ?_⟩, ?_⟩
      · cases hp.symm.trans hc
      · cases c with
        | a => exact ⟨_, _, hcomp .a k ha⟩
        | b => exact ⟨_, _, hcomp .b l hb⟩
      · intro hlog he
        cases c with
        | a => exact hcool.flags _ (hflagA j hj hlog he)
        | b =>
          cases hb.symm.trans hj
          subst hlog
          exact refuseStart_startLimit (by rw [refuseStart_comp, if_neg (by decide)]; exact he)
      · rw [(refuseStart_loadSame .b l _).committedLoad, (refuseStart_loadSame .a k s).committedLoad, hp]
        rfl

/-! ## A staging check with nothing to stop (R99 to R101, R104, R106, R107) -/

/-- No compressor to stop, to trip or to leave Tripped at a staging check, as far as its own record says. -/
def NothingEnds (s : State) : Prop :=
  ∀ c, ((s.comp c).state = .running → (s.comp c).enable = true ∧ ∀ y, (s.comp c).chargeStart = some y → s.partTime < y + 30) ∧
    ((s.comp c).state = .tripped → s.partTime < (s.comp c).stateSince + 600)

theorem NothingEnds.chargeTrip {s : State} (h : NothingEnds s) (c : Comp) : chargeTrip s c = false := by
  unfold Machine.chargeTrip
  by_cases hr : (s.comp c).state = .running
  · cases hy : (s.comp c).chargeStart with
    | none => simp [lasted]
    | some y =>
      have := ((h c).1 hr).2 y hy
      simp [lasted, passed, this]
  · simp [hr]

theorem NothingEnds.tripOver {s : State} (h : NothingEnds s) (c : Comp) : tripOver s c = false := by
  unfold Machine.tripOver
  by_cases ht : (s.comp c).state = .tripped
  · have := (h c).2 ht
    simp [passed, this]
  · simp [ht]

theorem NothingEnds.stopDisabled {s : State} (h : NothingEnds s) (c : Comp) : stopDisabled c s = s := by
  refine if_neg fun hs => ?_
  rw [Bool.and_eq_true, mayStop, Bool.and_eq_true, beq_iff_eq] at hs
  obtain ⟨hen, hr, -⟩ := hs
  rw [((h c).1 hr).1] at hen
  cases hen

/-- The records brought up to a check (R99). -/
def recordsAged (s : State) : State :=
  s.setCs { s.cs with comps := s.cs.comps.map (ageRec s.partTime), checkedAt := some s.partTime }

theorem recordsAged_comp (s : State) (c : Comp) : (recordsAged s).comp c = ageRec s.partTime (s.comp c) := PerComp.get_map _ _ c

theorem recordsAged_nothingEnds {s : State} (h : NothingEnds s) : NothingEnds (recordsAged s) := fun c => by
  rw [recordsAged_comp]
  exact h c

theorem stagingUpdate_nothingEnds {s : State} (h : NothingEnds s) : stagingUpdate s = recordsAged s := by
  have hends : ∀ u, NothingEnds u → releaseTripped .b (releaseTripped .a
      (if chargeTrip (if chargeTrip u .a then tripComp .a u else u) .b then tripComp .b (if chargeTrip u .a then tripComp .a u else u)
        else if chargeTrip u .a then tripComp .a u else u)) = u := fun u hu => by
    simp only [releaseTripped, hu.chargeTrip, hu.tripOver, Bool.false_eq_true, if_false]
  exact hends _ (recordsAged_nothingEnds h)

/-- The stretches of a check that finds an excess (R100, R101). -/
def excessKept (s : State) : State :=
  s.setCs { s.cs with excess := some (s.cs.excess.getD s.partTime), surplus := none, idle := none }

theorem stagingStretches_excess {s : State} (hw : s.ca.coolCap < s.cs.wantedTotal) : stagingStretches s = excessKept s := by
  have hsurplus : ¬ s.cs.wantedTotal + 4 ≤ s.ca.coolCap := by omega
  have hidle : (s.cs.wantedTotal == 0) = false := beq_eq_false_iff_ne.2 (by omega)
  simp only [stagingStretches, excessKept, if_neg (Nat.not_le.2 hw), PerComp.map, keepStretch, decide_eq_true hw, decide_eq_false hsurplus,
    hidle, if_true, Bool.false_eq_true, if_false]

/-- What a check with an excess and nothing to stop brings up to date, before its starts. -/
def excessChecked (s : State) : State := excessKept (recordsAged s)

theorem excessChecked_comp (s : State) (c : Comp) : (excessChecked s).comp c = ageRec s.partTime (s.comp c) := recordsAged_comp s c

theorem excessChecked_coolingOnly (s : State) : CoolingOnly s (excessChecked s) := (setCs_coolingOnly s _).trans (setCs_coolingOnly _ _)

theorem excessChecked_loadSame (s : State) : LoadSame s (excessChecked s) := by
  refine LoadSame.trans (t := recordsAged s) (setCs_loadSame fun c => ?_) (setCs_loadSame fun _ => rfl)
  change ((recordsAged s).comp c).state = _
  rw [recordsAged_comp]
  rfl

/-- A check with nothing to stop starts where the excess stretch has lasted the stage delay. -/
theorem stagingWork_nothingEnds {s : State} (h : NothingEnds s) (hw : s.ca.coolCap < s.cs.wantedTotal) :
    stagingWork s = if s.cs.excess.getD s.partTime + stageDelay s ≤ s.partTime then tryStarts (excessChecked s) else excessChecked s := by
  have hstretch : stagingStretches (stagingUpdate s) = excessChecked s := by
    rw [stagingUpdate_nothingEnds h]
    exact stagingStretches_excess hw
  have hends : NothingEnds (excessChecked s) := recordsAged_nothingEnds h
  have hstops : stopForIdle (stopForSurplus (stopDisabled .b (stopDisabled .a (excessChecked s)))) = excessChecked s := by
    rw [hends.stopDisabled, hends.stopDisabled]
    rfl
  have hdelay : stageDelay (excessChecked s) = stageDelay s := by
    unfold stageDelay
    simp only [excessChecked_comp]
    rfl
  unfold stagingWork
  dsimp only
  rw [hstretch, hstops, hdelay]
  have hstart : (decide ((excessChecked s).ca.coolCap < (excessChecked s).cs.wantedTotal) &&
      lasted (excessChecked s).partTime (excessChecked s).cs.excess (stageDelay s)) =
        decide (s.cs.excess.getD s.partTime + stageDelay s ≤ s.partTime) := by
    show (decide (s.ca.coolCap < s.cs.wantedTotal) && _) = _
    rw [decide_eq_true hw, Bool.true_and]
    rfl
  rw [hstart]
  simp only [decide_eq_true_eq]

/-! ## STAGING_CHECK's starts -/

/-- A start log without the entries that are 3,600 s old or more (R99). -/
def recentStarts (s : State) (c : Comp) : List Nat := (s.comp c).startLog.filter fun y => decide (s.partTime < y + 3600)

theorem ageLog_startLog (s : State) (c : Comp) : ageLog s.partTime (s.comp c).startLog = recentStarts s c := by
  unfold ageLog recentStarts passed
  simp only [← decide_not, Nat.not_le]

/-- The conditions of R98 after the power state, in the order of the table, each with whether it holds at a check of the state. -/
def startTable (s : State) (c : Comp) : List (StartCondition × Bool) :=
  [(.state, decide ((s.comp c).state = .off)), (.otherCompressor, decide ((s.comp (otherComp c)).state ≠ .starting)),
    (.offTime, decide ((s.comp c).stoppedSince + 300 ≤ s.partTime)), (.enable, (s.comp c).enable),
    (.shedStack, !onStack s.la (.comp c)),
    (.pressureChannels,
      decide (valueUsed (s.ssu.pressureHigh.get c) ≠ none) && decide (valueUsed (s.ssu.pressureLow.get c) ≠ none)),
    (.lowAmbient, decide (50 ≤ outdoorUsed s) || s.cs.sccShort), (.startLog, decide ((recentStarts s c).length < 6))]

theorem startTable_eq (s : State) (c : Comp) :
    startTable s c = startConditions.tail.map fun k => (k, conditionHolds (excessChecked s) c k) := by
  have hvalue : ∀ v : Option Int, decide (v ≠ none) = v.isSome := fun v => by cases v <;> rfl
  have hother : (excessChecked s).comp (otherComp c) = ageRec s.partTime (s.comp (otherComp c)) := excessChecked_comp s _
  simp only [startTable, startConditions, List.tail_cons, List.map_cons, List.map_nil, conditionHolds, excessChecked_comp, hother, hvalue,
    ← ageLog_startLog, decide_not]
  rfl

/-- The first failing condition of a check in Run or Layover. -/
theorem firstFailing_excessChecked {s : State} (h : inUse s.psc.power = true) (c : Comp) :
    firstFailing (excessChecked s) c = ((startTable s c).find? fun k => !k.2).map Prod.fst := by
  have hpower : conditionHolds (excessChecked s) c .powerState = true := h
  have hid : (startConditions.tail.find? fun k => !conditionHolds (excessChecked s) c k) = firstFailing (excessChecked s) c := by
    simp [firstFailing, startConditions, List.find?_cons, hpower]
  rw [startTable_eq, List.find?_map, Option.map_map, ← hid]
  exact Option.map_id'.symm

theorem firstFailing_of_startPick {s : State} {c : Comp} (h : startPick s = some c) : firstFailing s c = none := by
  unfold startPick at h
  split at h
  next ha => cases h; exact ha
  next =>
    split at h
    next hb => cases h; exact hb
    next => cases h

/-- The compressor that a check puts to the load account, `due` being whether a start is due (R100). -/
def checkPick (due : Bool) (s : State) : Option Comp := if due then startPick (excessChecked s) else none

theorem firstFailing_of_checkPick {due : Bool} {s : State} {c : Comp} (h : checkPick due s = some c) :
    firstFailing (excessChecked s) c = none := by
  cases due with
  | true => exact firstFailing_of_startPick h
  | false => cases h

/-- What a check with an excess and nothing to stop does. -/
structure StagingStarted (due : Bool) (s t : State) : Prop extends CoolingOnly s t where
  picked : ∀ c, checkPick due s = some c → t.comp c = askedRec (excessChecked s) c
  unpicked : ∀ c, checkPick due s ≠ some c → ∃ b k, t.comp c = { ageRec s.partTime (s.comp c) with episodeOpen := b, reason := k }
  refused : ∀ c k, due = true → firstFailing (excessChecked s) c = some k → (c = .b → firstFailing (excessChecked s) .a ≠ none) →
    t.comp c = refusedRec k (ageRec s.partTime (s.comp c)) ∧
      (k = .startLog → (s.comp c).episodeOpen = false → hasFlag t.hlu.latched .startLimit = true)
  load : committedLoad t = committedLoad s + if (checkPick due s).isSome ∧ admitted (excessChecked s) 4200 = true then 4200 else 0

theorem stagingWork_started {s : State} (h : NothingEnds s) (hw : s.ca.coolCap < s.cs.wantedTotal) :
    StagingStarted (decide (s.cs.excess.getD s.partTime + stageDelay s ≤ s.partTime)) s (stagingWork s) := by
  have hload := (excessChecked_loadSame s).committedLoad
  rw [stagingWork_nothingEnds h hw]
  split
  next hdue =>
    have ht := tryStarts_tried (excessChecked s)
    rw [decide_eq_true hdue]
    refine ⟨(excessChecked_coolingOnly s).trans ht.toCoolingOnly, ht.picked, fun c hc => ?_, fun c k _ hk hb => ?_, ?_⟩
    · rw [← excessChecked_comp]
      exact ht.unpicked c hc
    · obtain ⟨hrec, hflag⟩ := ht.refused c k hk hb
      rw [excessChecked_comp] at hrec hflag
      exact ⟨hrec, fun hlog he => hflag hlog (Bool.and_eq_false_imp.2 fun ht => absurd ht (by rw [he]; decide))⟩
    · rw [ht.load, hload]
      rfl
  next hdue =>
    rw [decide_eq_false hdue]
    exact ⟨excessChecked_coolingOnly s, nofun, fun c _ => ⟨_, _, excessChecked_comp s c⟩, nofun, hload⟩

theorem admitted_excessChecked (s : State) : admitted (excessChecked s) 4200 = decide (committedLoad s + 4200 ≤ allowanceInForce s.la) := by
  unfold admitted
  rw [(excessChecked_loadSame s).committedLoad]
  rfl

/-- An admitted start stays within the bound, so nothing is shed at the end of the check. -/
theorem StagingStarted.settled {due : Bool} {s t : State} (h : StagingStarted due s t) (hs : settled s = true) : settled t = true := by
  rw [settled_iff] at hs ⊢
  rw [h.loadBound, h.load]
  have hle : allowanceInForce s.la ≤ Machine.loadBound s := Nat.le_max_left _ _
  split
  next hadm =>
    have := of_decide_eq_true ((admitted_excessChecked s).symm.trans hadm.2)
    omega
  next => exact hs

/-- A picked compressor stands in Off, and its record goes to Starting or is deferred by the load account's answer (R80, R95, R99). -/
theorem StagingStarted.asked {due : Bool} {s t : State} (h : StagingStarted due s t) {c : Comp} (hc : checkPick due s = some c) :
    (s.comp c).state = .off ∧
      t.comp c = if committedLoad s + 4200 ≤ allowanceInForce s.la then startRec s.partTime (ageRec s.partTime (s.comp c))
        else { ageRec s.partTime (s.comp c) with deferred := true } := by
  constructor
  · have hoff := state_off_of_firstFailing (firstFailing_of_checkPick hc)
    rwa [excessChecked_comp] at hoff
  · rw [h.picked c hc, askedRec, admitted_excessChecked, excessChecked_comp]
    simp only [decide_eq_true_eq]
    rfl

theorem execStagingCheck_started {s : State} (hnow : s.cs.checkedAt ≠ some s.partTime) (huse : inUse s.psc.power = true)
    {due : Bool} (h : StagingStarted due s (stagingWork s)) (hs : settled s = true) : exec .stagingCheck s = .next (stagingWork s) := by
  refine congrArg Host.Outcome.next ((if_pos (bne_iff_ne.2 hnow)).trans (endEvent_settled (h.settled hs) ?_))
  rw [h.psc]
  intro hw
  rw [hw] at huse
  cases huse

/-- Settles O43: the check is `stagingWork_started`, and its end sheds nothing. -/
theorem stagingCheckStarts : Obligations.StagingCheckStarts := by
  rintro s hnow huse hset hw hends log rfl why hwhy due hdue pick hpick
  have hfail : ∀ c, why c = firstFailing (excessChecked s) c := fun c => by
    rw [firstFailing_excessChecked huse, hwhy]
    rfl
  obtain rfl : pick = checkPick due s := by
    rw [hpick, hfail, hfail]
    rfl
  have ht : StagingStarted due s (stagingWork s) := hdue ▸ stagingWork_started hends hw
  refine ⟨_, execStagingCheck_started hnow huse ht hset, ht.toPlantOnly, ht.la, ht.ca, ?_⟩
  rintro c r rfl r' rfl
  have hlog := ageLog_startLog s c
  refine ⟨?_, fun hc => ?_, fun hc hfits => ?_, fun hc hfits => ?_, fun hc => ?_, fun hd hne hb => ?_⟩
  · by_cases hc : checkPick due s = some c
    · rw [(ht.asked hc).2]
      split <;> rfl
    · obtain ⟨b, k, he⟩ := ht.unpicked c hc
      rw [he]
      rfl
  · obtain ⟨b, k, he⟩ := ht.unpicked c hc
    rw [he]
    exact ⟨rfl, rfl, rfl, hlog⟩
  · rw [(ht.asked hc).2, if_pos hfits, ht.load, hc, admitted_excessChecked, decide_eq_true hfits]
    exact ⟨⟨rfl, rfl, rfl, congrArg (· ++ [s.partTime]) hlog, rfl, rfl⟩, rfl⟩
  · obtain ⟨hoff, hrec⟩ := ht.asked hc
    rw [hrec, if_neg (by omega), ht.load, hc, admitted_excessChecked, decide_eq_false (by omega)]
    exact ⟨⟨hoff, rfl, hlog⟩, rfl⟩
  · rw [ht.load, hc]
    rfl
  · obtain ⟨k, hk⟩ := Option.ne_none_iff_exists'.1 hne
    obtain ⟨hrec, hflag⟩ := ht.refused c k hd ((hfail c).symm.trans hk) fun h => hfail .a ▸ hb h
    rw [hrec, hk]
    refine ⟨rfl, fun hl => ⟨?_, fun he => hflag (Option.some.inj hl) he⟩⟩
    rw [Option.some.inj hl]
    exact Bool.or_true _

end Sys2Proof.Machine

namespace Sys2Proof.Machine

/-! ## Raises granted by the load account (R82) -/

/-- The largest whole percent that fits beside the other load (R82). -/
def fittingSpeed (s : State) (present : Nat) : Int := ((allowanceInForce s.la : Int) - ((committedLoad s : Int) - 5 * present)).tdiv 5

theorem grantedSpeed_onStack {s : State} {z : Zone} (h : onStack s.la (.blower z) = true) (present wanted : Nat) :
    grantedSpeed s z present wanted = min wanted (max present s.apc.ventMin) := if_pos h

theorem grantedSpeed_offStack {s : State} {z : Zone} (h : onStack s.la (.blower z) = false) (present wanted : Nat) :
    grantedSpeed s z present wanted =
      if (wanted : Int) ≤ fittingSpeed s present then wanted else max (fittingSpeed s present).toNat (max present s.apc.ventMin) :=
  if_neg (Bool.eq_false_iff.1 h)

theorem present_le_grantedSpeed (s : State) (z : Zone) {present wanted : Nat} (h : present < wanted) :
    present ≤ grantedSpeed s z present wanted := by
  cases hon : onStack s.la (.blower z) with
  | true =>
    rw [grantedSpeed_onStack hon]
    omega
  | false =>
    rw [grantedSpeed_offStack hon]
    split <;> omega

/-- Five times a positive quotient by 5 is not above the dividend. -/
theorem five_mul_tdiv_le {d : Int} (h : 0 < d.tdiv 5) : 5 * d.tdiv 5 ≤ d := by
  have hd : 0 ≤ d := by
    by_contra hneg
    have := Int.tdiv_nonneg (a := -d) (b := 5) (by omega) (by decide)
    rw [Int.neg_tdiv] at this
    omega
  rw [Int.tdiv_eq_ediv_of_nonneg hd]
  omega

/-- A grant above the present speed and the vent minimum fits under the allowance in force. -/
theorem grantedSpeed_within {s : State} {z : Zone} {wanted : Nat}
    (h : max (s.blower z).speed s.apc.ventMin < grantedSpeed s z (s.blower z).speed wanted) :
    committedLoad s + 5 * grantedSpeed s z (s.blower z).speed wanted ≤ allowanceInForce s.la + 5 * (s.blower z).speed := by
  have hfit : (grantedSpeed s z (s.blower z).speed wanted : Int) ≤ fittingSpeed s (s.blower z).speed := by
    cases hon : onStack s.la (.blower z) with
    | true =>
      rw [grantedSpeed_onStack hon] at h
      omega
    | false =>
      rw [grantedSpeed_offStack hon] at h ⊢
      split at h
      next hle => rwa [if_pos hle]
      next hlt =>
        rw [if_neg hlt]
        omega
  have hle : 5 * fittingSpeed s (s.blower z).speed ≤ _ := five_mul_tdiv_le (by unfold fittingSpeed at hfit; omega)
  omega

/-- The load account's answer to a raise (R82). -/
theorem grantedSpeed_answers (s : State) (z : Zone) {w c : Nat} (hc : c = (s.blower z).speed) (hw : c < w) {g : Nat}
    (hg : g = grantedSpeed s z c w) :
    (onStack s.la (.blower z) = false → (w : Int) ≤ fittingSpeed s c → g = w) ∧
      (onStack s.la (.blower z) = false → fittingSpeed s c < w → (g : Int) = max (fittingSpeed s c) (max c s.apc.ventMin : Nat)) ∧
      (onStack s.la (.blower z) = true → g = min w (max c s.apc.ventMin)) ∧
      c ≤ g ∧ (s.apc.ventMin ≤ w → s.apc.ventMin ≤ g) ∧
      (max c s.apc.ventMin < g → committedLoad (s.setBlower z { s.blower z with speed := g }) ≤ allowanceInForce s.la) := by
  subst hc hg
  refine ⟨fun hon hfit => ?_, fun hon hfit => ?_, fun hon => grantedSpeed_onStack hon _ _, present_le_grantedSpeed s z hw,
    ventMin_le_grantedSpeed s z _, fun h => ?_⟩
  · rw [grantedSpeed_offStack hon, if_pos hfit]
  · rw [grantedSpeed_offStack hon, if_neg (not_le.2 hfit)]
    omega
  · have hfits := grantedSpeed_within h
    have hset : committedLoad (s.setBlower z { s.blower z with speed := grantedSpeed s z (s.blower z).speed w }) + 5 * (s.blower z).speed =
        committedLoad s + 5 * grantedSpeed s z (s.blower z).speed w := committedLoad_setBlower s z _
    omega

/-! ## Restore attempts (R88) -/

/-- Popping stops at the first entry whose full load does not fit the headroom left. -/
theorem popWhileFits_drop (es : List ShedEntry) (s : State) (h : s.la.stack = es) :
    ∃ k ≤ es.length, popWhileFits es s = s.setLa { s.la with stack := es.drop k } ∧
      ∀ n e, es[n]? = some e →
        (n < k → committedLoad (s.setLa { s.la with stack := es.drop n }) + fullLoad s e.item ≤ allowanceInForce s.la) ∧
          (n = k → allowanceInForce s.la < committedLoad (s.setLa { s.la with stack := es.drop n }) + fullLoad s e.item) := by
  have hself : s.setLa { s.la with stack := es } = s := by subst h; rfl
  induction es generalizing s with
  | nil => exact ⟨0, le_rfl, hself.symm, nofun⟩
  | cons e rest ih =>
    unfold popWhileFits
    split
    next hfits =>
      obtain ⟨k, hk, he, hstop⟩ := ih (s.setLa { s.la with stack := rest }) rfl rfl
      refine ⟨k + 1, Nat.succ_le_succ hk, he, fun n f hf => ?_⟩
      cases n with
      | zero =>
        cases hf
        refine ⟨fun _ => ?_, nofun⟩
        rw [List.drop_zero, hself]
        exact hfits
      | succ n =>
        obtain ⟨hlt, heq⟩ := hstop n f hf
        exact ⟨fun hn => hlt (Nat.lt_of_succ_lt_succ hn), fun hn => heq (Nat.succ.inj hn)⟩
    next hfits =>
      refine ⟨0, Nat.zero_le _, hself.symm, fun n f hf => ⟨nofun, fun hn => ?_⟩⟩
      subst hn
      cases hf
      rw [List.drop_zero, hself]
      exact Nat.lt_of_not_le hfits

theorem restoreAttempt_pops {s t : State} (ht : t = restoreAttempt s) :
    t = s.setLa { s.la with stack := t.la.stack } ∧ t.la.stack <:+ s.la.stack ∧
      ∀ (n : Nat) (e : ShedEntry), s.la.stack[n]? = some e → ∀ need,
        need = committedLoad (s.setLa { s.la with stack := s.la.stack.drop n }) + fullLoad s e.item →
        (t.la.stack.length + n < s.la.stack.length → need ≤ allowanceInForce s.la) ∧
        (t.la.stack.length + n = s.la.stack.length → allowanceInForce s.la < need) := by
  obtain ⟨k, hk, he, hstop⟩ := popWhileFits_drop s.la.stack s rfl
  obtain rfl := ht.trans he
  refine ⟨rfl, List.drop_suffix k _, ?_⟩
  rintro n e hn _ rfl
  obtain ⟨hlt, heq⟩ := hstop n e hn
  change ((s.la.stack.drop k).length + n < _ → _) ∧ ((s.la.stack.drop k).length + n = _ → _)
  rw [List.length_drop]
  exact ⟨fun h => hlt (by omega), fun h => heq (by omega)⟩

/-! ## One shed (R85, R86) -/

/-- An item's counted load would stand above its shed level off the stack (R85). -/
def aboveLevel (s : State) : LoadItem → Bool
  | .comp c => compCounted (s.comp c).state
  | .pump => s.hs.pump
  | .heater => heaterCounted s.hs.heater
  | .blower z => inService (s.zone z).opMode && decide (s.apc.ventMin < (s.blower z).speed)

theorem sheddable_eq (s : State) (i : LoadItem) : sheddable s i = (!onStack s.la i && aboveLevel s i) := by
  unfold sheddable
  cases hon : onStack s.la i with
  | true => rfl
  | false =>
    cases i with
    | comp c => cases hc : compCounted (s.comp c).state <;> simp [countedLoad, aboveLevel, hon, hc]
    | pump => cases hp : s.hs.pump <;> simp [countedLoad, aboveLevel, hon, hp]
    | heater => cases hh : heaterCounted s.hs.heater <;> simp [countedLoad, aboveLevel, hon, hh]
    | blower z => rfl

theorem shedItem_la (i : LoadItem) (s : State) : (shedItem i s).la = { s.la with stack := ⟨i, s.partTime⟩ :: s.la.stack } := by
  cases i <;> rfl

theorem shedItem_ca (i : LoadItem) (s : State) : (shedItem i s).ca = s.ca := by cases i <;> rfl

theorem shedItem_ventMin (i : LoadItem) (s : State) : (shedItem i s).apc.ventMin = s.apc.ventMin := by cases i <;> rfl

theorem shedItem_hlu (i : LoadItem) (s : State) : (shedItem i s).hlu = setFlag .shed s.hlu := by cases i <;> rfl

theorem shedItem_comp (i : LoadItem) (s : State) (c : Comp) :
    (shedItem i s).comp c = if i = .comp c then unloadRec s.partTime (s.comp c) else s.comp c := by
  cases i with
  | comp d => cases c <;> cases d <;> rfl
  | _ => rfl

theorem shedItem_blower (i : LoadItem) (s : State) (z : Zone) :
    (shedItem i s).blower z = if i = .blower z then { s.blower z with speed := s.apc.ventMin } else s.blower z := by
  cases i with
  | blower y => cases z <;> cases y <;> rfl
  | _ => rfl

theorem stopHeater_counted (now : Nat) (h : Heating) : heaterCounted (stopHeater now h).heater = heaterCounted h.heater := by
  cases hh : h.heater <;> simp [stopHeater, hh, heaterCounted]

/-- A shed moves no other item below its shed level (R86). -/
theorem aboveLevel_shedItem {i j : LoadItem} (h : i ≠ j) (s : State) : aboveLevel (shedItem i s) j = aboveLevel s j := by
  cases j with
  | comp c => simp only [aboveLevel, shedItem_comp, if_neg h]
  | blower z => simp only [aboveLevel, shedItem_blower, if_neg h, shedItem_ventMin, (shedItem_plantOnly i s).zone]
  | pump =>
    cases i with
    | heater => exact (stopHeater_plant s.partTime s.hs).1
    | pump => exact absurd rfl h
    | _ => rfl
  | heater =>
    cases i with
    | pump => exact stopHeater_counted s.partTime { s.hs with pump := false }
    | heater => exact absurd rfl h
    | _ => rfl

/-- After a shed the same items are sheddable but for the one shed (R85). -/
theorem sheddable_shedItem (i j : LoadItem) (s : State) : sheddable (shedItem i s) j = (sheddable s j && j != i) := by
  rw [sheddable_eq, sheddable_eq, shedItem_la, onStack_push]
  by_cases h : i = j
  · simp [h]
  · rw [aboveLevel_shedItem h, beq_eq_false_iff_ne.2 h, bne_iff_ne.2 (Ne.symm h), Bool.false_or, Bool.and_true]

theorem shedOrder_shedItem (i : LoadItem) (s : State) : shedOrder (shedItem i s) = shedOrder s := by
  unfold shedOrder blowerShedOrder
  rw [shedItem_ca, (shedItem_plantOnly i s).scm]

/-! ## Sheds one after another (R84 to R86) -/

/-- Items shed one after another. -/
def shedAll (l : List LoadItem) (s : State) : State := l.foldl (fun s i => shedItem i s) s

theorem shedAll_plantOnly (l : List LoadItem) (s : State) : PlantOnly s (shedAll l s) := .foldl (fun s i => shedItem_plantOnly i s) l s

theorem shedAll_stack (l : List LoadItem) (s : State) :
    (shedAll l s).la.stack = (l.map fun i => ⟨i, s.partTime⟩).reverse ++ s.la.stack := by
  induction l generalizing s with
  | nil => rfl
  | cons i l ih =>
    refine (ih (shedItem i s)).trans ?_
    rw [shedItem_la, (shedItem_plantOnly i s).partTime, List.map_cons, List.reverse_cons, List.append_assoc]
    rfl

theorem shedAll_sheddable (l : List LoadItem) (s : State) (j : LoadItem) :
    sheddable (shedAll l s) j = (sheddable s j && decide (j ∉ l)) := by
  induction l generalizing s with
  | nil => simp [shedAll]
  | cons i l ih =>
    refine (ih (shedItem i s)).trans ?_
    rw [sheddable_shedItem, Bool.and_assoc]
    congr 1
    by_cases h : j = i <;> simp [h]

theorem unloadRec_unloadRec (now : Nat) (r : CompRec) : unloadRec now (unloadRec now r) = unloadRec now r := by
  obtain ⟨st, _⟩ := r
  cases st <;> rfl

theorem shedAll_comp (l : List LoadItem) (s : State) (c : Comp) :
    (shedAll l s).comp c = if .comp c ∈ l then unloadRec s.partTime (s.comp c) else s.comp c := by
  induction l generalizing s with
  | nil => rfl
  | cons i l ih =>
    refine (ih (shedItem i s)).trans ?_
    rw [shedItem_comp, (shedItem_plantOnly i s).partTime]
    by_cases hi : i = .comp c
    · simp [hi, unloadRec_unloadRec]
    · simp [hi, Ne.symm hi]

theorem shedAll_blower (l : List LoadItem) (s : State) (z : Zone) :
    (shedAll l s).blower z = if .blower z ∈ l then { s.blower z with speed := s.apc.ventMin } else s.blower z := by
  induction l generalizing s with
  | nil => rfl
  | cons i l ih =>
    refine (ih (shedItem i s)).trans ?_
    rw [shedItem_blower, shedItem_ventMin]
    by_cases hi : i = .blower z
    · simp [hi]
    · simp [hi, Ne.symm hi]

theorem stopHeater_stopHeater (now : Nat) (h : Heating) : stopHeater now (stopHeater now h) = stopHeater now h := by
  cases hh : h.heater <;> simp [stopHeater, hh]

theorem stopHeater_pumpOff (now : Nat) (h : Heating) :
    { stopHeater now h with pump := false } = stopHeater now { h with pump := false } := by
  cases hh : h.heater <;> simp [stopHeater, hh]

/-- The heating record after sheds of pump, heater or both (R86, R116). -/
def shedHeating (now : Nat) (l : List LoadItem) (h : Heating) : Heating :=
  let g := if .pump ∈ l then { h with pump := false } else h
  if .pump ∈ l ∨ .heater ∈ l then stopHeater now g else g

theorem shedHeating_pump (now : Nat) (l : List LoadItem) (h : Heating) :
    shedHeating now l (stopPump now h) = stopHeater now { h with pump := false } := by
  unfold shedHeating stopPump
  by_cases hp : LoadItem.pump ∈ l <;> by_cases hh : LoadItem.heater ∈ l <;>
    simp [hp, hh, stopHeater_stopHeater, stopHeater_pumpOff]

theorem shedHeating_heater (now : Nat) (l : List LoadItem) (h : Heating) :
    shedHeating now l (stopHeater now h) = stopHeater now (if .pump ∈ l then { h with pump := false } else h) := by
  unfold shedHeating
  by_cases hp : LoadItem.pump ∈ l <;> by_cases hh : LoadItem.heater ∈ l <;>
    simp [hp, hh, stopHeater_stopHeater, stopHeater_pumpOff]

theorem shedAll_hs (l : List LoadItem) (s : State) : (shedAll l s).hs = shedHeating s.partTime l s.hs := by
  induction l generalizing s with
  | nil => rfl
  | cons i l ih =>
    refine (ih (shedItem i s)).trans ?_
    rw [(shedItem_plantOnly i s).partTime]
    cases i with
    | pump => exact (shedHeating_pump _ l s.hs).trans (by simp [shedHeating])
    | heater => exact (shedHeating_heater _ l s.hs).trans (by simp [shedHeating])
    | comp c =>
      change shedHeating s.partTime l s.hs = _
      simp [shedHeating]
    | blower z =>
      change shedHeating s.partTime l s.hs = _
      simp [shedHeating]

theorem shedAll_flag {l : List LoadItem} (h : l ≠ []) (s : State) : hasFlag (shedAll l s).hlu.latched .shed = true := by
  have hkeep : ∀ (l : List LoadItem) (s : State), hasFlag s.hlu.latched .shed = true → hasFlag (shedAll l s).hlu.latched .shed = true :=
    fun l s => (SettingsKept.foldl (fun s i => shedItem_settingsKept i s) l s).flags .shed
  cases l with
  | nil => exact absurd rfl h
  | cons i l =>
    refine hkeep l (shedItem i s) ?_
    rw [shedItem_hlu]
    exact hasFlag_setFlag_self _ _

/-! ## Which items a shed takes (R84, R85) -/

theorem shedOrder_perm {s : State} (h : ordersLawful s.ca.orders) : (shedOrder s).Perm allItems := by
  have hblowers : (blowerShedOrder s).Perm (Zone.all.map LoadItem.blower) :=
    ((List.reverse_perm _).trans (zoneRanking_perm h)).map _
  unfold shedOrder
  split
  · exact ((hblowers.append_right _).cons _).trans (by decide)
  · exact ((hblowers.append_right _).cons _).trans (by decide)

/-- The sheddable items in the shed order. -/
def shedCandidates (s : State) : List LoadItem := (shedOrder s).filter (sheddable s)

/-- A shed of the first candidate leaves the rest of them. -/
theorem shedCandidates_shedItem {s : State} {i : LoadItem} {rest : List LoadItem} (hn : (shedOrder s).Nodup)
    (h : shedCandidates s = i :: rest) : shedCandidates (shedItem i s) = rest := by
  have hi : i ∉ rest := (List.nodup_cons.1 (h ▸ hn.filter _)).1
  have hfilter : shedCandidates (shedItem i s) = (shedCandidates s).filter (· != i) := by
    unfold shedCandidates
    rw [shedOrder_shedItem, List.filter_filter]
    exact List.filter_congr fun j _ => (sheddable_shedItem i j s).trans (Bool.and_comm _ _)
  rw [hfilter, h, List.filter_cons, bne_self_eq_false, if_neg Bool.false_ne_true, List.filter_eq_self]
  exact fun j hj => bne_iff_ne.2 fun he => hi (he ▸ hj)

/-- At most `n` sheds of the items `l`: they are the first `k`, each taken above the bound, and they end within it or with no more to take. -/
structure ShedRun (s : State) (l : List LoadItem) (n k : Nat) : Prop where
  length_le : k ≤ l.length
  run : ∀ m ≤ k, (shedLoop m s).1 = shedAll (l.take m) s
  last : (shedLoop n s).1 = shedAll (l.take k) s
  above : ∀ m < k, settled (shedAll (l.take m) s) = false
  stop : settled (shedAll (l.take k) s) = true ∨ k = n ∨ k = l.length

theorem shedLoop_settled {s : State} (h : settled s = true) (n : Nat) : shedLoop n s = (s, []) := by
  cases n with
  | zero => rfl
  | succ n => exact if_pos ((settled_iff s).1 h)

/-- Above the bound the first candidate is shed, where there is one. -/
theorem shedLoop_above {s : State} (h : settled s = false) (n : Nat) :
    (shedLoop (n + 1) s).1 =
      match (shedCandidates s).head? with
      | none => s
      | some i => (shedLoop n (shedItem i s)).1 := by
  unfold shedCandidates
  rw [List.head?_filter, shedLoop, if_neg (of_decide_eq_false h)]
  cases (shedOrder s).find? (sheddable s) <;> rfl

theorem shedRun_zero {s : State} {l : List LoadItem} {n : Nat} (hs : (shedLoop n s).1 = s)
    (hstop : settled s = true ∨ 0 = n ∨ 0 = l.length) : ShedRun s l n 0 :=
  ⟨Nat.zero_le _, fun m hm => by rw [Nat.le_zero.1 hm]; rfl, hs, nofun, hstop⟩

/-- The shed loop takes its candidates in order (R84, R85). -/
theorem shedLoop_run (n : Nat) {s : State} {l : List LoadItem} (hn : (shedOrder s).Nodup) (hl : shedCandidates s = l) :
    ∃ k, ShedRun s l n k := by
  induction n generalizing s l with
  | zero => exact ⟨0, shedRun_zero rfl (.inr (.inl rfl))⟩
  | succ n ih =>
    by_cases hset : settled s = true
    · exact ⟨0, shedRun_zero (congrArg Prod.fst (shedLoop_settled hset _)) (.inl hset)⟩
    · have hstep := fun n => shedLoop_above (Bool.eq_false_iff.2 hset) n
      rw [hl] at hstep
      cases l with
      | nil => exact ⟨0, shedRun_zero (hstep n) (.inr (.inr rfl))⟩
      | cons i rest =>
        obtain ⟨k, hk⟩ := ih ((shedOrder_shedItem i s).symm ▸ hn) (shedCandidates_shedItem hn hl)
        refine ⟨k + 1, Nat.succ_le_succ hk.length_le, fun m hm => ?_, (hstep n).trans hk.last, fun m hm => ?_, ?_⟩
        · cases m with
          | zero => rfl
          | succ m => exact (hstep m).trans (hk.run m (Nat.le_of_succ_le_succ hm))
        · cases m with
          | zero => exact Bool.eq_false_iff.2 hset
          | succ m => exact hk.above m (Nat.lt_of_succ_lt_succ hm)
        · exact hk.stop.imp_right (Or.imp (congrArg (· + 1)) (congrArg (· + 1)))

/-- Of the first few entries that a list has with a property, none before one of them is passed over. -/
theorem mem_take_filter_of_before {α : Type} [BEq α] [LawfulBEq α] {l : List α} {p : α → Bool} {k : Nat} {x y : α}
    (hx : x ∈ (l.filter p).take k) (hy : y ∈ l.take (l.idxOf x)) (hp : p y = true) : y ∈ (l.filter p).take k := by
  induction l generalizing k with
  | nil => simp at hx
  | cons z l ih =>
    rw [List.idxOf_cons] at hy
    cases hz : z == x with
    | true => simp [hz] at hy
    | false =>
      rw [hz, cond_false, List.take_succ_cons, List.mem_cons] at hy
      rw [List.filter_cons] at hx ⊢
      split at hx
      next hpz =>
        rw [if_pos hpz]
        cases k with
        | zero => cases hx
        | succ k =>
          rw [List.take_succ_cons, List.mem_cons] at hx ⊢
          have hxl := hx.resolve_left fun h => by rw [h, beq_self_eq_true] at hz; cases hz
          exact hy.imp_right fun hy => ih hxl hy
      next hpz =>
        rw [if_neg hpz]
        exact ih hx (hy.resolve_left fun h => hpz (h ▸ hp))

/-- The entries that sheds push, in the order of the sheds. -/
def entriesOf (now : Nat) (l : List LoadItem) : List ShedEntry := l.map fun i => ⟨i, now⟩

theorem entriesOf_items (now : Nat) (l : List LoadItem) : (entriesOf now l).map ShedEntry.item = l := by
  unfold entriesOf
  rw [List.map_map]
  exact l.map_id

/-- What was pushed onto a stack, read from its top. -/
theorem pushed_eq (es stack : List ShedEntry) : ((es.reverse ++ stack).take ((es.reverse ++ stack).length - stack.length)).reverse = es := by
  rw [List.length_append, Nat.add_sub_cancel, List.take_left, List.reverse_reverse]

/-- A run of ten sheds ends within the bound or has shed every candidate (R84, R87). -/
theorem ShedRun.exhausted {s : State} {k : Nat} (h : ShedRun s (shedCandidates s) 10 k) (ho : ordersLawful s.ca.orders) :
    settled (shedLoop 10 s).1 = true ∨ ∀ i ∈ shedOrder s, sheddable (shedLoop 10 s).1 i = false := by
  have hten : (shedCandidates s).length ≤ 10 := (List.length_filter_le _ _).trans (shedOrder_perm ho).length_eq.le
  have hlen := h.length_le
  rw [h.last]
  refine h.stop.imp_right fun hk i hi => ?_
  rw [List.take_of_length_le (by omega), shedAll_sheddable]
  cases hs : sheddable s i with
  | false => rfl
  | true => simp [shedCandidates, hi, hs]

theorem unloadRec_eq (now : Nat) (r : CompRec) :
    unloadRec now r =
      if r.state = .starting ∨ r.state = .running then { r with state := .unloading, stateSince := now, chargeStart := none } else r := by
  cases hr : r.state <;> simp [unloadRec, hr]

/-- The shed order with screen clear active and without (R85). -/
theorem shedOrder_eq (s : State) :
    shedOrder s = .comp .b :: (zoneRanking s.ca.orders).reverse.map LoadItem.blower ++
      (if s.scm.active then [.heater, .pump, .comp .a] else [.comp .a, .heater, .pump]) := by
  unfold shedOrder blowerShedOrder
  split <;> rfl

/-- Settles O49: raises by `grantedSpeed_answers`, sheds by `shedLoop_run` with what `shedAll` leaves of each owner, restores by
`restoreAttempt_pops`. -/
theorem blowerGrant : Obligations.BlowerGrant := by
  refine ⟨?_, fun s ho order horder above habove => ?_, fun s t ht => ?_⟩
  · rintro s z w c hc hw g hg _ rfl
    exact grantedSpeed_answers s z hc hw hg
  · obtain rfl : order = shedOrder s := horder.trans (shedOrder_eq s).symm
    have habove' : ∀ u i, above u i = sheddable u i := fun u i => by
      rw [habove, sheddable_eq]
      cases i <;> rfl
    obtain ⟨k, hk⟩ := shedLoop_run 10 ((shedOrder_perm ho).nodup_iff.2 (by decide)) (rfl : shedCandidates s = shedCandidates s)
    have hexhausted := hk.exhausted ho
    have hstack : ∀ m ≤ k, (shedLoop m s).1.la.stack = (entriesOf s.partTime ((shedCandidates s).take m)).reverse ++ s.la.stack :=
      fun m hm => by rw [hk.run m hm]; exact shedAll_stack _ s
    have hlast : (shedLoop 10 s).1.la.stack = (entriesOf s.partTime ((shedCandidates s).take k)).reverse ++ s.la.stack := by
      rw [hk.last]; exact shedAll_stack _ s
    refine ⟨_, rfl, entriesOf s.partTime ((shedCandidates s).take k), by rw [hlast, pushed_eq], hlast, fun e he => ?_, ?_⟩
    · obtain ⟨i, -, rfl⟩ := List.mem_map.1 he
      rfl
    simp only [entriesOf_items, habove']
    refine ⟨(List.take_sublist k _).trans List.filter_sublist, fun n e he i hi hs => ?_, fun c => ?_, fun z => ?_, ?_, fun hne => ?_,
      fun n hn => ?_, fun hset => congrArg Prod.fst (shedLoop_settled hset 10), hexhausted⟩
    · have hitem : e.item ∈ (shedCandidates s).take k := by
        rw [← entriesOf_items s.partTime ((shedCandidates s).take k)]
        exact List.mem_map_of_mem (List.mem_of_getElem? he)
      exact mem_take_filter_of_before hitem hi hs
    · rw [hk.last, shedAll_comp, unloadRec_eq, ite_and]
    · rw [hk.last, shedAll_blower]
    · rintro h rfl
      rw [hk.last, shedAll_hs]
      rfl
    · rw [hk.last]
      exact shedAll_flag (fun h => hne (by rw [h]; rfl)) s
    · have hn : n < k := by
        rw [entriesOf, List.length_map, List.length_take] at hn
        omega
      refine ⟨?_, ?_⟩
      · rw [hk.run n hn.le]
        exact hk.above n hn
      · rw [hstack n hn.le, entriesOf, entriesOf, ← List.map_take, List.take_take, min_eq_left hn.le]
  · obtain ⟨hset, hsuffix, hpops⟩ := restoreAttempt_pops ht
    refine ⟨hset, hsuffix, fun n e hn need hneed => hpops n e hn need (hneed.trans ?_)⟩
    obtain ⟨i, time⟩ := e
    cases i <;> rfl

end Sys2Proof.Machine

namespace Sys2Proof.Machine

/-! ## A start that the end of a wind-down takes back (R95, R158, R86) -/

/-- IGNITION is on in a wind-down whose blocks have all reported stopped, and B still stands in Starting, the 4,200 W of the allowance in
force taken by it. At B's STARTING_EXPIRY the wind-down ends and E goes to Vent; the vent minimum of its blower exceeds the bound on the load,
and B is shed in the same event. -/
def startAtWindDownEnd : State :=
  { State.reset with
    partTime := 5
    pins := { State.reset.pins with ignition := true }
    zc := { State.reset.zc with zones := State.reset.zc.zones.set .e { State.reset.zc.zones.e with seats := 1, hostMode := .vent } }
    la := { State.reset.la with fallback := 4200 }
    cs := { State.reset.cs with comps := ⟨.atReset, { CompRec.atReset with state := .starting, onSince := some 0 }⟩ }
    psc := { State.reset.psc with power := .windingDown, stopped := ⟨true, true, true⟩ } }

theorem startAtWindDownEnd_loadLawful : loadLawful startAtWindDownEnd := by
  refine ⟨List.nodup_nil, fun z => ?_, ⟨nofun, nofun, nofun⟩, by decide +kernel⟩
  cases z <;> exact ⟨.inr rfl, fun _ => rfl, nofun, nofun⟩

/-- Refutes O41: a wind-down that ends with the expiry brings a zone into service, and shedding then sends the compressor to Unloading. -/
theorem not_compressorEventsAct : ¬ Obligations.CompressorEventsAct := by
  rintro ⟨hexpiries, -⟩
  obtain ⟨hstart, -⟩ := hexpiries .b startAtWindDownEnd
  obtain ⟨t, he, -, hrec, -⟩ := hstart rfl (by decide) startAtWindDownEnd_loadLawful
  have hrunning : (t.comp .b).state = .running := congrArg CompRec.state hrec
  have hunloading : ∃ u, exec (.startingExpiry .b) startAtWindDownEnd = .next u ∧ (u.comp .b).state = .unloading :=
    ⟨_, rfl, by decide +kernel⟩
  obtain ⟨u, hu, hstate⟩ := hunloading
  cases he.symm.trans hu
  cases hrunning.symm.trans hstate

end Sys2Proof.Machine

namespace Sys2Proof.Machine

/-! ## Plant records changed beside what the end of an event reads (R72, R84, R157) -/

/-- Records of plant have changed, and every load counts as it did. -/
structure CountsSame (s t : State) : Prop extends PlantOnly s t where
  la : t.la = s.la
  apc : t.apc = s.apc
  comp : ∀ c, compCounted (t.comp c).state = compCounted (s.comp c).state
  pump : t.hs.pump = s.hs.pump
  heater : heaterCounted t.hs.heater = heaterCounted s.hs.heater

theorem CountsSame.settled {s t : State} (h : CountsSame s t) : settled t = settled s := by
  have hcounted : ∀ i, countedLoad t i = countedLoad s i := fun i => by
    cases i with
    | comp c => simp only [countedLoad, h.comp, h.la]
    | pump => simp only [countedLoad, h.pump, h.la]
    | heater => simp only [countedLoad, h.heater, h.la]
    | blower z => simp only [countedLoad, State.blower, h.apc]
  have hscreen : screenLoad t = screenLoad s := by unfold screenLoad; rw [h.scm]
  have hbound : loadBound t = loadBound s := by
    unfold loadBound floorLoad State.zone
    rw [hscreen, h.la, h.apc, h.zc]
  unfold Machine.settled
  rw [committedLoad_congr hcounted hscreen, hbound]

theorem CountsSame.reportStopped {s t : State} (h : CountsSame s t) : reportStopped t = reportStopped s := by
  simp only [Machine.reportStopped, csStopped, hsStopped, apcStopped, heaterStopped, State.blower, h.comp, h.pump, h.heater, h.apc, h.scm,
    h.psc]

/-- In Run and Layover with nothing to shed, and in a wind-down in which nothing comes due, such a change ends its event. -/
theorem CountsSame.endEvent {s t : State} (h : CountsSame s t) (hs : readyAndSettled s = true ∨ windingDownQuietly s = true) :
    endEvent t = t := by
  rcases hs with hs | hs
  · simp only [readyAndSettled, Bool.and_eq_true] at hs
    obtain ⟨⟨-, huse⟩, hset⟩ := hs
    refine endEvent_settled (h.settled.trans hset) fun hw => ?_
    rw [← h.psc, hw] at huse
    cases huse
  · obtain ⟨-, hrest⟩ := (windingDownQuietly_iff s).1 hs
    refine endEvent_windDownAtRest (hrest ▸ ?_)
    simp only [windDownAtRest, State.zone, h.settled, h.reportStopped, h.psc, h.zc]

theorem readyForCommand_of_settled {s : State} (h : readyAndSettled s = true) : readyForCommand s = true := by
  simp only [readyAndSettled, Bool.and_eq_true, Option.isNone_iff_eq_none] at h
  obtain ⟨⟨hi, huse⟩, -⟩ := h
  refine (readyForCommand_iff s).2 ⟨hi, fun hp => ?_⟩
  rw [hp] at huse
  cases huse

/-! ## CLEAR LOCKOUT (R108, R123) -/

theorem clearComp_counted (now : Nat) (r : CompRec) : compCounted (clearComp now r).state = compCounted r.state := by
  unfold clearComp
  split
  next h => rw [h]; rfl
  next => rfl

theorem setComp_countsSame {s : State} {c : Comp} {r : CompRec} (h : compCounted r.state = compCounted (s.comp c).state) :
    CountsSame s (s.setComp c r) where
  toPlantOnly := setComp_plantOnly s c r
  la := rfl
  apc := rfl
  comp d := by
    by_cases hd : d = c
    · rw [hd, State.comp_setComp_self, h]
    · rw [State.comp_setComp_of_ne s r hd]
  pump := rfl
  heater := rfl

theorem setHs_countsSame {s : State} {v : Heating} (hp : v.pump = s.hs.pump) (hh : heaterCounted v.heater = heaterCounted s.hs.heater) :
    CountsSame s (s.setHs v) :=
  ⟨setHs_plantOnly s v, rfl, rfl, fun _ => rfl, hp, hh⟩

/-- The byte that names a compressor as a target of CLEAR LOCKOUT (R178). -/
def targetByte : Comp → Byte
  | .a => 0
  | .b => 1

theorem lockoutTarget_targetByte (c : Comp) : lockoutTargetOfCode (targetByte c) = some (.comp c) := by cases c <;> rfl

theorem targetByte_byteField (c : Comp) : byteField (targetByte c).toNat = [targetByte c] := by cases c <;> rfl

theorem lockoutTarget_of_gt {b : Byte} (h : 2 < b.toNat) : lockoutTargetOfCode b = none := by
  obtain ⟨k, hk⟩ := Nat.exists_eq_add_of_le' h
  unfold lockoutTargetOfCode
  rw [hk]
  rfl

theorem clearHeater_counted (now : Nat) (h : Heating) : heaterCounted (clearHeater now h).heater = heaterCounted h.heater := by
  unfold clearHeater
  split
  next hl => rw [hl]; rfl
  next => rfl

/-! ## FUEL PERMIT (R124) -/

theorem setPermit_counted (now : Nat) (on : Bool) (h : Heating) : heaterCounted (setPermit now on h).heater = heaterCounted h.heater := by
  unfold setPermit
  split
  · exact stopHeater_counted now _
  · rfl

theorem setPermit_on (now : Nat) (h : Heating) : setPermit now true h = { h with permit := true } :=
  if_neg (by simp)

/-- A permit turned off is a stop request (R122, R124). -/
theorem setPermit_off (now : Nat) (h : Heating) :
    setPermit now false h =
      if h.permit = false then h
      else
        match h.heater with
        | .ignition | .burning =>
          { h with permit := false, heater := .afterRun, heaterSince := now, cause := some .stop, latched := false }
        | .afterRun => { h with permit := false, cause := some .stop, latched := false }
        | .retryPurge => { h with permit := false, latched := false }
        | .off | .lockout => { h with permit := false } := by
  obtain ⟨pump, pd, band, heater, since, attempt, relight, cause, latched, hd, permit, ss, is, w, ca⟩ := h
  cases permit with
  | false => rfl
  | true => cases heater <;> rfl

/-- CLEAR LOCKOUT of a compressor: its record cleared, and its state replied. -/
theorem cmdClearLockout_comp {s t : State} (c : Comp) (ht : t = s.setComp c (clearComp s.partTime (s.comp c)))
    (hs : readyAndSettled s = true ∨ windingDownQuietly s = true) :
    cmdClearLockout (targetByte c) s = (t, doneReply false [targetByte c, BitVec.ofNat 8 (codeOfCompState (t.comp c).state)]) := by
  have hend : endEvent t = t := by
    rw [ht]
    exact (setComp_countsSame (clearComp_counted _ _)).endEvent hs
  unfold cmdClearLockout
  rw [lockoutTarget_targetByte]
  dsimp only
  rw [← ht, hend, targetByte_byteField]
  rfl

/-- CLEAR LOCKOUT of the heater: its record cleared, and its state replied. -/
theorem cmdClearLockout_heater {s : State} (hs : readyAndSettled s = true ∨ windingDownQuietly s = true) :
    cmdClearLockout 2 s =
      (s.setHs (clearHeater s.partTime s.hs),
        doneReply false [2, BitVec.ofNat 8 (codeOfHeaterState (clearHeater s.partTime s.hs).heater)]) := by
  obtain ⟨-, hpump, -⟩ := clearHeater_plant s.partTime s.hs
  have hend : endEvent (s.setHs (clearHeater s.partTime s.hs)) = s.setHs (clearHeater s.partTime s.hs) :=
    (setHs_countsSame hpump (clearHeater_counted _ _)).endEvent hs
  change (endEvent _, _) = _
  rw [hend]
  rfl

/-- FUEL PERMIT with a valid operand: the permit and what it stops. -/
theorem cmdFuelPermit_eq {s : State} {p : Byte} {on : Bool} (hp : permitOfCode p.toNat = some on)
    (hs : readyAndSettled s = true ∨ windingDownQuietly s = true) :
    cmdFuelPermit p s = (s.setHs (setPermit s.partTime on s.hs), doneReply false [if on then 1 else 0]) := by
  obtain ⟨-, hpump, -⟩ := setPermit_plant s.partTime on s.hs
  have hend : endEvent (s.setHs (setPermit s.partTime on s.hs)) = s.setHs (setPermit s.partTime on s.hs) :=
    (setHs_countsSame hpump (setPermit_counted _ _ _)).endEvent hs
  unfold cmdFuelPermit
  rw [hp]
  dsimp only
  rw [hend]
  cases on <;> rfl

theorem permitOfCode_of_gt {n : Nat} (h : 1 < n) : permitOfCode n = none := by
  obtain ⟨k, rfl⟩ := Nat.exists_eq_add_of_le' h
  rfl

/-- Settles O16: a cleared Lockout and a stopped heater count as they did, so nothing follows the change of the named record. -/
theorem lockoutAndPermit : Obligations.LockoutAndPermit := by
  intro s hs
  have hready : readyForCommand s = true := hs.elim readyForCommand_of_settled readyForCommand_of_quiet
  refine ⟨fun c => ⟨clearComp s.partTime (s.comp c), rfl, ?_⟩, ⟨clearHeater s.partTime s.hs, rfl, ?_⟩, fun b hb => ?_, ?_, ?_, fun b hb => ?_⟩
  · have h := completeFrame_ok hready (replyType 0x14) (cmdClearLockout_comp c rfl hs)
    rw [State.comp_setComp_self] at h
    cases c <;> exact congrArg Host.Outcome.next h
  · exact congrArg Host.Outcome.next (completeFrame_ok hready (replyType 0x14) (cmdClearLockout_heater hs))
  · refine congrArg Host.Outcome.next
      (completeFrame_refused hready (replyType 0x14) (body := cmdClearLockout b) (st := .badValue) ?_)
    unfold cmdClearLockout
    rw [lockoutTarget_of_gt hb]
  · have h := completeFrame_ok hready (replyType 0x16) (cmdFuelPermit_eq (p := 1) rfl hs)
    rw [setPermit_on] at h
    exact congrArg Host.Outcome.next h
  · have h := completeFrame_ok hready (replyType 0x16) (cmdFuelPermit_eq (p := 0) rfl hs)
    rw [setPermit_off] at h
    exact congrArg Host.Outcome.next h
  · refine congrArg Host.Outcome.next
      (completeFrame_refused hready (replyType 0x16) (body := cmdFuelPermit b) (st := .badValue) ?_)
    unfold cmdFuelPermit
    rw [permitOfCode_of_gt hb]

end Sys2Proof.Machine

namespace Sys2Proof.Machine

/-! ## Compressor records under the work of the other blocks -/

/-- The compressor records, the part time of the last staging check and part time are as they were. -/
structure CompsSame (s t : State) : Prop where
  comps : t.cs.comps = s.cs.comps
  checkedAt : t.cs.checkedAt = s.cs.checkedAt
  time : t.partTime = s.partTime

theorem CompsSame.refl (s : State) : CompsSame s s := ⟨rfl, rfl, rfl⟩

theorem CompsSame.trans {s t u : State} (h : CompsSame s t) (k : CompsSame t u) : CompsSame s u :=
  ⟨k.1.trans h.1, k.2.trans h.2, k.3.trans h.3⟩

theorem CompsSame.ite {s t u : State} {c : Prop} [Decidable c] (h : CompsSame s t) (k : CompsSame s u) :
    CompsSame s (if c then t else u) := by
  split <;> assumption

theorem CompsSame.foldl {α : Type} {f : State → α → State} (h : ∀ s x, CompsSame s (f s x)) (l : List α) (s : State) :
    CompsSame s (l.foldl f s) := by
  induction l generalizing s with
  | nil => exact .refl s
  | cons x l ih => exact (h s x).trans (ih _)

theorem CompsSame.comp {s t : State} (h : CompsSame s t) (c : Comp) : t.comp c = s.comp c := by
  unfold State.comp
  rw [h.comps]

theorem CompsSame.of_cs {s t : State} (hc : t.cs = s.cs) (ht : t.partTime = s.partTime) : CompsSame s t := ⟨by rw [hc], by rw [hc], ht⟩

theorem raise_comps (f : Flag) (s : State) : CompsSame s (raise f s) := ⟨rfl, rfl, rfl⟩

theorem setPsc_comps (s : State) (v : PowerCtl) : CompsSame s (s.setPsc v) := .of_cs rfl rfl

theorem setHs_comps (s : State) (v : Heating) : CompsSame s (s.setHs v) := .of_cs rfl rfl

theorem setLa_comps (s : State) (v : LoadAccount) : CompsSame s (s.setLa v) := .of_cs rfl rfl

theorem setApc_comps (s : State) (v : AirPath) : CompsSame s (s.setApc v) := .of_cs rfl rfl

theorem setScm_comps (s : State) (v : ScreenMonitor) : CompsSame s (s.setScm v) := .of_cs rfl rfl

theorem setSsu_comps (s : State) (v : Channels) : CompsSame s (s.setSsu v) := .of_cs rfl rfl

theorem setPins_comps (s : State) (v : Pins) : CompsSame s (s.setPins v) := .of_cs rfl rfl

theorem setZc_comps (s : State) (v : ZoneCtl) : CompsSame s (s.setZc v) := .of_cs rfl rfl

theorem setHlu_comps (s : State) (v : HostLink) : CompsSame s (s.setHlu v) := .of_cs rfl rfl

/-! ### Loads, blowers and arbiter -/

theorem restoreAttempt_comps (s : State) : CompsSame s (restoreAttempt s) := by
  obtain ⟨k, -, he⟩ := restoreAttempt_stack s
  rw [he]
  exact .of_cs rfl rfl

theorem restoreIfFell_comps (n : Nat) (s : State) : CompsSame s (restoreIfFell n s) := .ite (restoreAttempt_comps s) (.refl s)

theorem computeBlower_comps (z : Zone) (s : State) : CompsSame s (computeBlower z s) := by
  obtain ⟨k, v, -, he⟩ := computeBlower_cases z s
  rw [he]
  exact .of_cs rfl rfl

theorem computeAllBlowers_comps (s : State) : CompsSame s (computeAllBlowers s) := .foldl (fun s z => computeBlower_comps z s) _ s

theorem handMode_comps (z : Zone) (s : State) : CompsSame s (handMode z s) := by
  obtain ⟨k, v, -, he⟩ := handMode_cases z s
  rw [he]
  exact .of_cs rfl rfl

theorem arbEvent_comps (f : Arbiter → ArbResult) (s : State) : CompsSame s (arbEvent f s) := by
  have h := arbEvent_done f s
  exact ⟨by rw [h.cs], by rw [h.cs], h.partTime⟩

theorem reportPool_comps (k : TokenKind) (n : Nat) (s : State) : CompsSame s (reportPool k n s) := .ite (.refl s) (arbEvent_comps _ s)

theorem applyFreshMin_comps (s : State) : CompsSame s (applyFreshMin s) := .ite (setApc_comps s _) (setApc_comps s _)

/-! ### Zone Controller -/

theorem requestTokens_comps (z : Zone) (k : ReqKind) (n : Nat) (s : State) : CompsSame s (requestTokens z k n s) := arbEvent_comps _ s

theorem setZone_comps (s : State) (z : Zone) (r : ZoneRec) : CompsSame s (s.setZone z r) := setZc_comps s _

theorem withdraw_comps (z : Zone) (s : State) : CompsSame s (withdraw z s) := (setZone_comps s z _).trans (requestTokens_comps z .none 0 _)

theorem takeMode_comps (z : Zone) (m : OpMode) (s : State) : CompsSame s (takeMode z m s) := (setZone_comps s z _).trans (handMode_comps z _)

theorem enterStandby_comps (z : Zone) (s : State) : CompsSame s (enterStandby z s) :=
  .ite (.refl s) ((setZone_comps s z _).trans ((withdraw_comps z _).trans (handMode_comps z _)))

theorem enterSetback_comps (z : Zone) (s : State) : CompsSame s (enterSetback z s) :=
  (setZone_comps s z _).trans ((raise_comps .setback _).trans (handMode_comps z _))

theorem applyHostMode_comps (z : Zone) (s : State) : CompsSame s (applyHostMode z s) := by
  have hset : ∀ m n, CompsSame s (s.setZone z { s.zone z with opMode := m, timer := n }) := fun m n => setZone_comps s z _
  have hleave : ∀ m n, CompsSame s (handMode z (withdraw z (s.setZone z { s.zone z with opMode := m, timer := n }))) := fun m n =>
    (hset m n).trans ((withdraw_comps z _).trans (handMode_comps z _))
  unfold applyHostMode
  dsimp only
  split
  · exact .refl s
  split
  · have h2 : CompsSame s (if (s.zone z).opMode = .off ∨ (s.zone z).opMode = .vent then
        withdraw z (s.setZone z { s.zone z with opMode := .auto, timer := autoLength (s.zone z) }) else
        s.setZone z { s.zone z with opMode := .auto, timer := autoLength (s.zone z) }) :=
      .ite ((hset _ _).trans (withdraw_comps z _)) (hset _ _)
    exact .ite h2 (h2.trans (handMode_comps z _))
  all_goals exact .ite (hset _ _) (hleave _ _)

theorem reloadEffect_comps (z : Zone) (s : State) : CompsSame s (reloadEffect z s) := by
  unfold reloadEffect
  dsimp only
  split
  · exact setZone_comps s z _
  · exact takeMode_comps z _ s
  · exact .ite (takeMode_comps z _ s) (.refl s)
  all_goals exact .refl s

theorem bringToAuto_comps (z : Zone) (s : State) : CompsSame s (bringToAuto z s) :=
  .ite (.ite (setZone_comps s z _) (takeMode_comps z .auto s)) (.refl s)

theorem layoverZone_comps (s : State) (z : Zone) : CompsSame s (layoverZone s z) :=
  .ite (.ite (bringToAuto_comps z s) (enterStandby_comps z s)) (.refl s)

theorem releaseZone_comps (s : State) (z : Zone) : CompsSame s (releaseZone s z) := .ite (.refl s) (takeMode_comps z _ s)

/-! ### Power states -/

theorem enterPower_comps (p : PowerState) (s : State) : CompsSame s (enterPower p s) := (setPsc_comps s _).trans (raise_comps _ _)

theorem leaveRest_comps (s : State) : CompsSame s (leaveRest s) := by
  refine ⟨?_, ?_, leaveRest_partTime s⟩ <;>
  · unfold leaveRest
    dsimp only
    split <;> rfl

theorem preconditionZones_comps (s : State) : CompsSame s (preconditionZones s) :=
  .ite (.foldl (fun s z => bringToAuto_comps z s) _ s) (.refl s)

theorem leaveForRun_comps (s : State) : CompsSame s (leaveForRun s) :=
  (leaveRest_comps s).trans ((enterPower_comps .run _).trans ((CompsSame.foldl releaseZone_comps _ _).trans (preconditionZones_comps _)))

theorem enterLayover_comps (s : State) : CompsSame s (enterLayover s) := (enterPower_comps .layover s).trans (.foldl layoverZone_comps _ _)

theorem leaveForLayover_comps (s : State) : CompsSame s (leaveForLayover s) :=
  (leaveRest_comps s).trans
    ((enterPower_comps .layover _).trans ((CompsSame.foldl releaseZone_comps _ _).trans (.foldl layoverZone_comps _ _)))

theorem enterParked_comps (s : State) : CompsSame s (enterParked s) :=
  (setZc_comps s _).trans (enterPower_comps .parked _)

theorem reachLead_comps (s : State) : CompsSame s (reachLead s) := by
  have wake : ∀ t, CompsSame t (wakeToLayover t) := fun t => .ite (.refl t) (leaveForLayover_comps t)
  have h1 := (setPsc_comps s { s.psc with precondition := true, leadArmed := false }).trans (raise_comps .depart _)
  unfold reachLead
  exact (h1.trans (wake _)).trans (.foldl (fun s z => bringToAuto_comps z s) _ _)

theorem setDepart_comps (minutes : Nat) (s : State) : CompsSame s (setDepart minutes s) :=
  .ite ((setPsc_comps s _).trans (reachLead_comps _)) ((setPsc_comps s _).trans (setPsc_comps _ _))

theorem loadLead_comps (lead : Nat) (s : State) : CompsSame s (loadLead lead s) := by
  unfold loadLead
  dsimp only
  split
  · exact .ite (((setPsc_comps s _).trans (setPsc_comps _ _)).trans (reachLead_comps _)) ((setPsc_comps s _).trans (setPsc_comps _ _))
  · exact setPsc_comps s _

theorem ignitionChanged_comps (on : Bool) (s : State) : CompsSame s (ignitionChanged on s) := by
  have h1 := setPins_comps s { s.pins with ignition := on }
  unfold ignitionChanged
  refine .ite ?_ (.ite (h1.trans (setPsc_comps _ _)) h1)
  split
  · exact h1.trans (setPsc_comps _ _)
  · exact h1.trans (enterPower_comps .run _)
  all_goals exact h1.trans (leaveForRun_comps _)

/-! ### Heating Sequencer -/

theorem stopPumpNow_comps (s : State) : CompsSame s (stopPumpNow s) :=
  .ite ((setHs_comps s _).trans ((restoreIfFell_comps _ _).trans (reportPool_comps _ _ _))) (.refl s)

theorem heaterDecision_comps (s : State) : CompsSame s (heaterDecision s) := by
  have latch : ∀ t, CompsSame t (latchStart t) := fun t => by
    unfold latchStart
    split
    · exact setHs_comps t _
    · exact setHs_comps t _
    all_goals exact .refl t
  have start : ∀ t, CompsSame t (heaterStart t) := fun t => .ite (.ite (.ite (setHs_comps t _) (setHs_comps t _)) (.refl t)) (setHs_comps t _)
  exact (CompsSame.ite (setHs_comps s _) (.refl s)).trans ((latch _).trans (start _))

theorem heatingWork_comps (s : State) : CompsSame s (heatingWork s) := by
  have hpump : ∀ t, CompsSame t (pumpDecision t) := fun t =>
    .ite (.ite (stopPumpNow_comps t) (.refl t))
      (.ite (.ite ((setHs_comps t _).trans (reportPool_comps _ _ _)) (setHs_comps t _)) (.refl t))
  exact (setHs_comps s _).trans ((hpump _).trans (heaterDecision_comps _))

theorem coolantSampled_comps (failed : Bool) (s : State) : CompsSame s (coolantSampled failed s) := by
  have h1 : CompsSame s (bandReported s) := (setHs_comps s _).trans (reportPool_comps _ _ _)
  exact .ite (h1.trans (setHs_comps _ _)) h1

theorem windDownPump_comps (s : State) : CompsSame s (windDownPump s) := .ite (stopPumpNow_comps s) (.refl s)

theorem endPurge_comps (s : State) : CompsSame s (endPurge s) :=
  .ite (setHs_comps s _) ((setHs_comps s _).trans ((restoreIfFell_comps _ _).trans (windDownPump_comps _)))

theorem enterLockout_comps (s : State) : CompsSame s (restoreIfFell (committedLoad s) (s.setHs (enterLockout s.partTime s.hs))) :=
  (setHs_comps s _).trans (restoreIfFell_comps _ _)

theorem endIgnition_comps (s : State) : CompsSame s (endIgnition s) :=
  .ite (setHs_comps s _) ((enterLockout_comps s).trans ((raise_comps _ _).trans (raise_comps _ _)))

theorem flameGoes_comps (s : State) : CompsSame s (flameGoes s) :=
  .ite
    (.ite ((raise_comps .auxFault s).trans (setHs_comps _ _))
      (((raise_comps .auxFault s).trans (setHs_comps _ _)).trans ((restoreIfFell_comps _ _).trans (raise_comps _ _))))
    (.refl s)

end Sys2Proof.Machine

namespace Sys2Proof.Machine

/-! ## Work that stops compressors at most (R86, R96) -/

/-- A stop order leaves a compressor that is neither in Starting nor in Running (R96). -/
theorem unloadRec_idle (now : Nat) {r : CompRec} (hs : r.state ≠ .starting) (hr : r.state ≠ .running) : unloadRec now r = r := by
  unfold unloadRec
  split
  next h => exact absurd h hs
  next h => exact absurd h hr
  all_goals rfl

/-- Every compressor record is as it was, or as a stop order leaves it. -/
structure CompsStopped (s t : State) : Prop where
  comp : ∀ c, t.comp c = s.comp c ∨ t.comp c = unloadRec s.partTime (s.comp c)
  checkedAt : t.cs.checkedAt = s.cs.checkedAt
  time : t.partTime = s.partTime

theorem CompsSame.stopped {s t : State} (h : CompsSame s t) : CompsStopped s t := ⟨fun c => .inl (h.comp c), h.2, h.3⟩

theorem CompsStopped.refl (s : State) : CompsStopped s s := (CompsSame.refl s).stopped

theorem CompsStopped.trans {s t u : State} (h : CompsStopped s t) (k : CompsStopped t u) : CompsStopped s u where
  comp c := by
    rcases h.comp c with h1 | h1 <;> rcases k.comp c with k1 | k1 <;> rw [k1, h1]
    · exact .inl rfl
    · exact .inr (by rw [h.time])
    · exact .inr rfl
    · obtain ⟨hs, hr⟩ := unloadRec_stops s.partTime (s.comp c)
      exact .inr (unloadRec_idle _ hs hr)
  checkedAt := k.checkedAt.trans h.checkedAt
  time := k.time.trans h.time

theorem CompsStopped.ite {s t u : State} {c : Prop} [Decidable c] (h : CompsStopped s t) (k : CompsStopped s u) :
    CompsStopped s (if c then t else u) := by
  split <;> assumption

/-- A compressor that a stop order would leave is as it was. -/
theorem CompsStopped.idle {s t : State} (h : CompsStopped s t) {c : Comp} (hs : (s.comp c).state ≠ .starting)
    (hr : (s.comp c).state ≠ .running) : t.comp c = s.comp c := by
  rcases h.comp c with h1 | h1 <;> rw [h1]
  exact unloadRec_idle _ hs hr

/-- A compressor still in Starting or Running is as it was. -/
theorem CompsStopped.going {s t : State} (h : CompsStopped s t) {c : Comp} (ht : (t.comp c).state = .starting ∨ (t.comp c).state = .running) :
    t.comp c = s.comp c := by
  rcases h.comp c with h1 | h1
  · exact h1
  · obtain ⟨hs, hr⟩ := unloadRec_stops s.partTime (s.comp c)
    rw [h1] at ht
    exact (ht.elim hs hr).elim

theorem setComp_unload_stopped (c : Comp) (s : State) : CompsStopped s (s.setComp c (unloadRec s.partTime (s.comp c))) := by
  refine ⟨fun d => ?_, rfl, rfl⟩
  by_cases hd : d = c
  · rw [hd, State.comp_setComp_self]
    exact .inr rfl
  · exact .inl (s.comp_setComp_of_ne _ hd)

theorem unloadComp_stopped (c : Comp) (s : State) : CompsStopped s (unloadComp c s) :=
  (setComp_unload_stopped c s).trans (reportPool_comps _ _ _).stopped

theorem shedItem_stopped (i : LoadItem) (s : State) : CompsStopped s (shedItem i s) := by
  rw [shedItem_eq]
  refine CompsStopped.trans ?_ ((setLa_comps (shedAction i s) _).trans (raise_comps .shed _)).stopped
  cases i with
  | comp c => exact setComp_unload_stopped c s
  | pump => exact (setHs_comps s _).stopped
  | heater => exact (setHs_comps s _).stopped
  | blower z => exact (setApc_comps s _).stopped

theorem shedLoop_stopped (n : Nat) (s : State) : CompsStopped s (shedLoop n s).1 := by
  induction n generalizing s with
  | zero => exact .refl s
  | succ n ih =>
    unfold shedLoop
    split
    · exact .refl s
    split
    · exact .refl s
    · exact (shedItem_stopped _ s).trans (ih _)

/-- Shedding stops compressors at most (R86). -/
theorem shedTest_stopped (s : State) : CompsStopped s (shedTest s) :=
  (shedLoop_stopped 10 s).trans
    (CompsSame.foldl (f := fun s (c : TokenKind × Nat) => reportPool c.1 c.2 s) (fun s c => reportPool_comps c.1 c.2 s) _ _).stopped

theorem windDownReports_stopped (s : State) : CompsStopped s (windDownReports s) := by
  have h1 : CompsSame s (s.setPsc { s.psc with stopped := reportStopped s }) := setPsc_comps s _
  refine .ite (.ite (.ite ?_ (.ite ?_ ?_)) h1.stopped) (.refl s)
  · exact (h1.trans (leaveForRun_comps _)).stopped.trans (shedTest_stopped _)
  · exact (h1.trans (leaveForLayover_comps _)).stopped.trans (shedTest_stopped _)
  · exact (h1.trans (enterParked_comps _)).stopped

/-- The end of an event stops compressors at most (R84, R157, R158). -/
theorem endEvent_stopped (s : State) : CompsStopped s (endEvent s) := (shedTest_stopped s).trans (windDownReports_stopped _)

/-! ## Only a staging check starts a compressor (R95) -/

/-- No compressor has come into Starting. -/
structure StartsNone (s t : State) : Prop where
  state : ∀ c, (t.comp c).state = .starting → (s.comp c).state = .starting

theorem StartsNone.refl (s : State) : StartsNone s s := ⟨fun _ => id⟩

theorem StartsNone.trans {s t u : State} (h : StartsNone s t) (k : StartsNone t u) : StartsNone s u := ⟨fun c => h.state c ∘ k.state c⟩

theorem StartsNone.ite {s t u : State} {c : Prop} [Decidable c] (h : StartsNone s t) (k : StartsNone s u) :
    StartsNone s (if c then t else u) := by
  split <;> assumption

theorem StartsNone.foldl {α : Type} {f : State → α → State} (h : ∀ s x, StartsNone s (f s x)) (l : List α) (s : State) :
    StartsNone s (l.foldl f s) := by
  induction l generalizing s with
  | nil => exact .refl s
  | cons x l ih => exact (h s x).trans (ih _)

theorem CompsStopped.startsNone {s t : State} (h : CompsStopped s t) : StartsNone s t := ⟨fun _ ht => h.going (.inl ht) ▸ ht⟩

theorem CompsSame.startsNone {s t : State} (h : CompsSame s t) : StartsNone s t := h.stopped.startsNone

theorem LoadSame.startsNone {s t : State} (h : LoadSame s t) : StartsNone s t := ⟨fun c ht => h.comp c ▸ ht⟩

theorem setComp_startsNone {s : State} {c : Comp} {r : CompRec} (h : r.state = .starting → (s.comp c).state = .starting) :
    StartsNone s (s.setComp c r) := ⟨fun d hd => by
  by_cases hdc : d = c
  · subst hdc
    rw [State.comp_setComp_self] at hd
    exact h hd
  · rwa [State.comp_setComp_of_ne s r hdc] at hd⟩

/-- Work that starts no compressor, with the end of its event. -/
theorem StartsNone.endEvent {s t : State} (h : StartsNone s t) : StartsNone s (endEvent t) := h.trans (endEvent_stopped t).startsNone

theorem StartsNone.shedTest {s t : State} (h : StartsNone s t) : StartsNone s (shedTest t) := h.trans (shedTest_stopped t).startsNone

/-! ### Events that move plant -/

theorem evaluateZone_startsNone (s : State) (z : Zone) : StartsNone s (evaluateZone z s) := by
  have handOn : ∀ b k n t, CompsSame t (handOnRequest z b k n t) := fun b k n t =>
    (CompsSame.ite (requestTokens_comps z .none 0 t) (.refl t)).trans (requestTokens_comps z k n _)
  exact ((setZone_comps s z _).trans ((handOn _ _ _ _).trans (handMode_comps z _))).startsNone.shedTest

theorem reloadEvent_startsNone (e : ReloadEvent) (z : Zone) (s : State) : StartsNone s (reloadEvent e z s) :=
  .ite (reloadEffect_comps z s).startsNone.shedTest (.refl s)

theorem seatCount_startsNone (z : Zone) (n : Nat) (s : State) : StartsNone s (seatCount z n s) :=
  .ite (.refl s) ((setZone_comps s z _).startsNone.trans (reloadEvent_startsNone .seat z _))

theorem deriveSensor_startsNone (s : State) (z : Zone) : StartsNone s (deriveSensor s z) := by
  have lose : ∀ t, StartsNone t (loseSensor z t) := fun t =>
    ((setZone_comps t z _).trans ((withdraw_comps z _).trans (handMode_comps z _))).startsNone.shedTest
  exact .ite ((setZone_comps s z _).startsNone.trans (lose _)) (setZone_comps s z _).startsNone

theorem timerExpired_startsNone (z : Zone) (s : State) : StartsNone s (timerExpired z s) := by
  unfold timerExpired
  split
  · exact (enterSetback_comps z s).startsNone
  · exact ((raise_comps .setback s).trans (enterStandby_comps z _)).startsNone
  all_goals exact .refl s

theorem assertScreen_startsNone (s : State) : StartsNone s (assertScreen s) := by
  unfold assertScreen
  dsimp only
  exact ((setScm_comps s _).trans ((raise_comps .screen _).trans ((arbEvent_comps _ _).trans (setApc_comps _ _)))).startsNone.shedTest

theorem releaseScreen_startsNone (s : State) : StartsNone s (releaseScreen s) :=
  ((setScm_comps s _).trans (arbEvent_comps _ _)).startsNone.shedTest.trans (restoreAttempt_comps _).startsNone

theorem setScm_startsNone (s : State) (v : ScreenMonitor) : StartsNone s (s.setScm v) := (setScm_comps s v).startsNone

theorem screenWork_startsNone (s : State) : StartsNone s (screenWork s) :=
  (setScm_startsNone s _).trans
    (.ite (.ite (releaseScreen_startsNone _) (.refl _)) (.ite (assertScreen_startsNone _) (.refl _)))

theorem tripComp_startsNone (c : Comp) (s : State) : StartsNone s (tripComp c s) := by
  have h1 : StartsNone s (s.setComp c (tripRec s.partTime (s.comp c))) := setComp_startsNone fun h => absurd h (tripRec_stops _ _).1
  have h2 : ∀ (p : Prop) [Decidable p] (t : State), CompsSame t (if p then raise .compLock (raise .compTrip t) else raise .compTrip t) :=
    fun p _ t => .ite ((raise_comps _ t).trans (raise_comps _ _)) (raise_comps _ t)
  exact h1.trans (((h2 _ _).trans (restoreIfFell_comps _ _)).trans (reportPool_comps _ _ _)).startsNone

theorem throttleComp_startsNone (c : Comp) (s : State) : StartsNone s (throttleComp c s) := by
  unfold throttleComp
  dsimp only
  split
  · refine StartsNone.trans (setComp_startsNone ?_) (reportPool_comps _ _ _).startsNone
    exact id
  · exact .refl s

theorem protectComp_startsNone (c : Comp) (low throttles failed : Bool) (s : State) : StartsNone s (protectComp c low throttles failed s) := by
  have h1 : StartsNone s (if low then s.setComp c (chargeRec s.partTime (lowUsed s c) (s.comp c)) else s) :=
    .ite (setComp_startsNone fun h => chargeRec_state _ _ _ ▸ h) (.refl s)
  exact h1.trans (.ite (tripComp_startsNone c _) (.ite (throttleComp_startsNone c _) (.refl _)))

theorem sampleUsers_startsNone (c : Channel) (failed : Bool) (s : State) : StartsNone s (sampleUsers c failed s) := by
  unfold sampleUsers
  split
  · exact .foldl deriveSensor_startsNone _ s
  · exact (coolantSampled_comps failed s).startsNone
  · exact protectComp_startsNone _ _ _ _ s
  · exact protectComp_startsNone _ _ _ _ s
  · exact protectComp_startsNone _ _ _ _ s
  all_goals exact .refl s

theorem sampleWork_startsNone (c : Channel) (v : Int) (s : State) : StartsNone s (sampleWork c v s) := by
  have take : CompsSame s (takeSample c v s) := .ite ((setSsu_comps s _).trans (raise_comps _ _)) (setSsu_comps s _)
  exact .ite (.refl s) (take.startsNone.trans (sampleUsers_startsNone c _ _)).endEvent

theorem periodWork_startsNone (s : State) : StartsNone s (periodWork s) := by
  have h1 := StartsNone.foldl evaluateZone_startsNone Zone.all s
  unfold periodWork
  dsimp only
  generalize Zone.all.foldl (fun s z => evaluateZone z s) s = s1 at h1
  exact (h1.trans ((setZc_comps s1 _).trans (setHlu_comps _ _)).startsNone).endEvent

theorem windDown_startsNone (s : State) : StartsNone s (windDown s) := by
  have h1 := (setPsc_comps s { s.psc with stopped := ⟨false, false, false⟩ }).trans (enterPower_comps .windingDown _)
  have h2 := h1.trans (.foldl (fun s z => enterStandby_comps z s) Zone.all _)
  have screen : ∀ t, StartsNone t (windDownScreen t) := fun t =>
    (StartsNone.ite (releaseScreen_startsNone t) (.refl t)).trans (setScm_startsNone _ _)
  have heating : ∀ t, CompsSame t (dampersToFreshMin (windDownHeating t)) := fun t =>
    ((setHs_comps t _).trans (windDownPump_comps _)).trans (setApc_comps _ _)
  have comps : ∀ t, CompsStopped t (unloadComp .b (unloadComp .a t)) := fun t => (unloadComp_stopped .a t).trans (unloadComp_stopped .b _)
  exact ((h2.startsNone.trans (screen _)).trans ((comps _).startsNone.trans (heating _).startsNone)).endEvent

theorem doorChanged_startsNone (d : Door) (s : State) : StartsNone s (doorChanged d s) := by
  have h1 := setPins_comps s (doorPins d s.pins)
  rw [doorChanged_eq]
  exact .ite (h1.startsNone.trans (.foldl (fun s z => reloadEvent_startsNone .door z s) _ _)) (h1.trans (leaveForLayover_comps _)).startsNone

theorem allowanceMoved_startsNone (n : Nat) (s : State) : StartsNone s (allowanceMoved n s) :=
  .ite (StartsNone.refl s).endEvent (.ite (restoreAttempt_comps s).startsNone (.refl s))

theorem takeSettings_comps (g : Settings) (s : State) :
    (takeSettings g s).cs.comps =
      ⟨{ s.cs.comps.a with enable := g.compEnable.a }, { s.cs.comps.b with enable := g.compEnable.b }⟩ := rfl

theorem takeSettings_startsNone (g : Settings) (s : State) : StartsNone s (takeSettings g s) := by
  refine ⟨fun c h => ?_⟩
  rw [State.comp, takeSettings_comps] at h
  cases c <;> exact h

theorem loadBlocks_startsNone (g : Settings) (s : State) : StartsNone s (loadBlocks g s) := by
  have hzone : ∀ t z, CompsSame t (loadZoneActions s.zc.zones t z) := fun t z =>
    .ite (setZone_comps t z _) ((setZone_comps t z _).trans (applyHostMode_comps z _))
  have h2 := (takeSettings_startsNone g s).trans (CompsSame.foldl hzone Zone.all _).startsNone
  unfold loadBlocks
  dsimp only
  generalize Zone.all.foldl (loadZoneActions s.zc.zones) (takeSettings g s) = s2 at h2
  have h3 : CompsSame s2 (if (s.hs.permit && !g.permit) = true then
      (arbEvent (actOnSettings s2.partTime) s2).setHs
        (stopHeater (arbEvent (actOnSettings s2.partTime) s2).partTime (arbEvent (actOnSettings s2.partTime) s2).hs)
      else arbEvent (actOnSettings s2.partTime) s2) := (arbEvent_comps _ s2).trans (.ite (setHs_comps _ _) (.refl _))
  exact h2.trans ((h3.trans (.ite (.refl _) (computeAllBlowers_comps _))).trans (.ite (.refl _) (applyFreshMin_comps _))).startsNone

theorem applyProfile_startsNone (g : Settings) (s : State) : StartsNone s (applyProfile g s) := by
  have h7 := (loadBlocks_startsNone g s).trans (loadLead_comps g.departLead _).startsNone
  rw [applyProfile_eq]
  dsimp only
  generalize loadLead g.departLead (loadBlocks g s) = s7 at h7
  have h9 := (h7.trans (CompsSame.ite (c := s.hlu.snapshotRate = g.snapshotRate) (.refl _)
    (setHlu_comps s7 (setSnapshotRate g.snapshotRate s7.hlu))).startsNone).shedTest
  exact h9.trans ((CompsSame.ite (restoreAttempt_comps _) (.refl _)).stopped.trans (windDownReports_stopped _)).startsNone

/-! ### Resets -/

theorem resetEntry_comps (s : State) : CompsSame s (resetEntry s) := .ite (enterPower_comps .run s) (enterLayover_comps s)

theorem softResetWork_startsNone (s : State) : StartsNone s (softResetWork s) := by
  refine StartsNone.shedTest (.trans ⟨fun c h => ?_⟩ (resetEntry_comps _).startsNone)
  have hcounted : ∀ en r, (softResetComp s.partTime en r).state ≠ .starting := fun en r hr => by
    have := softResetComp_state s.partTime en r
    rw [hr] at this
    cases this
  cases c <;> exact absurd h (hcounted _ _)

theorem powerOnWork_startsNone (pins : Pins) (s : State) : StartsNone s (powerOnWork pins s) := by
  refine .trans ⟨fun c h => ?_⟩ (resetEntry_comps _).startsNone
  cases c <;> cases h

/-! ### Commands and frames -/

theorem setLimits_startsNone (vent fresh : Nat) (s : State) : StartsNone s (setLimits vent fresh s) := by
  have h1 := setApc_comps s { s.apc with ventMin := vent, freshMin := fresh }
  have hblowers : ∀ t, CompsSame t (if s.apc.ventMin = vent then t else computeAllBlowers t) := fun t =>
    .ite (.refl t) (computeAllBlowers_comps t)
  have hdampers : ∀ t, CompsSame t (if s.apc.freshMin = fresh then t else applyFreshMin t) := fun t =>
    .ite (.refl t) (applyFreshMin_comps t)
  exact (h1.trans ((hblowers _).trans (hdampers _))).startsNone.endEvent

theorem clearComp_starting (now : Nat) {r : CompRec} (h : (clearComp now r).state = .starting) : r.state = .starting := by
  unfold clearComp at h
  split at h
  · cases h
  · exact h

theorem takeScreen_startsNone (v : ScreenValue) (s : State) : StartsNone s (takeScreen v s) := by
  unfold takeScreen
  split
  · exact .refl s
  · exact setScm_startsNone s _
  · exact .ite ((setScm_startsNone s _).trans (assertScreen_startsNone _)).endEvent (setScm_startsNone s _)

theorem applyOrder_startsNone (id : ArbiterId) (ls : List Line) (s : State) : StartsNone s (applyOrder id ls s).1 := by
  unfold applyOrder
  dsimp only
  exact (arbEvent_comps _ s).startsNone.endEvent

/-- No command of the host starts a compressor. -/
theorem bodyOf_startsNone (i : Instr) (s : State) : StartsNone s (bodyOf i s).1 := by
  by_cases hm : (isHostCommand i && movesPlant i) = false
  · exact (bodyOf_loadSame hm s).startsNone
  cases i with
  | zoneSet z m sp =>
    dsimp only [bodyOf, cmdZoneSet]
    split
    · exact ((setZone_comps s _ _).trans (applyHostMode_comps _ _)).startsNone.endEvent
    · exact .refl s
  | seats => exact (StartsNone.foldl (fun s z => seatCount_startsNone z _ s) _ s).endEvent
  | nudge z d =>
    dsimp only [bodyOf, cmdNudge]
    split
    · dsimp only
      exact ((setZone_comps s _ _).startsNone.trans (reloadEvent_startsNone _ _ _)).endEvent
    · exact .refl s
  | touch zs =>
    dsimp only [bodyOf, cmdTouch]
    split
    · exact .refl s
    · exact (StartsNone.foldl (fun s z => .ite (reloadEvent_startsNone .touch z s) (.refl s)) _ s).endEvent
  | arbMode a b c d e =>
    dsimp only [bodyOf, cmdArbMode]
    split
    · dsimp only
      exact (arbEvent_comps _ s).startsNone.endEvent
    · exact .refl s
  | arbOrder a ls =>
    dsimp only [bodyOf, cmdArbOrder]
    split
    · split
      · exact applyOrder_startsNone _ _ s
      · exact .refl s
    · exact .refl s
  | rotate a l =>
    dsimp only [bodyOf, cmdRotate]
    split
    · split
      · exact applyOrder_startsNone _ _ s
      · exact .refl s
    · exact .refl s
  | mask zs =>
    dsimp only [bodyOf, cmdMask]
    split
    · dsimp only
      exact (arbEvent_comps _ s).startsNone.endEvent
    · exact .refl s
  | release z =>
    dsimp only [bodyOf, cmdRelease]
    split
    · dsimp only
      exact (withdraw_comps _ s).startsNone.endEvent
    · exact .refl s
  | allowance w => exact (setLa_comps s _).startsNone.trans (allowanceMoved_startsNone _ _)
  | clearLockout t =>
    dsimp only [bodyOf, cmdClearLockout]
    split
    · dsimp only
      exact (setComp_startsNone (clearComp_starting _)).endEvent
    · dsimp only
      exact (setHs_comps s _).startsNone.endEvent
    · exact .refl s
  | fuelPermit p =>
    dsimp only [bodyOf, cmdFuelPermit]
    split
    · dsimp only
      exact (setHs_comps s _).startsNone.endEvent
    · exact .refl s
  | ventLimits v f => exact setLimits_startsNone _ _ s
  | screen v =>
    dsimp only [bodyOf, cmdScreen]
    split
    · exact takeScreen_startsNone _ s
    · exact .refl s
  | park =>
    dsimp only [bodyOf, cmdPark]
    split
    · exact .refl s
    · split
      · exact .refl s
      · dsimp only [powerReply]
        exact windDown_startsNone s
    all_goals split <;> exact .refl s
  | depart m => exact .ite (setPsc_comps s _).startsNone (setDepart_comps _ s).startsNone.endEvent
  | profileLoad =>
    dsimp only [bodyOf, cmdProfileLoad]
    split
    · exact applyProfile_startsNone _ s
    · exact .refl s
  | _ => exact absurd rfl hm

theorem completeFrame_startsNone (rtype : Byte) {body : CommandBody} (hb : FrameBody body) (s : State) :
    StartsNone s (completeFrame rtype body s) := by
  have hwake : ∀ t, StartsNone t (wakeByFrame t) := fun t => .ite (leaveForLayover_comps t).startsNone.endEvent (.refl t)
  have hbody : ∀ t, StartsNone t (body t).1 := fun t => by
    cases hb with
    | answer f => exact .refl t
    | command i => exact bodyOf_startsNone i t
  have hreply : ∀ t v, StartsNone t (t.setHlu v) := fun t v => (setHlu_loadSame t v).startsNone
  exact .ite (hwake s) ((hwake s).trans ((hbody _).trans (hreply _ _)))

/-- No event but a staging check starts a compressor. -/
theorem plantEvent_startsNone {i : Instr} (hm : movesPlant i = true) (hh : isHostCommand i = false) (hi : i ≠ .stagingCheck) {s t : State}
    (he : exec i s = .next t) : StartsNone s t := by
  have due : ∀ {u : State} {c : Prop} [Decidable c], exec i s = .next (if c then u else s) → StartsNone s u → StartsNone s t := fun hu k => by
    cases he.symm.trans hu
    exact .ite k (.refl s)
  have always : ∀ {u : State}, exec i s = .next u → StartsNone s u → StartsNone s t := fun hu k => by
    cases he.symm.trans hu
    exact k
  clear he
  cases i with
  | ignition on => exact always rfl (.ite (.refl s) (ignitionChanged_comps on s).startsNone.endEvent)
  | doorEdge d => exact always rfl (doorChanged_startsNone d s).endEvent
  | flameLoss =>
    exact due rfl ((setPins_comps s _).trans (flameGoes_comps _)).startsNone.endEvent
  | sample c v => exact always rfl (sampleWork_startsNone c v s)
  | periodExpiry => exact due rfl (periodWork_startsNone s)
  | inactivityTimerExpiry z => exact due rfl (timerExpired_startsNone z s).endEvent
  | holdEnd e => exact due rfl (arbEvent_comps _ s).startsNone.endEvent
  | fallback =>
    exact due rfl (((setLa_comps s _).trans (raise_comps .allowance _)).startsNone.trans (allowanceMoved_startsNone _ _))
  | stagingCheck => exact absurd rfl hi
  | startingExpiry c =>
    have h1 : StartsNone s (s.setComp c (runRec s.partTime (lowUsed s c) (s.comp c))) := setComp_startsNone nofun
    exact due rfl (h1.trans (reportPool_comps _ _ _).startsNone).endEvent
  | unloadingExpiry c =>
    have h1 : StartsNone s (s.setComp c (stopRec s.partTime (s.comp c))) := setComp_startsNone nofun
    exact due rfl (h1.trans (restoreIfFell_comps _ _).startsNone).endEvent
  | heatingCheck => exact due rfl (heatingWork_comps s).startsNone.endEvent
  | ignitionExpiry => exact due rfl (endIgnition_comps s).startsNone.endEvent
  | purgeExpiry => exact due rfl (endPurge_comps s).startsNone.endEvent
  | screenCheck => exact due rfl (screenWork_startsNone s).endEvent
  | ignitionOffExpiry => exact due rfl (enterLayover_comps s).startsNone.endEvent
  | leadExpiry => exact due rfl (reachLead_comps s).startsNone.endEvent
  | softReset => exact due rfl (softResetWork_startsNone s)
  | powerOnReset pins => exact always rfl (powerOnWork_startsNone pins s)
  | _ => revert hm hh; exact nofun

/-- Nothing but a staging check starts a compressor (R95). -/
theorem exec_startsNone {i : Instr} (hi : i ≠ .stagingCheck) {s t : State} (he : exec i s = .next t) : StartsNone s t := by
  rcases exec_split i s with ⟨u, rtype, body, hu, hb, hx⟩ | ⟨u, hx, hu⟩ | ⟨hm, hh⟩
  · cases he.symm.trans hx
    exact hu.startsNone.trans (completeFrame_startsNone rtype hb u)
  · cases he.symm.trans hx
    exact hu.startsNone
  · exact plantEvent_startsNone hm hh hi he

end Sys2Proof.Machine

namespace Sys2Proof.Machine

/-! ## Records before the starts of a staging check (R99 to R101, R104 to R107) -/

theorem State.comp_setComp (s : State) (c d : Comp) (r : CompRec) : (s.setComp c r).comp d = if d = c then r else s.comp d := by
  split
  next h => rw [h, comp_setComp_self]
  next h => exact s.comp_setComp_of_ne r h

/-- A charge trip where it is due (R104). -/
def tripIfDue (c : Comp) (s : State) : State := if chargeTrip s c then tripComp c s else s

theorem tripIfDue_plantOnly (c : Comp) (s : State) : PlantOnly s (tripIfDue c s) := .ite (tripComp_plantOnly c s) (.refl s)

theorem stagingUpdate_eq (s : State) :
    stagingUpdate s = releaseTripped .b (releaseTripped .a (tripIfDue .b (tripIfDue .a (recordsAged s)))) := rfl

/-- What a staging check has brought up to date before its stops and starts. -/
def stagingReady (s : State) : State := stagingStretches (stagingUpdate s)

/-- The stops of a staging check. -/
def stagingStops (s : State) : State := stopForIdle (stopForSurplus (stopDisabled .b (stopDisabled .a s)))

/-- Whether a staging check that has been brought up to date starts a compressor (R100). -/
def startsDue (s : State) : Bool := decide (s.ca.coolCap < s.cs.wantedTotal) && lasted s.partTime s.cs.excess (stageDelay s)

theorem stagingWork_eq (s : State) :
    stagingWork s =
      if startsDue (stagingReady s) then tryStarts (stagingStops (stagingReady s)) else stagingStops (stagingReady s) := rfl

theorem unloadComp_comp (c d : Comp) (s : State) :
    (unloadComp c s).comp d = if d = c then unloadRec s.partTime (s.comp d) else s.comp d := by
  have h : (unloadComp c s).comp d = (s.setComp c (unloadRec s.partTime (s.comp c))).comp d := (reportPool_comps _ _ _).comp d
  rw [h, State.comp_setComp]
  split
  next hd => rw [hd]
  next => rfl

theorem tripComp_comp (c d : Comp) (s : State) : (tripComp c s).comp d = if d = c then tripRec s.partTime (s.comp d) else s.comp d := by
  have hflags : ∀ (p : Prop) [Decidable p] (t : State), CompsSame t (if p then raise .compLock (raise .compTrip t) else raise .compTrip t) :=
    fun p _ t => .ite ((raise_comps _ t).trans (raise_comps _ _)) (raise_comps _ t)
  have h : (tripComp c s).comp d = (s.setComp c (tripRec s.partTime (s.comp c))).comp d :=
    (((hflags _ _).trans (restoreIfFell_comps _ _)).trans (reportPool_comps _ _ _)).comp d
  rw [h, State.comp_setComp]
  split
  next hd => rw [hd]
  next => rfl

theorem tripIfDue_comp (c d : Comp) (s : State) :
    (tripIfDue c s).comp d = if d = c ∧ chargeTrip s c = true then tripRec s.partTime (s.comp d) else s.comp d := by
  unfold tripIfDue
  by_cases h : chargeTrip s c = true
  · rw [if_pos h, tripComp_comp]
    simp only [h, and_true]
  · rw [if_neg h, if_neg fun hd => h hd.2]

theorem releaseTripped_comp (c d : Comp) (s : State) :
    (releaseTripped c s).comp d =
      if d = c ∧ tripOver s c = true then { s.comp d with state := .off, stateSince := s.partTime } else s.comp d := by
  unfold releaseTripped
  by_cases h : tripOver s c = true
  · rw [if_pos h, State.comp_setComp]
    by_cases hd : d = c
    · rw [if_pos hd, if_pos ⟨hd, h⟩, hd]
    · rw [if_neg hd, if_neg fun k => hd k.1]
  · rw [if_neg h, if_neg fun hd => h hd.2]

theorem chargeTrip_congr {s t : State} {c : Comp} (hs : (t.comp c).state = (s.comp c).state)
    (hc : (t.comp c).chargeStart = (s.comp c).chargeStart) (ht : t.partTime = s.partTime) : chargeTrip t c = chargeTrip s c := by
  unfold chargeTrip
  rw [hs, hc, ht]

theorem tripOver_congr {s t : State} {c : Comp} (hs : (t.comp c).state = (s.comp c).state)
    (hc : (t.comp c).stateSince = (s.comp c).stateSince) (hk : PlantOnly s t) : tripOver t c = tripOver s c := by
  unfold tripOver highUsed
  rw [hs, hc, hk.partTime, hk.ssu]

/-- A record brought up to a staging check: aged, tripped where its charge trip is due, and released from Tripped where that is over (R99,
R104, R106). -/
def updatedRec (s : State) (c : Comp) : CompRec :=
  if chargeTrip s c then tripRec s.partTime (ageRec s.partTime (s.comp c))
  else if tripOver s c then { ageRec s.partTime (s.comp c) with state := .off, stateSince := s.partTime }
  else ageRec s.partTime (s.comp c)

/-- A trip is taken before the release from Tripped, which a compressor just tripped waits 600 s for (R105, R106). -/
theorem releaseTripped_updated {s x : State} {c : Comp} (hk : PlantOnly s x)
    (hx : x.comp c = if chargeTrip s c then tripRec s.partTime (ageRec s.partTime (s.comp c)) else ageRec s.partTime (s.comp c)) :
    (releaseTripped c x).comp c = updatedRec s c := by
  rw [releaseTripped_comp, updatedRec]
  by_cases htrip : chargeTrip s c = true
  · rw [if_pos htrip] at hx ⊢
    have hover : tripOver x c = false := by
      have hsince : (x.comp c).stateSince = s.partTime := by rw [hx]; rfl
      have hnot : ¬ s.partTime + 600 ≤ s.partTime := by omega
      simp [tripOver, hsince, hk.partTime, passed, hnot]
    rw [if_neg (by simp [hover]), hx]
  · rw [if_neg htrip] at hx ⊢
    have hover : tripOver x c = tripOver s c := tripOver_congr (by rw [hx]; rfl) (by rw [hx]; rfl) hk
    rw [hx, hover, hk.partTime]
    simp only [true_and]

theorem stagingUpdate_comp (s : State) (c : Comp) : (stagingUpdate s).comp c = updatedRec s c := by
  have hage := recordsAged_comp s
  have h1 : PlantOnly s (recordsAged s) := setCs_plantOnly s _
  have h2 := h1.trans (tripIfDue_plantOnly .a _)
  have h3 := h2.trans (tripIfDue_plantOnly .b _)
  have hb : (tripIfDue .a (recordsAged s)).comp .b = ageRec s.partTime (s.comp .b) := by
    rw [tripIfDue_comp, if_neg (fun h => nomatch h.1), hage]
  rw [stagingUpdate_eq]
  cases c with
  | a =>
    have htrip : chargeTrip (recordsAged s) .a = chargeTrip s .a := chargeTrip_congr (by rw [hage]; rfl) (by rw [hage]; rfl) h1.partTime
    rw [releaseTripped_comp, if_neg (fun h => nomatch h.1)]
    refine releaseTripped_updated h3 ?_
    rw [tripIfDue_comp, if_neg (fun h => nomatch h.1), tripIfDue_comp, htrip, hage, h1.partTime]
    simp only [true_and]
  | b =>
    have htrip : chargeTrip (tripIfDue .a (recordsAged s)) .b = chargeTrip s .b :=
      chargeTrip_congr (by rw [hb]; rfl) (by rw [hb]; rfl) h2.partTime
    refine releaseTripped_updated (h3.trans (releaseTripped_plantOnly .a _)) ?_
    rw [releaseTripped_comp, if_neg (fun h => nomatch h.1), tripIfDue_comp, htrip, hb, h2.partTime]
    simp only [true_and]

/-- The deferred flag is cleared where no more is wanted than there is (R100). -/
theorem stagingStretches_comp (s : State) (c : Comp) :
    (stagingStretches s).comp c =
      { s.comp c with deferred := (s.comp c).deferred && decide (s.ca.coolCap < s.cs.wantedTotal) } := by
  have hget : (stagingStretches s).comp c =
      if s.cs.wantedTotal ≤ s.ca.coolCap then { s.comp c with deferred := false } else s.comp c := PerComp.get_map _ _ c
  rw [hget]
  split
  next h => rw [decide_eq_false (Nat.not_lt.2 h), Bool.and_false]
  next h => rw [decide_eq_true (Nat.not_le.1 h), Bool.and_true]

theorem stagingReady_plantOnly (s : State) : PlantOnly s (stagingReady s) := (stagingUpdate_plantOnly s).trans (stagingStretches_plantOnly _)

/-- Before the stops and starts a record is the updated one, but for its deferred flag. -/
theorem stagingReady_comp (s : State) (c : Comp) : ∃ d, (stagingReady s).comp c = { updatedRec s c with deferred := d } := by
  rw [stagingReady, stagingStretches_comp, stagingUpdate_comp]
  exact ⟨_, rfl⟩

/-! ### Stops (R101, R107) -/

/-- Compressors that may stop have been stopped or not, and the other stretches stand. -/
structure StagingStopped (s t : State) : Prop extends PlantOnly s t where
  comp : ∀ c, t.comp c = s.comp c ∨ (mayStop s.partTime (s.comp c) = true ∧ t.comp c = unloadRec s.partTime (s.comp c))
  checkedAt : t.cs.checkedAt = s.cs.checkedAt
  excess : t.cs.excess = s.cs.excess
  idle : t.cs.idle = s.cs.idle
  surplus : t.cs.surplus = s.cs.surplus ∨ t.cs.surplus = none

theorem StagingStopped.refl (s : State) : StagingStopped s s := ⟨.refl s, fun _ => .inl rfl, rfl, rfl, rfl, .inl rfl⟩

theorem mayStop_iff (now : Nat) (r : CompRec) : mayStop now r = true ↔ r.state = .running ∧ ∃ y, r.onSince = some y ∧ y + 180 ≤ now := by
  unfold mayStop lasted passed
  rw [Bool.and_eq_true, beq_iff_eq]
  cases r.onSince <;> simp

theorem unloadRec_running (now : Nat) {r : CompRec} (h : r.state = .running) :
    unloadRec now r = { r with state := .unloading, stateSince := now, chargeStart := none } := by
  unfold unloadRec
  rw [h]

theorem mayStop_unloadRec (now : Nat) (r : CompRec) : mayStop now (unloadRec now r) = false := by
  rw [Bool.eq_false_iff]
  intro h
  exact (unloadRec_stops now r).2 ((mayStop_iff _ _).1 h).1

theorem StagingStopped.trans {s t u : State} (h : StagingStopped s t) (k : StagingStopped t u) : StagingStopped s u where
  toPlantOnly := h.toPlantOnly.trans k.toPlantOnly
  comp c := by
    rcases h.comp c with h1 | ⟨hm, h1⟩ <;> rcases k.comp c with k1 | ⟨km, k1⟩
    · exact .inl (k1.trans h1)
    · rw [h1, h.partTime] at km k1
      exact .inr ⟨km, k1⟩
    · exact .inr ⟨hm, k1.trans h1⟩
    · rw [h1, h.partTime, mayStop_unloadRec] at km
      cases km
  checkedAt := k.checkedAt.trans h.checkedAt
  excess := k.excess.trans h.excess
  idle := k.idle.trans h.idle
  surplus := by
    rcases k.surplus with k1 | k1 <;> rw [k1]
    · exact h.surplus
    · exact .inr rfl

/-- A compressor stopped stays as it is through later stops. -/
theorem StagingStopped.stopped {s t u : State} (h : StagingStopped t u) {c : Comp} (hc : t.comp c = unloadRec s.partTime (s.comp c))
    (hp : t.partTime = s.partTime) : u.comp c = unloadRec s.partTime (s.comp c) := by
  rcases h.comp c with h1 | ⟨hm, -⟩
  · exact h1.trans hc
  · rw [hc, hp, mayStop_unloadRec] at hm
    cases hm

/-- A report of the cool pool leaves the stretches. -/
theorem reportCool_stretches (s : State) :
    (reportCool s).cs.excess = s.cs.excess ∧ (reportCool s).cs.surplus = s.cs.surplus ∧ (reportCool s).cs.idle = s.cs.idle := by
  unfold reportCool reportPool
  split
  · exact ⟨rfl, rfl, rfl⟩
  · rw [(arbEvent_done _ s).cs]
    exact ⟨rfl, rfl, rfl⟩

theorem unloadComp_stagingStopped {c : Comp} {s : State} (hm : mayStop s.partTime (s.comp c) = true) : StagingStopped s (unloadComp c s) := by
  obtain ⟨he, hs, hi⟩ := reportCool_stretches (s.setComp c (unloadRec s.partTime (s.comp c)))
  refine ⟨unloadComp_plantOnly c s, fun d => ?_, (unloadComp_stopped c s).checkedAt, he, hi, .inl hs⟩
  rw [unloadComp_comp]
  split
  next hd => exact .inr ⟨hd ▸ hm, rfl⟩
  next => exact .inl rfl

theorem stopDisabled_stagingStopped (c : Comp) (s : State) : StagingStopped s (stopDisabled c s) := by
  unfold stopDisabled
  split
  next h => exact unloadComp_stagingStopped (Bool.and_eq_true_iff.1 h).2
  next => exact .refl s

theorem breakSurplus_stagingStopped (s : State) : StagingStopped s (breakSurplus s) :=
  ⟨setCs_plantOnly s _, fun _ => .inl rfl, rfl, rfl, rfl, .inr rfl⟩

theorem stagingStop_stagingStopped (c : Comp) (s : State) : StagingStopped s (stagingStop c s) := by
  unfold stagingStop
  split
  next h => exact (unloadComp_stagingStopped h).trans (breakSurplus_stagingStopped _)
  next => exact .refl s

theorem stopForSurplus_stagingStopped (s : State) : StagingStopped s (stopForSurplus s) := by
  unfold stopForSurplus
  split
  · split
    · exact stagingStop_stagingStopped _ s
    · exact .refl s
  · exact .refl s

theorem stopForIdle_stagingStopped (s : State) : StagingStopped s (stopForIdle s) := by
  unfold stopForIdle
  split
  · exact (stagingStop_stagingStopped .a s).trans (stagingStop_stagingStopped .b _)
  · exact .refl s

theorem stagingStops_stagingStopped (s : State) : StagingStopped s (stagingStops s) :=
  ((stopDisabled_stagingStopped .a s).trans (stopDisabled_stagingStopped .b _)).trans
    ((stopForSurplus_stagingStopped _).trans (stopForIdle_stagingStopped _))

/-! ### SCc's shortage (R58, R98) -/

/-- What work of the Cooling Sequencer does to SCc's shortage: the number it wants stands, and only a stop of a running compressor changes
whether it is short. -/
structure ShortageFollows (s t : State) : Prop where
  wanted : (t.ca.entry .scc).wanted = (s.ca.entry .scc).wanted
  short : t.cs.sccShort = true → s.cs.sccShort = true ∨ 0 < (s.ca.entry .scc).wanted
  running : ∀ c, (t.comp c).state = .running → (s.comp c).state = .running
  same : (∀ c, (s.comp c).state = .running → (t.comp c).state = .running) → t.cs.sccShort = s.cs.sccShort

theorem ShortageFollows.refl (s : State) : ShortageFollows s s := ⟨rfl, .inl, fun _ => id, fun _ => rfl⟩

theorem ShortageFollows.trans {s t u : State} (h : ShortageFollows s t) (k : ShortageFollows t u) : ShortageFollows s u where
  wanted := k.wanted.trans h.wanted
  short hu := by
    rcases k.short hu with ht | hw
    · exact h.short ht
    · exact .inr (h.wanted ▸ hw)
  running c := h.running c ∘ k.running c
  same hall := (k.same fun c hc => hall c (h.running c hc)).trans (h.same fun c hc => k.running c (hall c hc))

theorem ShortageFollows.ite {s t u : State} {c : Prop} [Decidable c] (h : ShortageFollows s t) (k : ShortageFollows s u) :
    ShortageFollows s (if c then t else u) := by
  split <;> assumption

/-- Work that leaves the arbiter and SCc's shortage, and brings no compressor into Running. -/
theorem ShortageFollows.of_same {s t : State} (hca : t.ca = s.ca) (hscc : t.cs.sccShort = s.cs.sccShort)
    (hrun : ∀ c, (t.comp c).state = .running → (s.comp c).state = .running) : ShortageFollows s t :=
  ⟨by rw [hca], fun h => .inl (hscc ▸ h), hrun, fun _ => hscc⟩

/-- A running compressor is stopped, and the cool pool is reported. -/
theorem ShortageFollows.report {s t : State} (h : ShortageFollows s t) {c : Comp} (hs : (s.comp c).state = .running)
    (ht : (t.comp c).state ≠ .running) : ShortageFollows s (reportCool t) := by
  have hcomp := (reportPool_comps .cool (coolCapacityOf t.cs) t).comp
  have hrun : ∀ d, ((reportCool t).comp d).state = .running → (s.comp d).state = .running := fun d hd => h.running d (hcomp d ▸ hd)
  have hnever : ∀ {p : Prop}, (∀ d, (s.comp d).state = .running → ((reportCool t).comp d).state = .running) → p := fun hall =>
    (ht (hcomp c ▸ hall c hs)).elim
  by_cases hn : t.ca.capacity .cool = coolCapacityOf t.cs
  · have he : reportCool t = t := if_pos hn
    rw [he]
    exact h
  · have he : reportCool t = arbEvent (reportCapacity t.partTime .cool (coolCapacityOf t.cs)) t := if_neg hn
    have hd := arbEvent_done (reportCapacity t.partTime .cool (coolCapacityOf t.cs)) t
    have hw : ((reportCapacity t.partTime .cool (coolCapacityOf t.cs) t.ca).arb.entry .scc).wanted = (s.ca.entry .scc).wanted := by
      rw [((reportCapacity_stand _ _ _ _).1.request .scc).2, Arbiter.entry_setCapacity, h.wanted]
    refine ⟨?_, fun hshort => .inr ?_, hrun, hnever⟩
    · rw [he, hd.ca, hw]
    · rw [he, hd.cs] at hshort
      have hlt := of_decide_eq_true hshort
      omega

theorem unloadComp_shortage {c : Comp} {s : State} (h : (s.comp c).state = .running) : ShortageFollows s (unloadComp c s) := by
  have hstop := setComp_unload_stopped c s
  have h1 : ShortageFollows s (s.setComp c (unloadRec s.partTime (s.comp c))) :=
    .of_same rfl rfl fun d hd => hstop.going (.inr hd) ▸ hd
  refine h1.report h ?_
  rw [State.comp_setComp_self]
  exact (unloadRec_stops _ _).2

theorem tripIfDue_shortage (c : Comp) (s : State) : ShortageFollows s (tripIfDue c s) := by
  unfold tripIfDue
  split
  next h =>
    have hrun : (s.comp c).state = .running := beq_iff_eq.1 (Bool.and_eq_true_iff.1 h).1
    have hset : ∀ t : State, t.ca = s.ca → t.cs = (s.setComp c (tripRec s.partTime (s.comp c))).cs → ShortageFollows s (reportCool t) := by
      intro t hca hcs
      have hcomp : ∀ d, t.comp d = if d = c then tripRec s.partTime (s.comp c) else s.comp d := fun d => by
        rw [← State.comp_setComp]
        exact congrArg (fun v : Cooling => v.comps.get d) hcs
      have h1 : ShortageFollows s t := .of_same hca (by rw [hcs]; rfl) fun d hd => by
        rw [hcomp] at hd
        split at hd
        · exact absurd hd (tripRec_stops _ _).2
        · exact hd
      refine h1.report hrun ?_
      rw [hcomp, if_pos rfl]
      exact (tripRec_stops _ _).2
    unfold tripComp
    dsimp only
    obtain ⟨k, -, he⟩ := restoreIfFell_stack (committedLoad s)
      (if (tripRec s.partTime (s.comp c)).state = .lockout then raise .compLock (raise .compTrip (s.setComp c (tripRec s.partTime (s.comp c))))
        else raise .compTrip (s.setComp c (tripRec s.partTime (s.comp c))))
    rw [he]
    refine hset _ ?_ ?_
    · change State.ca (if _ then _ else _) = _
      split <;> rfl
    · change State.cs (if _ then _ else _) = _
      split <;> rfl
  next => exact .refl s

theorem releaseTripped_shortage (c : Comp) (s : State) : ShortageFollows s (releaseTripped c s) := by
  refine .ite (.of_same rfl rfl fun d hd => ?_) (.refl s)
  rw [State.comp_setComp] at hd
  split at hd
  · cases hd
  · exact hd

theorem stagingReady_shortage (s : State) : ShortageFollows s (stagingReady s) := by
  have hage : ShortageFollows s (recordsAged s) := .of_same rfl rfl fun c hc => by
    rw [recordsAged_comp] at hc
    exact hc
  have hstretch : ∀ t, ShortageFollows t (stagingStretches t) := fun t => .of_same rfl rfl fun c hc => by
    rw [stagingStretches_comp] at hc
    exact hc
  have htrips := hage.trans ((tripIfDue_shortage .a _).trans (tripIfDue_shortage .b _))
  exact htrips.trans ((releaseTripped_shortage .a _).trans ((releaseTripped_shortage .b _).trans (hstretch _)))

theorem stagingStops_shortage (s : State) : ShortageFollows s (stagingStops s) := by
  have hdisabled : ∀ c t, ShortageFollows t (stopDisabled c t) := fun c t => by
    unfold stopDisabled
    split
    next h => exact unloadComp_shortage ((mayStop_iff _ _).1 (Bool.and_eq_true_iff.1 h).2).1
    next => exact .refl t
  have hstop : ∀ c t, ShortageFollows t (stagingStop c t) := fun c t => by
    unfold stagingStop
    split
    next h => exact (unloadComp_shortage ((mayStop_iff _ _).1 h).1).trans (.of_same rfl rfl fun _ => id)
    next => exact .refl t
  have hsurplus : ∀ t, ShortageFollows t (stopForSurplus t) := fun t => by
    unfold stopForSurplus
    split
    · split
      · exact hstop _ t
      · exact .refl t
    · exact .refl t
  have hidle : ∀ t, ShortageFollows t (stopForIdle t) := fun t => .ite ((hstop .a t).trans (hstop .b _)) (.refl t)
  exact ((hdisabled .a s).trans (hdisabled .b _)).trans ((hsurplus _).trans (hidle _))

end Sys2Proof.Machine

namespace Sys2Proof.Machine

/-! ## A start at a staging check (R95, R98 to R100) -/

theorem conditionHolds_of_firstFailing {s : State} {c : Comp} (h : firstFailing s c = none) (k : StartCondition) :
    conditionHolds s c k = true := by
  have hmem : k ∈ startConditions := by cases k <;> decide
  simpa using List.find?_eq_none.1 h k hmem

/-- A compressor that the starts bring into Starting was startable and admitted, and the end of the check sheds nothing (R80, R98). -/
structure StartTaken (v : State) (c : Comp) : Prop where
  startable : firstFailing v c = none
  comp : (tryStarts v).comp c = startRec v.partTime (v.comp c)
  others : ∀ d, d ≠ c → ((tryStarts v).comp d).state = (v.comp d).state
  ended : endEvent (tryStarts v) = tryStarts v

theorem tryStarts_startTaken {v : State} {c : Comp} (hv : (v.comp c).state ≠ .starting) (ht : ((tryStarts v).comp c).state = .starting) :
    StartTaken v c := by
  have h := tryStarts_tried v
  have hpick : startPick v = some c := by
    by_contra hne
    obtain ⟨b, k, he⟩ := h.unpicked c hne
    rw [he] at ht
    exact hv ht
  have hfail := firstFailing_of_startPick hpick
  have hadm : admitted v 4200 = true := by
    by_contra hno
    rw [h.picked c hpick, askedRec, if_neg hno] at ht
    exact hv ht
  have huse : inUse v.psc.power = true := conditionHolds_of_firstFailing hfail .powerState
  refine ⟨hfail, ?_, fun d hd => ?_, endEvent_settled ?_ ?_⟩
  · rw [h.picked c hpick, askedRec, if_pos hadm]
  · obtain ⟨b, k, he⟩ := h.unpicked d fun hp => hd (Option.some.inj (hp.symm.trans hpick))
    rw [he]
  · have hle : allowanceInForce v.la ≤ loadBound v := Nat.le_max_left _ _
    have hfits : committedLoad v + 4200 ≤ allowanceInForce v.la := of_decide_eq_true hadm
    rw [settled_iff, h.loadBound, h.load, hpick, if_pos ⟨rfl, hadm⟩]
    omega
  · rw [h.psc]
    intro hw
    rw [hw] at huse
    cases huse

/-- A compressor that stands in Off when the stops of a check are done stood in Off at the check, or its time in Tripped was over; its
record is otherwise as it was, with the start log aged (R99, R106). -/
theorem updatedRec_off {s : State} {c : Comp} (h : (updatedRec s c).state = .off) :
    ((s.comp c).state = .off ∨ tripOver s c = true) ∧ (updatedRec s c).stoppedSince = (s.comp c).stoppedSince ∧
      (updatedRec s c).enable = (s.comp c).enable ∧ (updatedRec s c).startLog = recentStarts s c := by
  rw [← ageLog_startLog]
  unfold updatedRec at h ⊢
  split at h
  · have htrip : ∀ r, (tripRec s.partTime r).state ≠ .off := fun r hr => by
      simp only [tripRec] at hr
      split at hr <;> cases hr
    exact absurd h (htrip _)
  split at h
  next hno hover => exact ⟨.inr hover, by rw [if_neg hno, if_pos hover]; exact ⟨rfl, rfl, rfl⟩⟩
  next hno hover => exact ⟨.inl h, by rw [if_neg hno, if_neg hover]; exact ⟨rfl, rfl, rfl⟩⟩

/-- What a staging check has done to its state when the starts are tried. -/
def stagingStopped (s : State) : State := stagingStops (stagingReady s)

theorem stagingStopped_plantOnly (s : State) : PlantOnly s (stagingStopped s) :=
  (stagingReady_plantOnly s).trans (stagingStops_stagingStopped _).toPlantOnly

theorem stagingStopped_shortage (s : State) : ShortageFollows s (stagingStopped s) :=
  (stagingReady_shortage s).trans (stagingStops_shortage _)

theorem unloadRec_state_of_mayStop {now : Nat} {r : CompRec} (h : mayStop now r = true) : (unloadRec now r).state = .unloading := by
  rw [unloadRec_running now ((mayStop_iff _ _).1 h).1]

theorem stagingStopped_comp (s : State) (c : Comp) :
    (stagingStopped s).comp c = (stagingReady s).comp c ∨
      ((stagingStopped s).comp c).state = .unloading ∧ (stagingStopped s).comp c = unloadRec s.partTime ((stagingReady s).comp c) := by
  rcases (stagingStops_stagingStopped (stagingReady s)).comp c with h | ⟨hm, h⟩
  · exact .inl h
  · rw [(stagingReady_plantOnly s).partTime] at hm h
    exact .inr ⟨(congrArg CompRec.state h).trans (unloadRec_state_of_mayStop hm), h⟩

/-- Nothing before its starts brings a compressor into Starting at a check. -/
theorem stagingStopped_starting {s : State} {c : Comp} (h : (s.comp c).state ≠ .starting) : ((stagingStopped s).comp c).state ≠ .starting := by
  intro hv
  rcases stagingStopped_comp s c with he | ⟨hu, -⟩
  · obtain ⟨d, hd⟩ := stagingReady_comp s c
    rw [he, hd] at hv
    change (updatedRec s c).state = .starting at hv
    unfold updatedRec at hv
    split at hv
    · exact absurd hv (tripRec_stops _ _).1
    split at hv
    · cases hv
    · exact h hv
  · rw [hu] at hv
    cases hv

/-- A compressor in Off when the starts are tried has its updated record, but for the deferred flag. -/
theorem stagingStopped_off {s : State} {c : Comp} (h : ((stagingStopped s).comp c).state = .off) :
    ∃ d, (stagingStopped s).comp c = { updatedRec s c with deferred := d } := by
  rcases stagingStopped_comp s c with he | ⟨hu, -⟩
  · rw [he]
    exact stagingReady_comp s c
  · rw [hu] at h
    cases h

/-- A check tries its starts, where one is due, when its stops are done. -/
theorem stagingWork_cases (s : State) : stagingWork s = tryStarts (stagingStopped s) ∨ stagingWork s = stagingStopped s := by
  rw [stagingWork_eq, stagingStopped]
  split
  · exact .inl rfl
  · exact .inr rfl

/-- A start that a check brings about was tried when the stops were done. -/
theorem stagingWork_startTaken {s : State} {c : Comp} (hs : (s.comp c).state ≠ .starting)
    (ht : ((endEvent (stagingWork s)).comp c).state = .starting) :
    StartTaken (stagingStopped s) c ∧ endEvent (stagingWork s) = tryStarts (stagingStopped s) := by
  have hv := stagingStopped_starting hs
  have hwork := stagingWork_cases s
  generalize stagingStopped s = v at hv hwork
  generalize stagingWork s = w at ht hwork
  have hstart : (w.comp c).state = .starting := (endEvent_stopped w).going (.inl ht) ▸ ht
  rcases hwork with rfl | rfl
  · have htaken := tryStarts_startTaken hv hstart
    exact ⟨htaken, htaken.ended⟩
  · exact absurd hstart hv

/-- The conditions of R97 to R99 that a start meets, as they stood at the check. -/
theorem StartTaken.conditions {s : State} {c : Comp} (h : StartTaken (stagingStopped s) c) :
    inUse s.psc.power = true ∧ (s.comp c).stoppedSince + 300 ≤ s.partTime ∧ (s.comp c).enable = true ∧
      onStack (stagingStopped s).la (.comp c) = false ∧ valueUsed (s.ssu.pressureHigh.get c) ≠ none ∧
      valueUsed (s.ssu.pressureLow.get c) ≠ none ∧ ((s.comp c).state = .off ∨ tripOver s c = true) ∧ (recentStarts s c).length < 6 ∧
      ∃ d, (stagingStopped s).comp c = { updatedRec s c with deferred := d } ∧ (updatedRec s c).startLog = recentStarts s c := by
  have hk := stagingStopped_plantOnly s
  obtain ⟨d, hd⟩ := stagingStopped_off (state_off_of_firstFailing h.startable)
  have hstate : (updatedRec s c).state = .off := (congrArg CompRec.state hd).symm.trans (state_off_of_firstFailing h.startable)
  obtain ⟨hoff, hsince, hen, hlog⟩ := updatedRec_off hstate
  have hpower := conditionHolds_of_firstFailing h.startable .powerState
  have htime := conditionHolds_of_firstFailing h.startable .offTime
  have henable := conditionHolds_of_firstFailing h.startable .enable
  have hpress := conditionHolds_of_firstFailing h.startable .pressureChannels
  have hlimit := conditionHolds_of_firstFailing h.startable .startLog
  simp only [conditionHolds, hd, hk.psc, hk.partTime, highUsed, lowUsed, hk.ssu, hsince, hen, hlog, passed, Bool.and_eq_true,
    Option.isSome_iff_ne_none, decide_eq_true_eq] at hpower htime henable hpress hlimit
  exact ⟨hpower, htime, henable, not_onStack_of_firstFailing h.startable, hpress.1, hpress.2, hoff, hlimit, d, hd, hlog⟩

theorem tripOver_iff (s : State) (c : Comp) :
    tripOver s c = true ↔ (s.comp c).state = .tripped ∧ (s.comp c).stateSince + 600 ≤ s.partTime ∧
      ∃ v, valueUsed (s.ssu.pressureHigh.get c) = some v ∧ v < 200 := by
  unfold tripOver highUsed passed
  rw [Bool.and_eq_true, Bool.and_eq_true, beq_iff_eq, decide_eq_true_eq, and_assoc]
  cases valueUsed (s.ssu.pressureHigh.get c) <;> simp

theorem eq_otherComp {c d : Comp} (h : d ≠ c) : d = otherComp c := by
  cases c <;> cases d <;> simp_all [otherComp]

theorem otherComp_ne (c : Comp) : otherComp c ≠ c := by cases c <;> decide

/-- A start below 5.0 °C takes SCc's shortage, as it stood or as the other compressor's stop at this check left it (R98, log entry 11). -/
theorem StartTaken.lowAmbient {s : State} {c : Comp} (h : StartTaken (stagingStopped s) c) (hc : (s.comp c).state ≠ .running) :
    50 ≤ outdoorUsed s ∨ s.cs.sccShort = true ∨
      (0 < (s.ca.entry .scc).wanted ∧ (s.comp (otherComp c)).state = .running ∧
        ((stagingStopped s).comp (otherComp c)).state ≠ .running) := by
  have hscc := stagingStopped_shortage s
  have hcond := conditionHolds_of_firstFailing h.startable .lowAmbient
  have hout : outdoorUsed (stagingStopped s) = outdoorUsed s := by
    unfold outdoorUsed
    rw [(stagingStopped_plantOnly s).ssu]
  simp only [conditionHolds, hout, Bool.or_eq_true, decide_eq_true_eq] at hcond
  rcases hcond with hwarm | hshort
  · exact .inl hwarm
  rcases hscc.short hshort with hs | hwanted
  · exact .inr (.inl hs)
  by_cases hall : ∀ d, (s.comp d).state = .running → ((stagingStopped s).comp d).state = .running
  · exact .inr (.inl (hscc.same hall ▸ hshort))
  · obtain ⟨d, hd⟩ := not_forall.1 hall
    obtain ⟨hrun, hstop⟩ := Classical.not_imp.1 hd
    obtain rfl : d = otherComp c := eq_otherComp fun hdc => hc (hdc ▸ hrun)
    exact .inr (.inr ⟨hwanted, hrun, hstop⟩)

/-- The other compressor was not in Starting, as no stop ends that. -/
theorem StartTaken.otherComp {s : State} {c : Comp} (h : StartTaken (stagingStopped s) c) : (s.comp (otherComp c)).state ≠ .starting := by
  intro hs
  have hcond := conditionHolds_of_firstFailing h.startable .otherCompressor
  have hupd : (updatedRec s (Machine.otherComp c)).state = .starting := by
    have htrip : chargeTrip s (Machine.otherComp c) = false := by simp [chargeTrip, hs]
    have hover : tripOver s (Machine.otherComp c) = false := by simp [tripOver, hs]
    rw [updatedRec, htrip, hover]
    exact hs
  obtain ⟨d, hd⟩ := stagingReady_comp s (Machine.otherComp c)
  have hv : ((stagingStopped s).comp (Machine.otherComp c)).state = .starting := by
    rcases (stagingStops_stagingStopped (stagingReady s)).comp (Machine.otherComp c) with he | ⟨hm, -⟩
    · exact (congrArg CompRec.state (he.trans hd)).trans hupd
    · have hrun := ((mayStop_iff _ _).1 hm).1
      rw [hd] at hrun
      exact absurd (hrun.symm.trans hupd) (by decide)
  simp only [conditionHolds, hv] at hcond
  cases hcond

/-- Settles O56: only a staging check starts a compressor (`exec_startsNone`), and a start that it brings about met the conditions of R98
when the stops were done, which are traced back to the state before the check. -/
theorem compressorStartsLawfully : Obligations.CompressorStartsLawfully := by
  intro i c s t he hs ht
  by_cases hi : i = .stagingCheck
  · subst hi
    have hexec : exec .stagingCheck s = .next (if notYet s.partTime s.cs.checkedAt then endEvent (stagingWork s) else s) := rfl
    cases he.symm.trans hexec
    by_cases hdue : notYet s.partTime s.cs.checkedAt = true
    · rw [if_pos hdue] at ht ⊢
      obtain ⟨htaken, hend⟩ := stagingWork_startTaken hs ht
      obtain ⟨hpower, htime, hen, hstack, hhigh, hlow, hoff, hlimit, d, hd, hlog⟩ := htaken.conditions
      have hnot : (s.comp c).state ≠ .running := by
        rcases hoff with h | h
        · rw [h]; decide
        · rw [((tripOver_iff s c).1 h).1]; decide
      have hstarts : (startRec s.partTime { updatedRec s c with deferred := d }).startLog = recentStarts s c ++ [s.partTime] :=
        congrArg (· ++ [s.partTime]) hlog
      have hother := htaken.others _ (otherComp_ne c)
      rw [hend, htaken.comp, (stagingStopped_plantOnly s).partTime, hd, hother, (tryStarts_tried _).la, hstarts]
      refine ⟨rfl, hpower, htime, hen, hstack, hhigh, hlow, htaken.otherComp, hoff.imp id (tripOver_iff s c).1, htaken.lowAmbient hnot, rfl,
        ?_, rfl, rfl⟩
      rw [List.length_append]
      exact hlimit
    · rw [if_neg hdue] at ht
      exact absurd ht hs
  · exact absurd ((exec_startsNone hi he).state c ht) hs

end Sys2Proof.Machine

namespace Sys2Proof.Machine

/-! ## Blowers and the bound through a staging check's stops (R82, R84, R87) -/

/-- Every blower is lawful and the load within its bound: what of the law of the loads the work of the Cooling Sequencer keeps whatever
the arbiter's orders are. -/
structure BlowersBound (s : State) : Prop where
  blowers : ∀ z, blowerLawful s z
  bound : WithinBound s

theorem BlowersBound.settled {s : State} (h : BlowersBound s) : settled s = true := (settled_iff s).2 h.bound

theorem BlowersBound.of_loadLawful {s : State} (h : loadLawful s) : BlowersBound s := ⟨h.2.1, h.2.2.2⟩

theorem BlowersBound.ite {t u : State} {c : Prop} [Decidable c] (h : BlowersBound t) (k : BlowersBound u) :
    BlowersBound (if c then t else u) := by
  split <;> assumption

theorem BlowersBound.foldl {α : Type} {f : State → α → State} (hf : ∀ s x, BlowersBound s → BlowersBound (f s x)) (l : List α) {s : State}
    (h : BlowersBound s) : BlowersBound (l.foldl f s) := by
  induction l generalizing s with
  | nil => exact h
  | cons x l ih => exact ih (hf s x h)

theorem BlowersBound.of_countsSame {s t : State} (h : BlowersBound s) (k : CountsSame s t) : BlowersBound t := by
  refine ⟨fun z => ?_, (settled_iff t).1 (k.settled.trans h.settled)⟩
  have hz := h.blowers z
  unfold blowerLawful State.blower State.zone at hz ⊢
  rwa [k.la, k.apc, k.zc]

theorem BlowersBound.of_loadSame {s t : State} (h : BlowersBound s) (k : LoadSame s t) : BlowersBound t := by
  refine ⟨fun z => ?_, k.withinBound h.bound⟩
  have hz := h.blowers z
  unfold blowerLawful at hz ⊢
  dsimp only at hz ⊢
  rwa [(k.blower z).1, (k.blower z).2, k.opMode, k.ventMin, onStack_congr k.stack]

/-- Blowers are lawful as well with fewer items on the stack. -/
theorem blowerLawful_setStack {s : State} {k : List ShedEntry} (hk : k <:+ s.la.stack) {z : Zone} (h : blowerLawful s z) :
    blowerLawful (s.setLa { s.la with stack := k }) z := by
  obtain ⟨hm, hout, hin, hst⟩ := h
  exact ⟨hm, hout, hin, fun hi => hst (onStack_of_suffix (la := s.la) (la' := { s.la with stack := k }) hk hi)⟩

theorem computeBlower_blowersBound (z : Zone) {s : State} (h : BlowersBound s) : BlowersBound (computeBlower z s) := by
  refine ⟨fun y => ?_, computeBlower_withinBound (h.blowers z) h.bound⟩
  have hset : blowerLawful (s.setBlower z { s.blower z with speed := computedSpeed s z }) y := by
    by_cases hyz : y = z
    · subst hyz
      exact computedSpeed_lawful (h.blowers y).1
    · have hy := h.blowers y
      unfold blowerLawful at hy ⊢
      rwa [State.blower_setBlower_of_ne _ _ hyz]
  rcases computeBlower_eq z s with he | he <;> rw [he]
  · exact hset
  · obtain ⟨k, hk, hr⟩ := restoreIfFell_stack (committedLoad s) (s.setBlower z { s.blower z with speed := computedSpeed s z })
    rw [hr]
    exact blowerLawful_setStack hk hset

/-- A capacity report moves blowers within the allowance at most (R82). -/
theorem reportPool_blowersBound (k : TokenKind) (n : Nat) {s : State} (h : BlowersBound s) : BlowersBound (reportPool k n s) := by
  have hhand : ∀ before t z, BlowersBound t → BlowersBound (handHeld before t z) := fun before t z ht =>
    .ite ht (computeBlower_blowersBound z (ht.of_loadSame (setBlower_held_loadSame t z _)))
  obtain ⟨u, hu, he⟩ := arbEvent_eq (reportCapacity s.partTime k n) s
  have h1 : BlowersBound (s.setCa (reportCapacity s.partTime k n s.ca).arb) := ⟨h.blowers, h.bound⟩
  refine .ite h ?_
  rw [he]
  exact .foldl (hhand s.ca) _ (h1.of_loadSame hu)

theorem unloadRec_counted {now : Nat} {r : CompRec} : compCounted (unloadRec now r).state = compCounted r.state := by
  unfold unloadRec
  split
  next h => rw [h]; rfl
  next h => rw [h]; rfl
  all_goals rfl

theorem unloadComp_blowersBound (c : Comp) {s : State} (h : BlowersBound s) : BlowersBound (unloadComp c s) :=
  reportPool_blowersBound _ _ (h.of_countsSame (setComp_countsSame unloadRec_counted))

theorem setCs_countsSame {s : State} {v : Cooling} (h : ∀ c, compCounted (v.comps.get c).state = compCounted (s.comp c).state) :
    CountsSame s (s.setCs v) := ⟨setCs_plantOnly s v, rfl, rfl, h, rfl, rfl⟩

theorem stagingStops_blowersBound {s : State} (h : BlowersBound s) : BlowersBound (stagingStops s) := by
  have hdisabled : ∀ c t, BlowersBound t → BlowersBound (stopDisabled c t) := fun c t ht => .ite (unloadComp_blowersBound c ht) ht
  have hstop : ∀ c t, BlowersBound t → BlowersBound (stagingStop c t) := fun c t ht =>
    .ite ((unloadComp_blowersBound c ht).of_countsSame (setCs_countsSame fun _ => rfl)) ht
  have hsurplus : ∀ t, BlowersBound t → BlowersBound (stopForSurplus t) := fun t ht => by
    unfold stopForSurplus
    split
    · split
      · exact hstop _ t ht
      · exact ht
    · exact ht
  have h1 := hsurplus _ (hdisabled .b _ (hdisabled .a _ h))
  exact .ite (hstop .b _ (hstop .a _ h1)) h1

/-! ## A check with no charge trip due -/

/-- No charge trip is due (R104). -/
def NoTripDue (s : State) : Prop := ∀ c, chargeTrip s c = false

theorem NoTripDue.of_stretches {s : State}
    (h : ∀ c x, (s.comp c).chargeStart = some x → (s.comp c).state = .running → s.partTime < x + 30) : NoTripDue s := fun c => by
  rw [Bool.eq_false_iff]
  intro ht
  obtain ⟨hrun, hlast⟩ := Bool.and_eq_true_iff.1 ht
  cases hx : (s.comp c).chargeStart with
  | none => rw [hx] at hlast; cases hlast
  | some x =>
    rw [hx] at hlast
    have hnow := h c x hx (beq_iff_eq.1 hrun)
    have hdue : x + 30 ≤ s.partTime := of_decide_eq_true hlast
    omega

/-- The records are brought up to the check, and some released from Tripped. -/
theorem NoTripDue.stagingUpdate {s : State} (h : NoTripDue s) :
    stagingUpdate s = releaseTripped .b (releaseTripped .a (recordsAged s)) := by
  have hage : ∀ c, chargeTrip (recordsAged s) c = false := fun c => by
    rw [← h c]
    exact chargeTrip_congr (by rw [recordsAged_comp]; rfl) (by rw [recordsAged_comp]; rfl) rfl
  rw [stagingUpdate_eq, tripIfDue, tripIfDue, hage .a, if_neg Bool.false_ne_true, hage .b, if_neg Bool.false_ne_true]

theorem releaseTripped_countsSame (c : Comp) (s : State) : CountsSame s (releaseTripped c s) := by
  unfold releaseTripped
  split
  next h =>
    refine setComp_countsSame ?_
    rw [((tripOver_iff s c).1 h).1]
    rfl
  next => exact ⟨.refl s, rfl, rfl, fun _ => rfl, rfl, rfl⟩

theorem NoTripDue.blowersBound {s : State} (h : NoTripDue s) (hs : BlowersBound s) : BlowersBound (stagingReady s) := by
  have h1 : BlowersBound (recordsAged s) := hs.of_countsSame (setCs_countsSame fun c => by
    change compCounted ((recordsAged s).comp c).state = _
    rw [recordsAged_comp]
    rfl)
  have h2 := (h1.of_countsSame (releaseTripped_countsSame .a _)).of_countsSame (releaseTripped_countsSame .b _)
  rw [← h.stagingUpdate] at h2
  refine h2.of_countsSame (setCs_countsSame fun c => ?_)
  change compCounted ((stagingStretches (Machine.stagingUpdate s)).comp c).state = _
  rw [stagingStretches_comp]

/-- The stretches that a check with no trip due begins, keeps or breaks (R100, R101). -/
theorem NoTripDue.stretches {s : State} (h : NoTripDue s) :
    (stagingReady s).cs.excess = keepStretch s.partTime (decide (s.ca.coolCap < s.cs.wantedTotal)) s.cs.excess ∧
      (stagingReady s).cs.surplus = keepStretch s.partTime (decide (s.cs.wantedTotal + 4 ≤ s.ca.coolCap)) s.cs.surplus ∧
      (stagingReady s).cs.idle = keepStretch s.partTime (s.cs.wantedTotal == 0) s.cs.idle ∧
      (stagingReady s).ca = s.ca ∧ (stagingReady s).cs.wantedTotal = s.cs.wantedTotal := by
  have hrel : ∀ c t, (releaseTripped c t).ca = t.ca ∧ (releaseTripped c t).partTime = t.partTime ∧
      ∃ x, (releaseTripped c t).cs = { t.cs with comps := x } := fun c t => by
    unfold releaseTripped
    split
    · exact ⟨rfl, rfl, _, rfl⟩
    · exact ⟨rfl, rfl, _, rfl⟩
  obtain ⟨hca, hp, x, hx⟩ := hrel .a (recordsAged s)
  obtain ⟨hca', hp', y, hy⟩ := hrel .b (releaseTripped .a (recordsAged s))
  rw [stagingReady, h.stagingUpdate]
  generalize releaseTripped .b (releaseTripped .a (recordsAged s)) = u at hca' hp' hy
  rw [hx] at hy
  have ha : u.ca = s.ca := hca'.trans hca
  have ht : u.partTime = s.partTime := hp'.trans hp
  unfold stagingStretches
  dsimp only
  rw [State.setCs_cs, State.setCs_ca, hy, ha, ht]
  exact ⟨rfl, rfl, rfl, rfl, rfl⟩

end Sys2Proof.Machine

namespace Sys2Proof.Machine

/-! ## Which compressors a staging check stops (R101, R107) -/

theorem stopDisabled_comp (c d : Comp) (s : State) :
    (stopDisabled c s).comp d =
      if d = c ∧ (s.comp d).enable = false ∧ mayStop s.partTime (s.comp d) = true then unloadRec s.partTime (s.comp d) else s.comp d := by
  unfold stopDisabled
  split
  next h =>
    obtain ⟨hen, hm⟩ := Bool.and_eq_true_iff.1 h
    rw [Bool.not_eq_true'] at hen
    rw [unloadComp_comp]
    by_cases hd : d = c
    · subst hd
      rw [if_pos rfl, if_pos ⟨rfl, hen, hm⟩]
    · rw [if_neg hd, if_neg fun k => hd k.1]
  next h =>
    rw [if_neg]
    rintro ⟨rfl, hen, hm⟩
    exact h (by rw [hen, hm]; rfl)

/-- The stops of disabled compressors, both together. -/
def disabledStopped (s : State) : State := stopDisabled .b (stopDisabled .a s)

theorem disabledStopped_stagingStopped (s : State) : StagingStopped s (disabledStopped s) :=
  (stopDisabled_stagingStopped .a s).trans (stopDisabled_stagingStopped .b _)

theorem disabledStopped_surplus (s : State) : (disabledStopped s).cs.surplus = s.cs.surplus := by
  have hone : ∀ c t, (stopDisabled c t).cs.surplus = t.cs.surplus := fun c t => by
    unfold stopDisabled
    split
    · exact (reportCool_stretches _).2.1
    · rfl
  exact (hone .b _).trans (hone .a s)

theorem disabledStopped_comp (s : State) (c : Comp) :
    (disabledStopped s).comp c =
      if (s.comp c).enable = false ∧ mayStop s.partTime (s.comp c) = true then unloadRec s.partTime (s.comp c) else s.comp c := by
  have ht := (stopDisabled_plantOnly .a s).partTime
  unfold disabledStopped
  rw [stopDisabled_comp, ht]
  cases c with
  | a => simp only [stopDisabled_comp, reduceCtorEq, true_and, false_and, if_false]
  | b => simp only [stopDisabled_comp, reduceCtorEq, true_and, false_and, if_false]

theorem disabledStopped_enabled {s : State} {c : Comp} (h : (s.comp c).enable = true) : (disabledStopped s).comp c = s.comp c := by
  rw [disabledStopped_comp, if_neg fun k => absurd (h.symm.trans k.1) (by decide)]

theorem stagingStops_eq (s : State) : stagingStops s = stopForIdle (stopForSurplus (disabledStopped s)) := rfl

/-- The stops of a check, from its updated records on. -/
theorem stagingStopped_stops (s : State) : StagingStopped (stagingReady s) (stagingStopped s) := by
  rw [stagingStopped]
  exact stagingStops_stagingStopped _

theorem stagingStop_stops {c : Comp} {s : State} (h : mayStop s.partTime (s.comp c) = true) :
    (stagingStop c s).comp c = unloadRec s.partTime (s.comp c) ∧ (stagingStop c s).cs.surplus = none := by
  unfold stagingStop
  rw [if_pos h]
  exact ⟨(unloadComp_comp c c s).trans (if_pos rfl), rfl⟩

/-- A stop that a later rule owes a compressor comes about, whether an earlier one has already brought it or not. -/
theorem StagingStopped.then_stops {s t u : State} (h : StagingStopped s t) (k : StagingStopped t u) {c : Comp}
    (hm : mayStop s.partTime (s.comp c) = true)
    (hstop : mayStop t.partTime (t.comp c) = true → u.comp c = unloadRec t.partTime (t.comp c)) :
    u.comp c = unloadRec s.partTime (s.comp c) := by
  rcases h.comp c with he | ⟨-, he⟩
  · rw [he, h.partTime] at hstop
    exact hstop hm
  · exact k.stopped he h.partTime

theorem stopForIdle_stops {s : State} (h : lasted s.partTime s.cs.idle 120 = true) {c : Comp}
    (hm : mayStop s.partTime (s.comp c) = true) : (stopForIdle s).comp c = unloadRec s.partTime (s.comp c) := by
  have ha := stagingStop_stagingStopped .a s
  have hb := stagingStop_stagingStopped .b (stagingStop .a s)
  unfold stopForIdle
  rw [if_pos h]
  cases c with
  | a => exact hb.stopped (stagingStop_stops hm).1 ha.partTime
  | b => exact ha.then_stops hb hm fun hb => (stagingStop_stops hb).1

theorem stopForSurplus_stops {s : State} (h : lasted s.partTime s.cs.surplus 300 = true) {c : Comp} (hc : surplusTarget s = some c)
    (hm : mayStop s.partTime (s.comp c) = true) :
    (stopForSurplus s).comp c = unloadRec s.partTime (s.comp c) ∧ (stopForSurplus s).cs.surplus = none := by
  unfold stopForSurplus
  rw [if_pos h, hc]
  exact stagingStop_stops hm

theorem stopForSurplus_notDue {s : State} (h : lasted s.partTime s.cs.surplus 300 = false) : stopForSurplus s = s := by
  unfold stopForSurplus
  rw [h, if_neg Bool.false_ne_true]

theorem stopForIdle_notDue {s : State} (h : lasted s.partTime s.cs.idle 120 = false) : stopForIdle s = s := by
  unfold stopForIdle
  rw [h, if_neg Bool.false_ne_true]

/-- A disabled compressor past its minimum on-time is stopped (R107). -/
theorem stagingStops_disabled {s : State} {c : Comp} (he : (s.comp c).enable = false) (hm : mayStop s.partTime (s.comp c) = true) :
    (stagingStops s).comp c = unloadRec s.partTime (s.comp c) := by
  have h1 := disabledStopped_stagingStopped s
  rw [stagingStops_eq]
  refine ((stopForSurplus_stagingStopped _).trans (stopForIdle_stagingStopped _)).stopped ?_ h1.partTime
  rw [disabledStopped_comp, if_pos ⟨he, hm⟩]

/-- Idleness stops every compressor past its minimum on-time (R101). -/
theorem stagingStops_idle {s : State} (h : lasted s.partTime s.cs.idle 120 = true) {c : Comp} (hm : mayStop s.partTime (s.comp c) = true) :
    (stagingStops s).comp c = unloadRec s.partTime (s.comp c) := by
  have h1 := (disabledStopped_stagingStopped s).trans (stopForSurplus_stagingStopped _)
  rw [stagingStops_eq]
  refine h1.then_stops (stopForIdle_stagingStopped _) hm (stopForIdle_stops ?_)
  rw [h1.partTime, h1.idle]
  exact h

/-- The surplus rule's compressor: B where it is in Running, otherwise A where that is, enabled (R101, R107). -/
def SurplusStops (s : State) (c : Comp) : Prop :=
  (s.comp c).state = .running ∧ (s.comp c).enable = true ∧ (c = .a → (s.comp .b).state ≠ .running)

theorem SurplusStops.target {s : State} {c : Comp} (h : SurplusStops s c) : surplusTarget (disabledStopped s) = some c := by
  obtain ⟨hrun, hen, hb⟩ := h
  have hc : ((disabledStopped s).comp c).state = .running := by rw [disabledStopped_enabled hen, hrun]
  unfold surplusTarget
  cases c with
  | a =>
    have hidle : ((disabledStopped s).comp .b).state ≠ .running := by
      rcases (disabledStopped_stagingStopped s).comp .b with he | ⟨hm, -⟩
      · rw [he]
        exact hb rfl
      · exact absurd ((mayStop_iff _ _).1 hm).1 (hb rfl)
    rw [if_neg hidle, if_pos hc]
  | b => rw [if_pos hc]

/-- 300 s of surplus stop that compressor, once its minimum on-time has elapsed (R101). -/
theorem SurplusStops.stagingStops {s : State} {c : Comp} (h : SurplusStops s c) (hl : lasted s.partTime s.cs.surplus 300 = true)
    (hm : mayStop s.partTime (s.comp c) = true) :
    (stagingStops s).comp c = unloadRec s.partTime (s.comp c) ∧ (stagingStops s).cs.surplus = none := by
  have h1 := disabledStopped_stagingStopped s
  have hcomp : (disabledStopped s).comp c = s.comp c := disabledStopped_enabled h.2.1
  obtain ⟨hstop, hnone⟩ := stopForSurplus_stops (s := disabledStopped s) (by rw [h1.partTime, disabledStopped_surplus]; exact hl) h.target
    (by rw [h1.partTime, hcomp]; exact hm)
  have h3 := stopForIdle_stagingStopped (stopForSurplus (disabledStopped s))
  rw [h1.partTime, hcomp] at hstop
  rw [stagingStops_eq]
  refine ⟨h3.stopped hstop ((stopForSurplus_plantOnly _).partTime.trans h1.partTime), ?_⟩
  rcases h3.surplus with he | he
  · rw [he, hnone]
  · exact he

/-- Where neither stretch is due, only disabled compressors are stopped. -/
theorem stagingStops_noneDue {s : State} (hs : lasted s.partTime s.cs.surplus 300 = false) (hi : lasted s.partTime s.cs.idle 120 = false) :
    stagingStops s = disabledStopped s := by
  have h1 := disabledStopped_stagingStopped s
  rw [stagingStops_eq, stopForSurplus_notDue (by rw [h1.partTime, disabledStopped_surplus]; exact hs),
    stopForIdle_notDue (by rw [h1.partTime, h1.idle]; exact hi)]

/-- Where the surplus rule's compressor is in its minimum on-time, nothing is stopped with both enabled and no idleness due (R101). -/
theorem SurplusStops.waits {s : State} {c : Comp} (h : SurplusStops s c) (hi : lasted s.partTime s.cs.idle 120 = false)
    (hm : mayStop s.partTime (s.comp c) = false) (hen : ∀ d, (s.comp d).enable = true) : Machine.stagingStops s = s := by
  have hone : ∀ d t, (t.comp d).enable = true → stopDisabled d t = t := fun d t ht => by
    unfold stopDisabled
    rw [ht]
    rfl
  have hdis : disabledStopped s = s := by
    unfold disabledStopped
    rw [hone .a s (hen .a), hone .b s (hen .b)]
  have htarget := h.target
  rw [hdis] at htarget
  have hsurplus : stopForSurplus s = s := by
    unfold stopForSurplus stagingStop
    rw [htarget]
    dsimp only
    rw [hm, if_neg Bool.false_ne_true, ite_self]
  rw [stagingStops_eq, hdis, hsurplus, stopForIdle_notDue hi]

/-! ## The stretches after the stops -/

/-- The stretches of the Cooling Sequencer and the part time of its last check are as they were. -/
structure StretchesSame (s t : State) : Prop where
  checkedAt : t.cs.checkedAt = s.cs.checkedAt
  excess : t.cs.excess = s.cs.excess
  surplus : t.cs.surplus = s.cs.surplus
  idle : t.cs.idle = s.cs.idle

theorem StretchesSame.refl (s : State) : StretchesSame s s := ⟨rfl, rfl, rfl, rfl⟩

theorem StretchesSame.trans {s t u : State} (h : StretchesSame s t) (k : StretchesSame t u) : StretchesSame s u :=
  ⟨k.1.trans h.1, k.2.trans h.2, k.3.trans h.3, k.4.trans h.4⟩

theorem StretchesSame.ite {s t u : State} {c : Prop} [Decidable c] (h : StretchesSame s t) (k : StretchesSame s u) :
    StretchesSame s (if c then t else u) := by
  split <;> assumption

theorem StretchesSame.of_cs {s t : State} (h : t.cs = s.cs) : StretchesSame s t := by
  refine ⟨?_, ?_, ?_, ?_⟩ <;> rw [h]

theorem StretchesSame.foldl {α : Type} {f : State → α → State} (h : ∀ s x, StretchesSame s (f s x)) (l : List α) (s : State) :
    StretchesSame s (l.foldl f s) := by
  induction l generalizing s with
  | nil => exact .refl s
  | cons x l ih => exact (h s x).trans (ih _)

theorem setComp_stretches (s : State) (c : Comp) (r : CompRec) : StretchesSame s (s.setComp c r) := ⟨rfl, rfl, rfl, rfl⟩

theorem tryStarts_stretches (s : State) : StretchesSame s (tryStarts s) := by
  have hask : ∀ c t, StretchesSame t (askStart c t) := fun c t => by
    rw [askStart_eq]
    exact setComp_stretches t c _
  have hrefuse : ∀ c k t, StretchesSame t (refuseStart c k t) := fun c k t => by
    rw [refuseStart_eq]
    exact .ite ⟨rfl, rfl, rfl, rfl⟩ (setComp_stretches t c _)
  unfold tryStarts
  split
  · exact hask .a s
  · dsimp only
    split
    · exact (hrefuse .a _ s).trans (hask .b _)
    · exact (hrefuse .a _ s).trans (hrefuse .b _ _)

theorem reportPool_stretches (k : TokenKind) (n : Nat) (s : State) : StretchesSame s (reportPool k n s) := by
  have hev : StretchesSame s (arbEvent (reportCapacity s.partTime k n) s) := by
    have h := (arbEvent_done (reportCapacity s.partTime k n) s).cs
    refine ⟨?_, ?_, ?_, ?_⟩ <;> rw [h]
  exact .ite (.refl s) hev

theorem shedTest_stretches (s : State) : StretchesSame s (shedTest s) := by
  have hitem : ∀ i t, StretchesSame t (shedItem i t) := fun i t => by
    rw [shedItem_eq]
    refine StretchesSame.trans (t := shedAction i t) ?_ (.of_cs rfl)
    cases i with
    | comp c => exact setComp_stretches t c _
    | _ => exact .of_cs rfl
  have hloop : ∀ n t, StretchesSame t (shedLoop n t).1 := fun n => by
    induction n with
    | zero => exact fun t => .refl t
    | succ n ih =>
      intro t
      unfold shedLoop
      split
      · exact .refl t
      split
      · exact .refl t
      · exact (hitem _ t).trans (ih _)
  exact (hloop 10 s).trans (.foldl (f := fun s (c : TokenKind × Nat) => reportPool c.1 c.2 s) (fun s c => reportPool_stretches c.1 c.2 s) _ _)

/-- A wind-down that is not over at the end of an event leaves the Cooling Sequencer. -/
theorem windDownReports_cs {s : State} (h : (windDownReports s).psc.power = s.psc.power) : (windDownReports s).cs = s.cs := by
  unfold windDownReports at h ⊢
  by_cases hw : s.psc.power = .windingDown
  · rw [if_pos hw, hw] at h
    rw [if_pos hw]
    dsimp only at h ⊢
    split at h
    · split at h
      · rw [(shedTest_plantOnly _).psc, leaveForRun_power] at h
        cases h
      · split at h
        · rw [(shedTest_plantOnly _).psc, leaveForLayover_power] at h
          cases h
        · cases h
    next hn =>
      rw [if_neg hn]
      rfl
  · rw [if_neg hw]

/-- Where the power state stays, the end of an event sheds at most. -/
theorem endEvent_cs {s : State} (h : (endEvent s).psc.power = s.psc.power) : (endEvent s).cs = (shedTest s).cs :=
  windDownReports_cs (h.trans (congrArg PowerCtl.power (shedTest_plantOnly s).psc).symm)

end Sys2Proof.Machine

namespace Sys2Proof.Machine

/-! ## A record after a staging check -/

/-- A record with the marks that the tests of a check leave taken off: limit episode, deferred flag and reason (R99, R100). -/
def marksOff (r : CompRec) : CompRec := { r with episodeOpen := false, deferred := false, reason := none }

section
variable {r x : CompRec} (h : marksOff r = marksOff x)
include h

theorem state_of_marks : r.state = x.state := (congrArg CompRec.state h :)

theorem stateSince_of_marks : r.stateSince = x.stateSince := (congrArg CompRec.stateSince h :)

theorem onSince_of_marks : r.onSince = x.onSince := (congrArg CompRec.onSince h :)

theorem stoppedSince_of_marks : r.stoppedSince = x.stoppedSince := (congrArg CompRec.stoppedSince h :)

theorem enable_of_marks : r.enable = x.enable := (congrArg CompRec.enable h :)

theorem startLog_of_marks : r.startLog = x.startLog := (congrArg CompRec.startLog h :)

theorem tripLog_of_marks : r.tripLog = x.tripLog := (congrArg CompRec.tripLog h :)

end

theorem marksOff_unloadRec (now : Nat) (r : CompRec) : marksOff (unloadRec now r) = unloadRec now (marksOff r) := by
  obtain ⟨st, _⟩ := r
  cases st <;> rfl

/-- What becomes of a record `x` in what a check does after bringing the records up to date: it is kept, stopped, or started from Off;
only its marks change beside. -/
inductive RecordAfter (now : Nat) (x r : CompRec) : Prop
  | kept (h : marksOff r = marksOff x)
  | stopped (h : marksOff r = marksOff (unloadRec now x))
  | started (h : marksOff r = marksOff (startRec now x)) (hoff : x.state = .off)

theorem RecordAfter.of_marks {now : Nat} {x y r : CompRec} (h : RecordAfter now x r) (hx : marksOff x = marksOff y) : RecordAfter now y r := by
  cases h with
  | kept h => exact .kept (h.trans hx)
  | stopped h => exact .stopped (h.trans (by rw [marksOff_unloadRec, hx, ← marksOff_unloadRec]))
  | started h hoff =>
    have hstart : ∀ z : CompRec, marksOff (startRec now z) = startRec now (marksOff z) := fun _ => rfl
    have hstate : x.state = y.state := state_of_marks hx
    exact .started (h.trans (by rw [hstart, hx, ← hstart])) (hstate ▸ hoff)

/-- A compressor stopped while it ran stays stopped. -/
theorem RecordAfter.after_stop {now : Nat} {x r : CompRec} (h : RecordAfter now (unloadRec now x) r) (hx : x.state = .running) :
    marksOff r = marksOff (unloadRec now x) := by
  cases h with
  | kept h => exact h
  | stopped h => rwa [unloadRec_unloadRec] at h
  | started h hoff =>
    rw [unloadRec_running now hx] at hoff
    cases hoff

theorem RecordAfter.enable {now : Nat} {x r : CompRec} (h : RecordAfter now x r) : r.enable = x.enable := by
  cases h with
  | kept h => exact enable_of_marks h
  | stopped h => exact (enable_of_marks h).trans (by rw [unloadRec_eq]; split <;> rfl)
  | started h => exact (enable_of_marks h).trans rfl

theorem RecordAfter.tripLog {now : Nat} {x r : CompRec} (h : RecordAfter now x r) : r.tripLog = x.tripLog := by
  cases h with
  | kept h => exact tripLog_of_marks h
  | stopped h => exact (tripLog_of_marks h).trans (by rw [unloadRec_eq]; split <;> rfl)
  | started h => exact (tripLog_of_marks h).trans rfl

theorem RecordAfter.stoppedSince {now : Nat} {x r : CompRec} (h : RecordAfter now x r) : r.stoppedSince = x.stoppedSince := by
  cases h with
  | kept h => exact stoppedSince_of_marks h
  | stopped h => exact (stoppedSince_of_marks h).trans (by rw [unloadRec_eq]; split <;> rfl)
  | started h => exact (stoppedSince_of_marks h).trans rfl

theorem RecordAfter.state {now : Nat} {x r : CompRec} (h : RecordAfter now x r) :
    r.state = x.state ∨ ((x.state = .starting ∨ x.state = .running) ∧ r.state = .unloading) ∨ (x.state = .off ∧ r.state = .starting) := by
  cases h with
  | kept h => exact .inl (state_of_marks h)
  | stopped h =>
    have hr : r.state = (unloadRec now x).state := state_of_marks h
    rw [unloadRec_eq] at hr
    split at hr
    next hx => exact .inr (.inl ⟨hx, hr⟩)
    next => exact .inl hr
  | started h hoff => exact .inr (.inr ⟨hoff, state_of_marks h⟩)

/-- A start made now is added to the log (R99). -/
theorem RecordAfter.startLog {now : Nat} {x r : CompRec} (h : RecordAfter now x r) :
    r.startLog = x.startLog ++ if x.state ≠ .starting ∧ r.state = .starting then [now] else [] := by
  cases h with
  | kept h =>
    have hstate : r.state = x.state := state_of_marks h
    rw [if_neg fun k => k.1 (hstate ▸ k.2), List.append_nil]
    exact startLog_of_marks h
  | stopped h =>
    have hstate : r.state = (unloadRec now x).state := state_of_marks h
    rw [if_neg fun k => (unloadRec_stops now x).1 (hstate ▸ k.2), List.append_nil]
    exact (startLog_of_marks h).trans (by rw [unloadRec_eq]; split <;> rfl)
  | started h hoff =>
    have hstate : r.state = .starting := state_of_marks h
    rw [if_pos ⟨by rw [hoff]; decide, hstate⟩]
    exact startLog_of_marks h

/-- A compressor in Tripped or Lockout at a check's starts is there at its end, and no other is. -/
theorem RecordAfter.tripped_iff {now : Nat} {x r : CompRec} (h : RecordAfter now x r) :
    (r.state = .tripped ↔ x.state = .tripped) ∧ (r.state = .lockout ↔ x.state = .lockout) := by
  rcases h.state with hs | ⟨hx | hx, hs⟩ | ⟨hx, hs⟩ <;> rw [hs]
  · exact ⟨.rfl, .rfl⟩
  all_goals
    rw [hx]
    decide

/-! ### From the stops to the end of the check -/

theorem tryStarts_marks (v : State) (c : Comp) : marksOff ((tryStarts v).comp c) = marksOff (v.comp c) ∨ StartTaken v c := by
  have h := tryStarts_tried v
  by_cases hp : startPick v = some c
  · have hr := h.picked c hp
    unfold askedRec at hr
    split at hr
    · refine .inr (tryStarts_startTaken ?_ (by rw [hr]; rfl))
      rw [state_off_of_firstFailing (firstFailing_of_startPick hp)]
      decide
    · rw [hr]
      exact .inl rfl
  · obtain ⟨b, k, he⟩ := h.unpicked c hp
    rw [he]
    exact .inl rfl

theorem CompsStopped.recordAfter {s t : State} (h : CompsStopped s t) {c : Comp} {x : CompRec} (hx : marksOff (s.comp c) = marksOff x) :
    RecordAfter s.partTime x (t.comp c) := by
  rcases h.comp c with he | he <;> rw [he]
  · exact .kept hx
  · exact .stopped (by rw [marksOff_unloadRec, hx, ← marksOff_unloadRec])

theorem recordAfter_stops (s : State) (c : Comp) :
    RecordAfter s.partTime ((stagingStopped s).comp c) ((endEvent (stagingWork s)).comp c) := by
  have ht := (stagingStopped_plantOnly s).partTime
  have hw := (stagingWork_plantOnly s).partTime
  have hwork := stagingWork_cases s
  generalize stagingStopped s = v at ht hwork ⊢
  generalize stagingWork s = w at hw hwork ⊢
  have hend : marksOff (w.comp c) = marksOff (v.comp c) → RecordAfter s.partTime (v.comp c) ((endEvent w).comp c) := fun hm => by
    rw [← hw]
    exact (endEvent_stopped w).recordAfter hm
  rcases hwork with rfl | rfl
  · rcases tryStarts_marks v c with hm | hm
    · exact hend hm
    · rw [hm.ended, hm.comp, ht]
      exact .started rfl (state_off_of_firstFailing hm.startable)
  · exact hend rfl

theorem recordAfter_updated (s : State) (c : Comp) : RecordAfter s.partTime (updatedRec s c) ((endEvent (stagingWork s)).comp c) := by
  have h := recordAfter_stops s c
  obtain ⟨d, hd⟩ := stagingReady_comp s c
  have hmarks : marksOff ((stagingReady s).comp c) = marksOff (updatedRec s c) := by rw [hd]; rfl
  refine RecordAfter.of_marks ?_ hmarks
  rcases (stagingStopped_stops s).comp c with he | ⟨hm, he⟩
  · rwa [he] at h
  · rw [he, (stagingReady_plantOnly s).partTime] at h
    exact .stopped (h.after_stop ((mayStop_iff _ _).1 hm).1)

/-! ### The updated record (R99, R104 to R106) -/

theorem updatedRec_trip {s : State} {c : Comp} (h : chargeTrip s c = true) :
    updatedRec s c = tripRec s.partTime (ageRec s.partTime (s.comp c)) := if_pos h

theorem updatedRec_over {s : State} {c : Comp} (h : tripOver s c = true) :
    updatedRec s c = { ageRec s.partTime (s.comp c) with state := .off, stateSince := s.partTime } := by
  have hno : chargeTrip s c = false := by
    have htripped := ((tripOver_iff s c).1 h).1
    simp [chargeTrip, htripped]
  rw [updatedRec, if_neg (by simp [hno]), if_pos h]

theorem updatedRec_age {s : State} {c : Comp} (ht : chargeTrip s c = false) (ho : tripOver s c = false) :
    updatedRec s c = ageRec s.partTime (s.comp c) := by
  rw [updatedRec, if_neg (by simp [ht]), if_neg (by simp [ho])]

/-- The three ways in which a record is brought up to a check. -/
theorem updatedRec_cases (s : State) (c : Comp) :
    (chargeTrip s c = true ∧ (s.comp c).state = .running ∧ updatedRec s c = tripRec s.partTime (ageRec s.partTime (s.comp c))) ∨
      (tripOver s c = true ∧ (s.comp c).state = .tripped ∧
        updatedRec s c = { ageRec s.partTime (s.comp c) with state := .off, stateSince := s.partTime }) ∨
      (tripOver s c = false ∧ updatedRec s c = ageRec s.partTime (s.comp c)) := by
  cases ht : chargeTrip s c with
  | true =>
    refine .inl ⟨rfl, ?_, updatedRec_trip ht⟩
    exact beq_iff_eq.1 (Bool.and_eq_true_iff.1 ht).1
  | false =>
    cases ho : tripOver s c with
    | true => exact .inr (.inl ⟨rfl, ((tripOver_iff s c).1 ho).1, updatedRec_over ho⟩)
    | false => exact .inr (.inr ⟨rfl, updatedRec_age ht ho⟩)

theorem ageLog_eq (now : Nat) (l : List Nat) : ageLog now l = l.filter fun x => decide (now < x + 3600) := by
  unfold ageLog passed
  simp only [← decide_not, Nat.not_le]

theorem ageLog_ageLog (now : Nat) (l : List Nat) : ageLog now (ageLog now l) = ageLog now l := by
  unfold ageLog
  rw [List.filter_filter]
  simp only [Bool.and_self]

theorem tripRec_state (now : Nat) (r : CompRec) : (tripRec now r).state = .tripped ∨ (tripRec now r).state = .lockout := by
  unfold tripRec
  dsimp only
  split
  · exact .inr rfl
  · exact .inl rfl

theorem updatedRec_enable (s : State) (c : Comp) : (updatedRec s c).enable = (s.comp c).enable := by
  rcases updatedRec_cases s c with ⟨-, -, he⟩ | ⟨-, -, he⟩ | ⟨-, he⟩ <;> rw [he] <;> rfl

theorem updatedRec_startLog (s : State) (c : Comp) : (updatedRec s c).startLog = ageLog s.partTime (s.comp c).startLog := by
  rcases updatedRec_cases s c with ⟨-, -, he⟩ | ⟨-, -, he⟩ | ⟨-, he⟩ <;> rw [he] <;> rfl

theorem updatedRec_starting (s : State) (c : Comp) : (updatedRec s c).state = .starting ↔ (s.comp c).state = .starting := by
  rcases updatedRec_cases s c with ⟨-, hs, he⟩ | ⟨-, hs, he⟩ | ⟨-, he⟩ <;> rw [he]
  · rw [hs]
    exact iff_of_false (tripRec_stops _ _).1 (by decide)
  · rw [hs]
    exact iff_of_false nofun (by decide)
  · exact .rfl

/-- A trip made now is added to the log (R105). -/
theorem updatedRec_tripLog (s : State) (c : Comp) :
    (updatedRec s c).tripLog = ageLog s.partTime (s.comp c).tripLog ++
      if (s.comp c).state = .running ∧ ((updatedRec s c).state = .tripped ∨ (updatedRec s c).state = .lockout) then [s.partTime] else [] := by
  rcases updatedRec_cases s c with ⟨-, hs, he⟩ | ⟨-, hs, he⟩ | ⟨-, he⟩ <;> rw [he]
  · rw [if_pos ⟨hs, tripRec_state _ _⟩]
    exact congrArg (· ++ [s.partTime]) (ageLog_ageLog _ _)
  · rw [if_neg fun k => absurd (hs.symm.trans k.1) (by decide), List.append_nil]
    rfl
  · have hstate : (ageRec s.partTime (s.comp c)).state = (s.comp c).state := rfl
    rw [if_neg, List.append_nil]
    · rfl
    · rw [hstate]
      rintro ⟨hr, hk⟩
      rw [hr] at hk
      revert hk
      decide

theorem updatedRec_lockout {s : State} {c : Comp} (h : (s.comp c).state = .lockout) : (updatedRec s c).state = .lockout := by
  rcases updatedRec_cases s c with ⟨-, hs, -⟩ | ⟨-, hs, -⟩ | ⟨-, he⟩
  · cases hs.symm.trans h
  · cases hs.symm.trans h
  · rw [he]
    exact h

theorem updatedRec_waits {s : State} {c : Comp} (h : (s.comp c).state = .tripped) (ho : tripOver s c = false) :
    (updatedRec s c).state = .tripped := by
  rcases updatedRec_cases s c with ⟨-, hs, -⟩ | ⟨hover, -, -⟩ | ⟨-, he⟩
  · cases hs.symm.trans h
  · cases hover.symm.trans ho
  · rw [he]
    exact h

/-- A running compressor with no trip due is only aged. -/
theorem updatedRec_running {s : State} {c : Comp} (h : (s.comp c).state = .running) (ht : chargeTrip s c = false) :
    updatedRec s c = ageRec s.partTime (s.comp c) := by
  have ho : tripOver s c = false := by
    unfold tripOver
    rw [h]
    rfl
  exact updatedRec_age ht ho

theorem updatedRec_runs {s : State} {c : Comp} (h : (updatedRec s c).state = .running) : (s.comp c).state = .running := by
  rcases updatedRec_cases s c with ⟨-, hs, -⟩ | ⟨-, -, he⟩ | ⟨-, he⟩
  · exact hs
  · rw [he] at h
    cases h
  · rw [he] at h
    exact h

/-! ### COMP_TRIP of a charge trip (R105) -/

theorem tripComp_settingsKept (c : Comp) (s : State) :
    SettingsKept (raise .compTrip (s.setComp c (tripRec s.partTime (s.comp c)))) (tripComp c s) := by
  have hrestore : ∀ n t, SettingsKept t (restoreIfFell n t) := fun n t => .ite (restoreAttempt_settingsKept t) (.refl t)
  exact (SettingsKept.ite (raise_settingsKept _ .compLock) (.refl _)).trans ((hrestore _ _).trans (reportPool_settingsKept _ _ _))

theorem tripIfDue_settingsKept (c : Comp) (s : State) : SettingsKept s (tripIfDue c s) := by
  have hset : SettingsKept s (s.setComp c (tripRec s.partTime (s.comp c))) := setComp_settingsKept rfl
  exact .ite ((hset.trans (raise_settingsKept _ .compTrip)).trans (tripComp_settingsKept c s)) (.refl s)

theorem tripIfDue_flag {c : Comp} {s : State} (h : chargeTrip s c = true) : hasFlag (tripIfDue c s).hlu.latched .compTrip = true := by
  unfold tripIfDue
  rw [if_pos h]
  exact (tripComp_settingsKept c s).flags _ (hasFlag_setFlag_self _ _)

theorem unloadComp_settingsKept (c : Comp) (s : State) : SettingsKept s (unloadComp c s) := by
  have hset : SettingsKept s (s.setComp c (unloadRec s.partTime (s.comp c))) :=
    setComp_settingsKept (by rw [unloadRec_eq]; split <;> rfl)
  exact hset.trans (reportPool_settingsKept _ _ _)

theorem stagingStops_settingsKept (s : State) : SettingsKept s (stagingStops s) := by
  have hdisabled : ∀ c t, SettingsKept t (stopDisabled c t) := fun c t => .ite (unloadComp_settingsKept c t) (.refl t)
  have hstop : ∀ c t, SettingsKept t (stagingStop c t) := fun c t =>
    .ite ((unloadComp_settingsKept c t).trans (setCs_settingsKept fun _ => rfl)) (.refl t)
  have hsurplus : ∀ t, SettingsKept t (stopForSurplus t) := fun t => by
    unfold stopForSurplus
    split
    · split
      · exact hstop _ t
      · exact .refl t
    · exact .refl t
  have hidle : ∀ t, SettingsKept t (stopForIdle t) := fun t => .ite ((hstop .a t).trans (hstop .b _)) (.refl t)
  exact ((hdisabled .a s).trans (hdisabled .b _)).trans ((hsurplus _).trans (hidle _))

/-- Flags raised by the trips of a check are latched at its end. -/
theorem endEvent_flags_of_trips {s : State} {f : Flag}
    (h : hasFlag (tripIfDue .b (tripIfDue .a (recordsAged s))).hlu.latched f = true) :
    hasFlag (endEvent (stagingWork s)).hlu.latched f = true := by
  have hrel : ∀ c t, SettingsKept t (releaseTripped c t) := fun c t => .ite (setComp_settingsKept rfl) (.refl t)
  have hstretch : ∀ t, SettingsKept t (stagingStretches t) := fun t => setCs_settingsKept fun c => by
    change ((stagingStretches t).comp c).enable = _
    rw [stagingStretches_comp]
  have hupdate : SettingsKept (tripIfDue .b (tripIfDue .a (recordsAged s))) (stagingUpdate s) :=
    stagingUpdate_eq s ▸ (hrel .a _).trans (hrel .b _)
  have hstopped : hasFlag (stagingStopped s).hlu.latched f = true := by
    rw [stagingStopped, stagingReady]
    exact (hupdate.trans ((hstretch _).trans (stagingStops_settingsKept _))).flags f h
  refine (endEvent_settingsKept _).flags f ?_
  rcases stagingWork_cases s with he | he <;> rw [he]
  · exact (tryStarts_tried _).flags f hstopped
  · exact hstopped

theorem endEvent_compTrip {s : State} {c : Comp} (h : chargeTrip s c = true) :
    hasFlag (endEvent (stagingWork s)).hlu.latched .compTrip = true := by
  have hage : ∀ d, chargeTrip (recordsAged s) d = chargeTrip s d := fun d =>
    chargeTrip_congr (by rw [recordsAged_comp]; rfl) (by rw [recordsAged_comp]; rfl) rfl
  refine endEvent_flags_of_trips ?_
  cases c with
  | a => exact (tripIfDue_settingsKept .b _).flags _ (tripIfDue_flag ((hage .a).trans h))
  | b =>
    refine tripIfDue_flag (Eq.trans (chargeTrip_congr ?_ ?_ (tripIfDue_plantOnly .a _).partTime) ((hage .b).trans h))
    · rw [tripIfDue_comp, if_neg (fun k => nomatch k.1)]
    · rw [tripIfDue_comp, if_neg (fun k => nomatch k.1)]

end Sys2Proof.Machine

namespace Sys2Proof.Machine

/-! ## What a staging check ends with -/

theorem tripIfDue_stretches (c : Comp) (s : State) : StretchesSame s (tripIfDue c s) := by
  have hrestore : ∀ n t, StretchesSame t (restoreIfFell n t) := fun n t => by
    obtain ⟨k, -, he⟩ := restoreIfFell_stack n t
    rw [he]
    exact .of_cs rfl
  have hraise : ∀ f t, StretchesSame t (raise f t) := fun f t => .of_cs rfl
  have hflags : ∀ t, StretchesSame t
      (if (tripRec s.partTime (s.comp c)).state = .lockout then raise .compLock (raise .compTrip t) else raise .compTrip t) := fun t =>
    .ite ((hraise _ t).trans (hraise _ _)) (hraise _ t)
  have htrip : StretchesSame s (tripComp c s) :=
    ((setComp_stretches s c _).trans (hflags _)).trans ((hrestore _ _).trans (reportPool_stretches _ _ _))
  exact .ite htrip (.refl s)

theorem recordsAged_checkedAt (s : State) : (recordsAged s).cs.checkedAt = some s.partTime := rfl

theorem stagingStretches_checkedAt (s : State) : (stagingStretches s).cs.checkedAt = s.cs.checkedAt := rfl

theorem stagingReady_checkedAt (s : State) : (stagingReady s).cs.checkedAt = some s.partTime := by
  have hrel : ∀ c t, StretchesSame t (releaseTripped c t) := fun c t => .ite (setComp_stretches t c _) (.refl t)
  have h : StretchesSame (recordsAged s) (stagingUpdate s) := by
    rw [stagingUpdate_eq]
    exact ((tripIfDue_stretches .a _).trans (tripIfDue_stretches .b _)).trans ((hrel .a _).trans (hrel .b _))
  rw [stagingReady, stagingStretches_checkedAt, h.checkedAt, recordsAged_checkedAt]

theorem stagingWork_stretches (s : State) : StretchesSame (stagingStopped s) (stagingWork s) := by
  rcases stagingWork_cases s with he | he <;> rw [he]
  · exact tryStarts_stretches _
  · exact .refl _

theorem stagingCheck_checkedAt (s : State) : (endEvent (stagingWork s)).cs.checkedAt = some s.partTime :=
  ((endEvent_stopped _).checkedAt.trans (stagingWork_stretches s).checkedAt).trans
    ((stagingStopped_stops s).checkedAt.trans (stagingReady_checkedAt s))

section
variable {s : State} (hp : (endEvent (stagingWork s)).psc.power = s.psc.power)
include hp

theorem stagingCheck_cs : (endEvent (stagingWork s)).cs = (shedTest (stagingWork s)).cs :=
  endEvent_cs (hp.trans (congrArg PowerCtl.power (stagingWork_plantOnly s).psc).symm)

theorem stagingCheck_stretches : StretchesSame (stagingStopped s) (endEvent (stagingWork s)) :=
  (stagingWork_stretches s).trans ((shedTest_stretches _).trans (.of_cs (stagingCheck_cs hp)))

end

/-! ### The logs, Lockout, Tripped and charge trips (R99, R104 to R107) -/

theorem stagingCheck_startLog (s : State) (c : Comp) :
    ((endEvent (stagingWork s)).comp c).startLog = (s.comp c).startLog.filter (fun x => decide (s.partTime < x + 3600)) ++
      if (s.comp c).state ≠ .starting ∧ ((endEvent (stagingWork s)).comp c).state = .starting then [s.partTime] else [] := by
  rw [(recordAfter_updated s c).startLog, updatedRec_startLog, ageLog_eq]
  simp only [ne_eq, updatedRec_starting]

theorem stagingCheck_tripLog (s : State) (c : Comp) :
    ((endEvent (stagingWork s)).comp c).tripLog = (s.comp c).tripLog.filter (fun x => decide (s.partTime < x + 3600)) ++
      if (s.comp c).state = .running ∧
          (((endEvent (stagingWork s)).comp c).state = .tripped ∨ ((endEvent (stagingWork s)).comp c).state = .lockout)
        then [s.partTime] else [] := by
  obtain ⟨ht, hl⟩ := (recordAfter_updated s c).tripped_iff
  rw [(recordAfter_updated s c).tripLog, updatedRec_tripLog, ageLog_eq]
  simp only [ht, hl]

/-- A compressor whose time in Tripped is over leaves it, and its stopped-since stays (R106). -/
theorem stagingCheck_released {s : State} {c : Comp} (h : tripOver s c = true) :
    ((endEvent (stagingWork s)).comp c).state ≠ .tripped ∧
      ((endEvent (stagingWork s)).comp c).stoppedSince = (s.comp c).stoppedSince := by
  have hx := updatedRec_over h
  constructor
  · intro ht
    have hx' := (recordAfter_updated s c).tripped_iff.1.1 ht
    rw [hx] at hx'
    cases hx'
  · rw [(recordAfter_updated s c).stoppedSince, hx]
    rfl

/-- A charge trip that is due is taken (R104, R105). -/
theorem stagingCheck_trip {s : State} {c : Comp} (h : chargeTrip s c = true) :
    (((endEvent (stagingWork s)).comp c).state = .tripped ∨ ((endEvent (stagingWork s)).comp c).state = .lockout) ∧
      ((endEvent (stagingWork s)).comp c).stoppedSince = s.partTime := by
  obtain ⟨ht, hl⟩ := (recordAfter_updated s c).tripped_iff
  rw [(recordAfter_updated s c).stoppedSince, ht, hl, updatedRec_trip h]
  exact ⟨tripRec_state _ _, rfl⟩

/-! ### Compressors in Running at a check (R101, R107) -/

theorem lasted_iff {now n : Nat} {st : Option Nat} : lasted now st n = true ↔ ∃ x, st = some x ∧ x + n ≤ now := by
  cases st <;> simp [lasted, passed]

theorem lasted_of {now n x : Nat} {st : Option Nat} (h : st = some x) (hx : x + n ≤ now) : lasted now st n = true := lasted_iff.2 ⟨x, h, hx⟩

theorem not_lasted {now n : Nat} {st : Option Nat} (h : ∀ x, st = some x → now < x + n) : lasted now st n = false := by
  rw [Bool.eq_false_iff]
  intro hl
  obtain ⟨x, hx, hdue⟩ := lasted_iff.1 hl
  have := h x hx
  omega

/-- A compressor in Running at a check, with no charge trip due. -/
structure RunsUntripped (s : State) (c : Comp) : Prop where
  running : (s.comp c).state = .running
  untripped : chargeTrip s c = false

theorem RunsUntripped.ready {s : State} {c : Comp} (h : RunsUntripped s c) :
    ∃ d, (stagingReady s).comp c = { ageRec s.partTime (s.comp c) with deferred := d } := by
  rw [← updatedRec_running h.running h.untripped]
  exact stagingReady_comp s c

theorem RunsUntripped.ready_fields {s : State} {c : Comp} (h : RunsUntripped s c) :
    ((stagingReady s).comp c).state = .running ∧ ((stagingReady s).comp c).enable = (s.comp c).enable ∧
      ((stagingReady s).comp c).onSince = (s.comp c).onSince := by
  obtain ⟨d, hd⟩ := h.ready
  rw [hd]
  exact ⟨h.running, rfl, rfl⟩

theorem RunsUntripped.mayStop {s : State} {c : Comp} (h : RunsUntripped s c) {y : Nat} (hy : (s.comp c).onSince = some y) :
    mayStop (stagingReady s).partTime ((stagingReady s).comp c) = decide (y + 180 ≤ s.partTime) := by
  obtain ⟨hrun, -, hon⟩ := h.ready_fields
  rw [(stagingReady_plantOnly s).partTime, Machine.mayStop, hrun, hon, hy]
  rfl

/-- What a stop at a check makes of a running compressor (R96, R101, R107). -/
theorem RunsUntripped.stopped {s : State} {c : Comp} (h : RunsUntripped s c)
    (hstop : (stagingStopped s).comp c = unloadRec (stagingReady s).partTime ((stagingReady s).comp c)) :
    ((endEvent (stagingWork s)).comp c).state = .unloading ∧ ((endEvent (stagingWork s)).comp c).stateSince = s.partTime ∧
      ((endEvent (stagingWork s)).comp c).onSince = (s.comp c).onSince := by
  obtain ⟨hrun, -, hon⟩ := h.ready_fields
  have hafter := recordAfter_stops s c
  rw [hstop, (stagingReady_plantOnly s).partTime] at hafter
  have hmarks := hafter.after_stop hrun
  rw [state_of_marks hmarks, stateSince_of_marks hmarks, onSince_of_marks hmarks, unloadRec_running _ hrun, hon]
  exact ⟨rfl, rfl, rfl⟩

/-- An admitted start stays within the bound (R80). -/
theorem tryStarts_settled {v : State} (h : settled v = true) : settled (tryStarts v) = true := by
  have ht := tryStarts_tried v
  rw [settled_iff] at h ⊢
  rw [ht.loadBound, ht.load]
  split
  next hadm =>
    have hle : allowanceInForce v.la ≤ loadBound v := Nat.le_max_left _ _
    have hfits : committedLoad v + 4200 ≤ allowanceInForce v.la := of_decide_eq_true hadm.2
    omega
  next => rwa [Nat.add_zero]

/-- With the loads lawful and no trip due, a check ends with nothing to shed (R84). -/
theorem stagingWork_settled {s : State} (ht : NoTripDue s) (h : loadLawful s) : settled (stagingWork s) = true := by
  have hv : settled (stagingStopped s) = true := (stagingStops_blowersBound (ht.blowersBound (.of_loadLawful h))).settled
  rcases stagingWork_cases s with he | he <;> rw [he]
  · exact tryStarts_settled hv
  · exact hv

theorem stagingCheck_comp {s : State} (hp : (endEvent (stagingWork s)).psc.power = s.psc.power) (ht : NoTripDue s) (h : loadLawful s)
    (c : Comp) : (endEvent (stagingWork s)).comp c = (stagingWork s).comp c := by
  unfold State.comp
  rw [stagingCheck_cs hp, shedTest_settled (stagingWork_settled ht h)]

/-- A running compressor that nothing stops runs on, the loads lawful. -/
theorem RunsUntripped.runsOn {s : State} {c : Comp} (h : RunsUntripped s c) (hp : (endEvent (stagingWork s)).psc.power = s.psc.power)
    (ht : NoTripDue s) (hl : loadLawful s) (hkept : (stagingStopped s).comp c = (stagingReady s).comp c) :
    ((endEvent (stagingWork s)).comp c).state = .running ∧ ((endEvent (stagingWork s)).comp c).onSince = (s.comp c).onSince := by
  obtain ⟨hrun, -, hon⟩ := h.ready_fields
  have hmarks : marksOff ((stagingWork s).comp c) = marksOff ((stagingStopped s).comp c) := by
    rcases stagingWork_cases s with he | he <;> rw [he]
    rcases tryStarts_marks (stagingStopped s) c with hm | hm
    · exact hm
    · have hoff := state_off_of_firstFailing hm.startable
      rw [hkept, hrun] at hoff
      cases hoff
  rw [stagingCheck_comp hp ht hl, state_of_marks hmarks, onSince_of_marks hmarks, hkept, hrun, hon]
  exact ⟨rfl, rfl⟩

/-! ### The stretches (R100, R101) -/

theorem keepStretch_decide (now : Nat) (p : Prop) [Decidable p] (st : Option Nat) :
    keepStretch now (decide p) st = if p then some (st.getD now) else none := by
  unfold keepStretch
  simp only [decide_eq_true_eq]

theorem NoTripDue.surplus {s : State} (h : NoTripDue s) :
    (stagingReady s).cs.surplus = if s.cs.wantedTotal + 4 ≤ s.ca.coolCap then some (s.cs.surplus.getD s.partTime) else none :=
  h.stretches.2.1.trans (keepStretch_decide _ _ _)

theorem NoTripDue.idle {s : State} (h : NoTripDue s) :
    (stagingReady s).cs.idle = if s.cs.wantedTotal = 0 then some (s.cs.idle.getD s.partTime) else none :=
  h.stretches.2.2.1.trans (keepStretch_decide _ (s.cs.wantedTotal = 0) _)

theorem NoTripDue.excess {s : State} (h : NoTripDue s) :
    (stagingReady s).cs.excess = if s.ca.coolCap < s.cs.wantedTotal then some (s.cs.excess.getD s.partTime) else none :=
  h.stretches.1.trans (keepStretch_decide _ _ _)

/-- The surplus rule's compressor at a check: B where it is in Running, otherwise A where that is. -/
theorem RunsUntripped.surplusStops {s : State} {c : Comp} (h : RunsUntripped s c) (he : (s.comp c).enable = true)
    (hb : c = .a → (s.comp .b).state ≠ .running) : SurplusStops (stagingReady s) c := by
  obtain ⟨hrun, hen, -⟩ := h.ready_fields
  refine ⟨hrun, hen.trans he, fun hc hr => hb hc ?_⟩
  obtain ⟨d, hd⟩ := stagingReady_comp s .b
  rw [hd] at hr
  exact updatedRec_runs hr

/-- 300 s of surplus stop that compressor and break the stretch (R101). -/
theorem RunsUntripped.surplusStop {s : State} {c : Comp} (h : RunsUntripped s c) (he : (s.comp c).enable = true)
    (hb : c = .a → (s.comp .b).state ≠ .running) (hp : (endEvent (stagingWork s)).psc.power = s.psc.power)
    (hl : lasted s.partTime (stagingReady s).cs.surplus 300 = true) {y : Nat} (hy : (s.comp c).onSince = some y)
    (hon : y + 180 ≤ s.partTime) :
    ((endEvent (stagingWork s)).comp c).state = .unloading ∧ ((endEvent (stagingWork s)).comp c).stateSince = s.partTime ∧
      (endEvent (stagingWork s)).cs.surplus = none := by
  obtain ⟨hstop, hnone⟩ := (h.surplusStops he hb).stagingStops (by rw [(stagingReady_plantOnly s).partTime]; exact hl)
    (by rw [h.mayStop hy]; exact decide_eq_true hon)
  rw [← stagingStopped] at hstop hnone
  obtain ⟨hstate, hsince, -⟩ := h.stopped hstop
  exact ⟨hstate, hsince, (stagingCheck_stretches hp).surplus.trans hnone⟩

theorem stagingStretches_totals (s : State) :
    (stagingStretches s).ca = s.ca ∧ (stagingStretches s).cs.wantedTotal = s.cs.wantedTotal := ⟨rfl, rfl⟩

/-- With B's stop waiting for its minimum on-time and A enabled, a check of lawful loads only brings the records up to date (R101). -/
theorem RunsUntripped.surplusWaits {s : State} (h : ∀ c, RunsUntripped s c) (he : ∀ c, (s.comp c).enable = true)
    (hp : (endEvent (stagingWork s)).psc.power = s.psc.power) (hlaw : loadLawful s) (hw : s.cs.wantedTotal + 4 ≤ s.ca.coolCap)
    (hidle : lasted s.partTime (stagingReady s).cs.idle 120 = false) {y : Nat} (hy : (s.comp .b).onSince = some y)
    (hon : s.partTime < y + 180) :
    (endEvent (stagingWork s)).cs.surplus = (stagingReady s).cs.surplus ∧
      ∀ c, (endEvent (stagingWork s)).comp c = { ageRec s.partTime (s.comp c) with deferred := false } := by
  have htrip : NoTripDue s := fun c => (h c).untripped
  obtain ⟨-, -, -, hca, hwanted⟩ := htrip.stretches
  have hstops : stagingStops (stagingReady s) = stagingReady s :=
    ((h .b).surplusStops (he .b) nofun).waits (by rw [(stagingReady_plantOnly s).partTime]; exact hidle)
      (by rw [(h .b).mayStop hy]; exact decide_eq_false (by omega)) fun d => (h d).ready_fields.2.1.trans (he d)
  have hdue : startsDue (stagingReady s) = false := by
    unfold startsDue
    rw [hca, hwanted, decide_eq_false (by omega), Bool.false_and]
  have hwork : stagingWork s = stagingReady s := by
    rw [stagingWork_eq, hdue, if_neg Bool.false_ne_true, hstops]
  refine ⟨(stagingCheck_stretches hp).surplus.trans (by rw [stagingStopped, hstops]), fun c => ?_⟩
  obtain ⟨hc, hw'⟩ := stagingStretches_totals (stagingUpdate s)
  rw [← stagingReady] at hc hw'
  rw [stagingCheck_comp hp htrip hlaw, hwork, stagingReady, stagingStretches_comp, stagingUpdate_comp,
    updatedRec_running (h c).running (h c).untripped, ← hc, ← hw', hca, hwanted, decide_eq_false (by omega), Bool.and_false]

end Sys2Proof.Machine

namespace Sys2Proof.Machine

/-! ## STAGING_CHECK -/

theorem execStagingCheck_due {s : State} (h : s.cs.checkedAt ≠ some s.partTime) :
    exec .stagingCheck s = .next (endEvent (stagingWork s)) :=
  congrArg Host.Outcome.next (if_pos (bne_iff_ne.2 h))

theorem execStagingCheck_done {s : State} (h : s.cs.checkedAt = some s.partTime) : exec .stagingCheck s = .next s := by
  refine congrArg Host.Outcome.next (if_neg ?_)
  rw [h]
  simp [notYet]

/-- A running compressor whose charge stretch has lasted 30 s has its trip due (R104). -/
theorem chargeTrip_of_stretch {s : State} {c : Comp} {x : Nat} (hx : (s.comp c).chargeStart = some x) (hr : (s.comp c).state = .running)
    (hdue : x + 30 ≤ s.partTime) : chargeTrip s c = true := by
  rw [chargeTrip, hr, lasted_of hx hdue]
  rfl

theorem runsUntripped_of_unbegun {s : State} {c : Comp} (hr : (s.comp c).state = .running) (h : (s.comp c).chargeStart = none) :
    RunsUntripped s c := by
  refine ⟨hr, ?_⟩
  rw [chargeTrip, h]
  exact Bool.and_false _

/-- A disabled compressor past its minimum on-time goes to Unloading (R107). -/
theorem RunsUntripped.disabled {s : State} {c : Comp} (h : RunsUntripped s c) (he : (s.comp c).enable = false) {x : Nat}
    (hx : (s.comp c).onSince = some x) (hon : x + 180 ≤ s.partTime) :
    ((endEvent (stagingWork s)).comp c).state = .unloading ∧ ((endEvent (stagingWork s)).comp c).stateSince = s.partTime ∧
      ((endEvent (stagingWork s)).comp c).onSince = some x := by
  rw [← hx]
  exact h.stopped (stagingStops_disabled (h.ready_fields.2.1.trans he) (by rw [h.mayStop hx]; exact decide_eq_true hon))

/-- Idleness of 120 s stops a running compressor past its minimum on-time (R101). -/
theorem RunsUntripped.idleStop {s : State} {c : Comp} (h : RunsUntripped s c)
    (hl : lasted s.partTime (stagingReady s).cs.idle 120 = true) {y : Nat} (hy : (s.comp c).onSince = some y) (hon : y + 180 ≤ s.partTime) :
    ((endEvent (stagingWork s)).comp c).state = .unloading ∧ ((endEvent (stagingWork s)).comp c).stateSince = s.partTime := by
  have hstop := stagingStops_idle (by rw [(stagingReady_plantOnly s).partTime]; exact hl)
    (by rw [h.mayStop hy]; exact decide_eq_true hon)
  obtain ⟨hstate, hsince, -⟩ := h.stopped hstop
  exact ⟨hstate, hsince⟩

/-- Before its minimum on-time has elapsed no rule of a check stops a running compressor (R93). -/
theorem RunsUntripped.waits {s : State} {c : Comp} (h : RunsUntripped s c) {y : Nat} (hy : (s.comp c).onSince = some y)
    (hon : s.partTime < y + 180) : (stagingStopped s).comp c = (stagingReady s).comp c := by
  rcases (stagingStopped_stops s).comp c with he | ⟨hm, -⟩
  · exact he
  · rw [h.mayStop hy] at hm
    have := of_decide_eq_true hm
    omega

/-- Where neither stretch is due, the stops leave the surplus stretch and every enabled compressor (R101, R107). -/
theorem stagingStopped_noneDue {s : State} (hs : lasted s.partTime (stagingReady s).cs.surplus 300 = false)
    (hi : lasted s.partTime (stagingReady s).cs.idle 120 = false) : stagingStopped s = disabledStopped (stagingReady s) := by
  have ht := (stagingReady_plantOnly s).partTime
  exact stagingStops_noneDue (ht.symm ▸ hs) (ht.symm ▸ hi)

/-- The time of a compressor in Tripped, as `tripOver` reads it. -/
theorem tripOver_eq {s : State} {c : Comp} (h : (s.comp c).state = .tripped) :
    tripOver s c = (decide ((s.comp c).stateSince + 600 ≤ s.partTime) &&
      match valueUsed (s.ssu.pressureHigh.get c) with
      | some v => decide (v < 200)
      | none => false) := by
  unfold tripOver
  rw [h, Bool.and_assoc]
  rfl

/-- Settles O42: each record is its updated one, kept, stopped or started (`recordAfter_updated`); with no trip due the stretches are the
ones read before the stops, and the stops follow from them, in the order of log entry 11. -/
theorem stagingCheckActs : Obligations.StagingCheckActs := by
  intro s
  refine ⟨execStagingCheck_done, fun hnow => ⟨_, execStagingCheck_due hnow, endEvent_plantStep (stagingWork_plantOnly s),
    stagingCheck_checkedAt s, fun hp => ⟨?_, fun hcharge => ?_⟩⟩⟩
  · rintro c r rfl r' rfl ended rfl
    have hafter := recordAfter_updated s c
    refine ⟨hafter.enable.trans (updatedRec_enable s c), stagingCheck_startLog s c, stagingCheck_tripLog s c, fun hl => ?_, fun ht he => ?_,
      fun ht he => ?_, fun x hx hr hdue => ?_, fun x hx hr hen hnone hon => ?_⟩
    · exact hafter.tripped_iff.2.2 (updatedRec_lockout hl)
    · exact hafter.tripped_iff.1.2 (updatedRec_waits ht ((tripOver_eq ht).trans he))
    · exact stagingCheck_released ((tripOver_eq ht).trans he)
    · have htrip := chargeTrip_of_stretch hx hr hdue
      obtain ⟨hstate, hsince⟩ := stagingCheck_trip htrip
      exact ⟨hstate, hsince, endEvent_compTrip htrip⟩
    · exact (runsUntripped_of_unbegun hr hnone).disabled hen hx hon
  · have htrip : NoTripDue s := .of_stretches hcharge
    have hruns : ∀ {c}, (s.comp c).state = .running → RunsUntripped s c := fun hr => ⟨hr, htrip _⟩
    have hend := stagingCheck_stretches hp
    have hstops := stagingStopped_stops s
    intro surplus hsurplus idle hidle
    rw [← htrip.surplus] at hsurplus
    rw [← htrip.idle] at hidle
    subst hsurplus hidle
    refine ⟨(hend.excess.trans hstops.excess).trans htrip.excess, hend.idle.trans hstops.idle,
      hstops.surplus.imp hend.surplus.trans hend.surplus.trans, fun hs hi => ?_, fun x y hx hdue hr hen hy => ⟨fun hon => ?_, ?_⟩,
      fun x y hx hdue hb hr hen hy hon => ?_, fun x hx hdue c y hr hy => ⟨fun hon => ?_, fun hon hlaw => ?_⟩,
      fun hs hi hlaw c hr hen => ?_⟩
    · rw [hend.surplus, stagingStopped_noneDue (not_lasted hs) (not_lasted hi), disabledStopped_surplus]
    · exact (hruns hr).surplusStop hen nofun hp (lasted_of hx hdue) hy hon
    · intro hon hlaw hra hea hi
      have hw : s.cs.wantedTotal + 4 ≤ s.ca.coolCap := by
        by_contra hno
        rw [htrip.surplus, if_neg hno] at hx
        cases hx
      obtain ⟨hkept, hcomp⟩ := RunsUntripped.surplusWaits (fun c => hruns (c := c) (by cases c <;> assumption))
        (fun c => by cases c <;> assumption) hp hlaw hw (not_lasted hi) hy hon
      refine ⟨hkept, fun c => ?_⟩
      rw [hcomp, ← ageLog_eq, ← ageLog_eq]
      rfl
    · exact (hruns hr).surplusStop hen (fun _ => hb) hp (lasted_of hx hdue) hy hon
    · exact (hruns hr).idleStop (lasted_of hx hdue) hy hon
    · rw [← hy]
      exact (hruns hr).runsOn hp htrip hlaw ((hruns hr).waits hy hon)
    · refine ((hruns hr).runsOn hp htrip hlaw ?_).1
      rw [stagingStopped_noneDue (not_lasted hs) (not_lasted hi), disabledStopped_enabled ((hruns hr).ready_fields.2.1.trans hen)]

end Sys2Proof.Machine
